-- ==== Sys2Proof/Word.lean ====
section
/-! DEFINITION. The number types of the HB2410: bytes, the wrapping 32-bit counts (frame count, beat number,
bar count) and the numbers of stations, lanes, pins, ports and mark inputs (00_scope.md, "Units and conventions"
and "Names"). -/

namespace Sys2Proof

/-- One byte of a link message or of a stream output. -/
abbrev Byte := BitVec 8

/-- A frame count: frames since hardware reset, wrapping at 2^32 (R29). -/
abbrev Frame := BitVec 32

/-- A beat number, wrapping at 2^32 (R3). -/
abbrev Beat := BitVec 32

/-- S0 to S3: a station and its link. -/
abbrev Station := Fin 4

/-- L0 to L15. -/
abbrev LaneId := Fin 16

/-- P0 to P7. -/
abbrev PinId := Fin 8

/-- T0 to T3. -/
abbrev PortId := Fin 4

/-- M0 and M1. -/
abbrev InputId := Fin 2

end Sys2Proof
end

