-- ==== Sys2Proof/Syntax.lean ====
section
/-! DEFINITION. The commands of the HB2410, one constructor per row of spec/opcode_table.json, with their operands. -/

namespace Sys2Proof

/-- A level change at a mark input (R42). -/
inductive LevelChange where
  | lowToHigh
  | highToLow
  deriving DecidableEq, Repr

/-- One character taken from a link's line: a byte whose stop bit is at mark, or a framing error, a character whose
stop bit is at space (R177). -/
inductive LineChar where
  | byte (b : Byte)
  | framingError
  deriving DecidableEq, Repr

/-- The straps as sampled on the release of RSTN (R203): the link bit rate (0 to 3 for 250 kbit/s to 2 Mbit/s),
STR2 (true: external) and STR3 (true: load the scene). -/
structure Straps where
  linkRate : Fin 4
  external : Bool
  load : Bool
  deriving DecidableEq, Repr

/-- The choices the manual leaves open inside one frame event (log entries 9 and 10).
`lanes`: the lanes named here are handled first, in this order, the others after them in index order.
`latePins`: the pins whose timer end is handled after the emissions of the frame event (R156).
`transportFirst`: at a bar crossing the Transport Controller handles the crossing before the METER notice
is raised (R201). -/
structure FrameOrder where
  lanes : List LaneId
  latePins : List PinId
  transportFirst : Bool
  deriving DecidableEq, Repr

/-- The order with nothing named: lanes in index order, timers first, METER notice first. -/
def FrameOrder.plain : FrameOrder := ⟨[], [], false⟩

/-- A rising edge on WCK as the internal oscillator measures it, in millionths of the nominal frame period
(log entry 12): the time since the rising edge before it, and the time since the internal frame boundary at which
the switch to external took effect (R34). -/
structure WckPeriod where
  period : Nat
  sinceSwitch : Nat
  deriving DecidableEq, Repr

/-- The position a Transport request measures its boundary from (R93, R101; log entry 41): the position as the request
is taken, or the one before the frame event whose lane issues are handled before it in the same frame period. -/
inductive Measured where
  | present
  | beforeFrame
  deriving DecidableEq, Repr

/-- What a TRANSPORT command carries: the body bytes after TAG, and the position its boundary is measured from. -/
structure TransportBody where
  fields : List Byte
  measured : Measured
  deriving DecidableEq, Repr

/-- The commands. A request carries the sender, its TAG and the body bytes after TAG, laid out as section 10.5 of
10_requests_answers_and_notices.md gives them (log entry 7). -/
inductive Instr where
  /-- PRESENCE, R185. -/
  | presence (st : Station) (tag : Byte) (fields : List Byte)
  /-- QUERY, R198. -/
  | query (st : Station) (tag : Byte) (fields : List Byte)
  /-- TAKE_LEAD, R68. -/
  | takeLead (st : Station) (tag : Byte) (fields : List Byte)
  /-- YIELD, R72. -/
  | yield (st : Station) (tag : Byte) (fields : List Byte)
  /-- SEIZE, R73. -/
  | seize (st : Station) (tag : Byte) (fields : List Byte)
  /-- SEIZE_CODE_SET, R75. -/
  | seizeCodeSet (st : Station) (tag : Byte) (fields : List Byte)
  /-- TEMPO, R23. -/
  | tempo (st : Station) (tag : Byte) (fields : List Byte)
  /-- NUDGE, R24. -/
  | nudge (st : Station) (tag : Byte) (fields : List Byte)
  /-- SET_METER, R25. -/
  | setMeter (st : Station) (tag : Byte) (fields : List Byte)
  /-- MARK, R41. -/
  | mark (st : Station) (tag : Byte) (fields : List Byte)
  /-- INPUT_SET, R45. -/
  | inputSet (st : Station) (tag : Byte) (fields : List Byte)
  /-- TRANSPORT, R91, with the position it measures from (R101). -/
  | transport (st : Station) (tag : Byte) (body : TransportBody)
  /-- LANE_SET, R116. -/
  | laneSet (st : Station) (tag : Byte) (fields : List Byte)
  /-- LANE_ENABLE, R121. -/
  | laneEnable (st : Station) (tag : Byte) (fields : List Byte)
  /-- LANE_DISABLE, R122. -/
  | laneDisable (st : Station) (tag : Byte) (fields : List Byte)
  /-- LANE_RELEASE, R123. -/
  | laneRelease (st : Station) (tag : Byte) (fields : List Byte)
  /-- PIN_SET, R162. -/
  | pinSet (st : Station) (tag : Byte) (fields : List Byte)
  /-- PORT_SET, R171. -/
  | portSet (st : Station) (tag : Byte) (fields : List Byte)
  /-- REFERENCE_SET, R38. -/
  | referenceSet (st : Station) (tag : Byte) (fields : List Byte)
  /-- SCENE_SAVE, R205. -/
  | sceneSave (st : Station) (tag : Byte) (fields : List Byte)
  /-- GRID_CLEAR, R209. -/
  | gridClear (st : Station) (tag : Byte) (fields : List Byte)
  /-- UNKNOWN_KIND, R193: a frame whose KIND byte is no station-to-part kind. -/
  | unknownKind (st : Station) (kind : Byte) (tag : Byte) (fields : List Byte)
  /-- SCENE_SAVE_COMPLETE, R206: `stored` says whether the memory accepted the record and the mark. -/
  | sceneSaveComplete (stored : Bool)
  /-- HARDWARE_RESET, R203: RSTN goes low, or power-on. -/
  | hardwareReset
  /-- RSTN_RELEASE, R203, with the levels of the straps. -/
  | rstnRelease (straps : Straps)
  /-- OSCILLATOR_STARTED, R203. -/
  | oscillatorStarted
  /-- FRAME_EVENT, R29: a frame event from the source in use (log entry 11). -/
  | frameEvent (order : FrameOrder)
  /-- HANDOVER_EFFECT, R82. -/
  | handoverEffect
  /-- TRANSPORT_BOUNDARY, R97. -/
  | transportBoundary
  /-- LANE_ACTIVATION, R111. -/
  | laneActivation (lane : LaneId)
  /-- STAGED_PART_APPLY, R120. -/
  | stagedPartApply (lane : LaneId)
  /-- PENDING_DISABLE_EFFECT, R122. -/
  | pendingDisableEffect (lane : LaneId)
  /-- PIN_TIMER_END, R155. -/
  | pinTimerEnd (pin : PinId)
  /-- ACTIVE_UNTIL_EXPIRY, R155. -/
  | activeUntilExpiry (pin : PinId)
  /-- LAST_EMISSION_EXPIRY, R145. -/
  | lastEmissionExpiry (lane : LaneId)
  /-- LAST_STAMP_EXPIRY, R50. -/
  | lastStampExpiry (st : Station)
  /-- EDGE_FRAME_EXPIRY, R43. -/
  | edgeFrameExpiry (input : InputId)
  /-- MARK_INPUT_EDGE, R42: the input's level changes. -/
  | markInputEdge (input : InputId) (change : LevelChange)
  /-- WCK_EDGE, R32: a rising edge on WCK. -/
  | wckEdge (measured : WckPeriod) (order : FrameOrder)
  /-- WCK_SILENCE, R33: three nominal frame periods without a rising edge. -/
  | wckSilence
  /-- SWITCH_TO_EXTERNAL, R34: the internal frame boundary at which a pending TO_EXTERNAL takes effect. -/
  | switchToExternal (order : FrameOrder)
  /-- SWITCH_TO_INTERNAL, R36: the frame boundary at which a pending TO_INTERNAL takes effect. -/
  | switchToInternal (order : FrameOrder)
  /-- CHARACTER_RECEIVED, R177. -/
  | characterReceived (st : Station) (char : LineChar)
  /-- GAP_DETECTED, R180. -/
  | gapDetected (st : Station)
  /-- BREAK_DETECTED, R181: the line has stood at space since frame count `spaceFrom`. -/
  | breakDetected (st : Station) (spaceFrom : Frame)
  /-- PRESENCE_EXPIRY, R183. -/
  | presenceExpiry (st : Station)
  /-- LEAD_LAPSE, R84. -/
  | leadLapse (st : Station)
  /-- FOLLOWER_EMPTIED, R60. -/
  | followerEmptied (st : Station)
  /-- LINK_MESSAGE_END, R186. -/
  | linkMessageEnd (st : Station)
  /-- PORT_CHARACTER_END, R164. -/
  | portCharacterEnd (port : PortId)
  /-- LINE_RETURNS_TO_MARK, R181. -/
  | lineReturnsToMark (st : Station)
  deriving DecidableEq, Repr

end Sys2Proof
end

