-- ==== Sys2Proof/Decode.lean ====
section
/-! DEFINITION. The command a word spells. spec/opcode_table.json gives no row any bits: commands come as messages,
characters and events, never as an instruction word, so every word is rejected. -/

namespace Sys2Proof

/-- The command spelled by the table's bits: no row of the table has bits, so no word spells one. -/
def decodeTableWord (_nbits _w : Nat) : Option Instr := none

end Sys2Proof
end

