-- ==== Sys2Proof/Config.lean ====
section
/-! DEFINITION. The constants the manual fixes for the part, and the one value it leaves open (a free value:
an opaque constant that no proof can evaluate). -/

namespace Sys2Proof.Config

/-- One beat, in u (00_scope.md, "Position"). -/
def beatU : Nat := 4294967296

/-- 60 s × 48,000 frames × 1,000 mBPM, the constant of R4 and R49. -/
def tempoScale : Nat := 2880000000

/-- The legal range of a tempo, in mBPM (00_scope.md, "Tempo"). -/
def tempoMin : Nat := 40000
def tempoMax : Nat := 300000

/-- The longest time-back of a Mark, in frames (R40). -/
def timeBackMax : Nat := 4800

/-- The shortest and the longest interval between marks, in frames (R48). -/
def intervalMin : Nat := 9600
def intervalMax : Nat := 72000

/-- The most intervals a history holds (R49). -/
def historyMax : Nat := 8

/-- Good WCK periods that qualify WCK (R33). -/
def qualifyRun : Nat := 4800

/-- The nominal frame period in the unit of WCK_EDGE's operands: a millionth of it (log entry 12). -/
def periodUnit : Nat := 1000000

/-- ±0.1% of the nominal period, in the same unit (R32). -/
def periodWindow : Nat := 1000

/-- Records a point queue holds at most (R141). -/
def pointQueueMax : Nat := 64

/-- The length of an indicator pulse, in frames (R161). -/
def indicatorFrames : Nat := 2400

/-- A gap inside a frame, in frames (R180). -/
def gapFrames : Nat := 96

/-- A break, in frames (R181). -/
def breakFrames : Nat := 192

/-- Frames of one ms at the nominal rate (R183). -/
def framesPerMs : Nat := 48

/-- The presence window after reset and after a departure, in ms (R184, R192). -/
def windowDefault : Nat := 500

/-- CRC-valid frames a receive frame queue holds (R182). -/
def rxQueueMax : Nat := 4

/-- Unsent messages a transmit queue holds (R186). -/
def txQueueMax : Nat := 8

/-- Codes a stream FIFO holds, tick codes among them, and codes beyond which a tick is owed (R166). -/
def fifoMax : Nat := 16
def tickMax : Nat := 14
def tickRoom : Nat := 13

/-- Items one walk takes at most. R132 keeps the compared positions within 65 beats, and a beat holds at most
96 points: the bound lies above every walk of positions R132 allows (log entry 22). -/
def walkBound : Nat := 6600

/-- FREE VALUE (log entry 28): the rate value byte that a report shows for a lane of rate PER_BAR. R195 says a
PER_BAR rate disregards its value byte, and R199 gives no value for it in a report. -/
opaque perBarRateByte : Byte

end Sys2Proof.Config
end

