-- ==== Sys2Proof/Machine/State.lean ====
section
/-! DEFINITION. Everything the manual gives the HB2410 to hold, block by block, as plain data, with the reasons a
step can stop and the state after a hardware reset. Each field names the rule that gives it. -/

namespace Sys2Proof.Machine

/-! ### Start-up (R203) -/

/-- How far start-up has come (log entry 3): RSTN low; the straps sampled and the oscillator starting; frames and
links begun. -/
inductive Phase where
  | reset
  | starting
  | running
  deriving DecidableEq, Repr

/-! ### Frame Reference Unit (chapter 2) -/

inductive RefSource where
  | internal
  | external
  deriving DecidableEq, Repr

inductive RefState where
  | internal
  | qualifying
  | external
  | fallback
  deriving DecidableEq, Repr

/-- The pending switch (R34, R36). -/
inductive Switch where
  | none
  | toExternal
  | toInternal
  deriving DecidableEq, Repr

/-- In EXTERNAL, what the next rising edge on WCK is (R34): perhaps the first WCK frame edge; a WCK frame edge; the
edge between two frame edges at divisor 2. -/
inductive WckPlace where
  | awaitFirst
  | frameNext
  | skipNext
  deriving DecidableEq, Repr

structure Fru where
  requested : RefSource
  state : RefState
  divisor : Nat
  nextDivisor : Nat
  run : Nat
  switch : Switch
  count : Frame
  /-- A rising edge has opened a measured period (R32). -/
  periodOpen : Bool
  place : WckPlace
  deriving DecidableEq, Repr

/-! ### Grid Engine (chapter 1) -/

inductive GridState where
  | unset
  | running
  | holdover
  deriving DecidableEq, Repr

/-- A position: beat number and fraction in u (R3). -/
structure Pos where
  beat : Beat
  frac : BitVec 32
  deriving DecidableEq, Repr

/-- The glide record S, G, n, i (R15). -/
structure Glide where
  start : Nat
  target : Nat
  length : Nat
  steps : Nat
  deriving DecidableEq, Repr

/-- The trim record (R19). -/
inductive Trim where
  | none
  | armed (a : Int)
  | applied (p : Int)
  | appliedArmed (p a : Int)
  deriving DecidableEq, Repr

/-- What the latest frame event or grid start crossed (R13; the model's own field, log entry 17). -/
inductive Crossing where
  | none
  | beat
  | bar
  deriving DecidableEq, Repr

structure Grid where
  state : GridState
  pos : Pos
  base : Nat
  baseInc : Nat
  appliedInc : Nat
  glide : Option Glide
  trim : Trim
  meter : Nat
  pendingMeter : Option Nat
  barStart : Beat
  beatInBar : Nat
  barCount : BitVec 32
  crossing : Crossing
  /-- The position before the latest frame event, where that frame event crossed no beat (R101; the model's own field,
  log entry 41). -/
  before : Option Pos
  deriving DecidableEq, Repr

/-! ### Mark Follower (chapter 3) -/

/-- The outcome of a mark (R41, R46). -/
inductive MarkOutcome where
  | first
  | restart
  | accepted
  | outlier
  | bounce
  | ignored
  | outOfOrder
  | bar
  deriving DecidableEq, Repr

/-- A follower record (R47). -/
structure Follower where
  runCount : Nat
  lastStamp : Option Frame
  history : List Nat
  estimate : Option Nat
  phaseError : Option Int
  deriving DecidableEq, Repr

/-- The empty follower record (R47). -/
def Follower.empty : Follower := ⟨0, none, [], none, none⟩

inductive EdgeKind where
  | rising
  | falling
  | both
  deriving DecidableEq, Repr

/-- A mark-input setting (R45). -/
structure InputSetting where
  station : Option Station
  edge : EdgeKind
  holdOff : Nat
  downbeat : Bool
  deriving DecidableEq, Repr

structure MarkInput where
  setting : InputSetting
  lastEdge : Option Frame
  lastOutcome : Option MarkOutcome
  deriving DecidableEq, Repr

/-! ### Lead Arbiter (chapter 4) -/

inductive LeadMode where
  | set
  | mark
  deriving DecidableEq, Repr

inductive Align where
  | bar
  | beat
  | now
  deriving DecidableEq, Repr

/-- Lead terms (R63). -/
structure Terms where
  mode : LeadMode
  followGlide : Nat
  deadBand : Nat
  gain : Nat
  align : Align
  tempo : Option Nat
  deriving DecidableEq, Repr

/-- A station with its lead terms: the holder, or an entry of the lead queue (R64, R65). -/
structure LeadEntry where
  station : Station
  terms : Terms
  deriving DecidableEq, Repr

/-- The handover record (R81). -/
structure Handover where
  station : Station
  align : Align
  terms : Terms
  startWait : Bool
  deriving DecidableEq, Repr

/-- The seize-failed latch when set (R76). -/
structure Latch where
  station : Station
  kind : Byte
  count : Nat
  deriving DecidableEq, Repr

structure Lead where
  holder : Option LeadEntry
  queue : List LeadEntry
  handover : Option Handover
  code : BitVec 16
  latch : Option Latch
  deriving DecidableEq, Repr

/-! ### Transport Controller (chapter 5) -/

inductive TransportState where
  | stopped
  | starting
  | playing
  | stopping
  deriving DecidableEq, Repr

/-- START, STOP or CONTINUE: a Transport kind and a transport mark. -/
inductive TransportKind where
  | start
  | stop
  | cont
  deriving DecidableEq, Repr

inductive Quantum where
  | beat
  | bar
  deriving DecidableEq, Repr

structure PendingTransport where
  kind : TransportKind
  quantum : Quantum
  boundary : Beat
  deriving DecidableEq, Repr

structure Transport where
  state : TransportState
  pending : Option PendingTransport
  songBar : BitVec 32
  deriving DecidableEq, Repr

/-! ### Lane Table and Lane Issuers (chapters 6 and 7) -/

inductive LaneKind where
  | pin
  | stream
  | notice
  deriving DecidableEq, Repr

inductive Target where
  | none
  | pin (p : PinId)
  | port (p : PortId)
  | station (s : Station)
  deriving DecidableEq, Repr

inductive Rate where
  | perBeat (p : Nat)
  | every (q : Nat)
  | perBar
  deriving DecidableEq, Repr

inductive Waveform where
  | pulse
  | toggle
  | gate
  | run
  deriving DecidableEq, Repr

inductive Polarity where
  | normal
  | inverted
  deriving DecidableEq, Repr

/-- The four codes that one mask bit names (R195). -/
structure Codes where
  tick : Byte
  start : Byte
  stop : Byte
  cont : Byte
  deriving DecidableEq, Repr

/-- A lane's settings (R106). -/
structure Settings where
  kind : LaneKind
  target : Target
  rate : Rate
  swing : Nat
  offset : Int
  align : Align
  waveform : Waveform
  width : Nat
  accent : Option Nat
  polarity : Polarity
  playOnly : Bool
  spacing : Nat
  codes : Codes
  barCode : Option Byte
  deriving DecidableEq, Repr

/-- A subset of the settings, as a Lane Set carries one and a staged part holds one (R116, R119): `none` where the
subset does not hold the field. -/
structure Patch where
  kind : Option LaneKind
  target : Option Target
  rate : Option Rate
  swing : Option Nat
  offset : Option Int
  align : Option Align
  waveform : Option Waveform
  width : Option Nat
  accent : Option (Option Nat)
  polarity : Option Polarity
  playOnly : Option Bool
  spacing : Option Nat
  codes : Option Codes
  barCode : Option (Option Byte)
  deriving DecidableEq, Repr

inductive LaneState where
  | off
  | arming
  | active
  deriving DecidableEq, Repr

/-- A boundary a lane waits for (R108): the beat start `beat`, or, with `bar`, the first bar start for the lane at or
after the beat start `beat`, tested as the lane reaches each beat start in turn (log entry 18). -/
structure LaneBoundary where
  bar : Bool
  beat : Beat
  deriving DecidableEq, Repr

/-- The activation point (R110): a position, or the first bar start for the lane at or after a beat start. -/
inductive Activation where
  | position (p : Pos)
  | barStart (beat : Beat)
  deriving DecidableEq, Repr

/-- The staged part (R119); its boundary's `bar` is the apply-at NEXT_BAR. -/
structure Staged where
  patch : Patch
  boundary : LaneBoundary
  deriving DecidableEq, Repr

/-- The next point with the position computed when it became next (R129, R132). -/
structure NextPoint where
  beat : Beat
  index : Nat
  frac : BitVec 32
  deriving DecidableEq, Repr

/-- A point record (R138). -/
structure PointRecord where
  due : Frame
  beatFlag : Bool
  barFlag : Bool
  mark : Option TransportKind
  count : Nat
  deriving DecidableEq, Repr

/-- An owed transport mark (R94). -/
structure Owed where
  kind : TransportKind
  boundary : Option Beat
  deriving DecidableEq, Repr

/-- A lane: its record in the Lane Table and what its Lane Issuer holds. `playing` and `emittedPlaying` are the
transport view and the emitted view, true for PLAYING. -/
structure Lane where
  settings : Settings
  owner : Option Station
  state : LaneState
  activation : Option Activation
  anchor : Option Beat
  staged : Option Staged
  disable : Option LaneBoundary
  nextPoint : Option NextPoint
  queue : List PointRecord
  lastEmission : Option Frame
  playing : Bool
  emittedPlaying : Bool
  owed : Option Owed
  deriving DecidableEq, Repr

/-! ### Pin Driver and Stream Ports (chapter 8) -/

inductive PinFunction where
  | lane
  | level
  | indicator
  deriving DecidableEq, Repr

/-- Indicator sources (R161). -/
inductive Source where
  | beat
  | bar
  | leadHeld
  | holdover
  | externalRef
  | seizeFailed
  | linkActivity (s : Station)
  | playing
  deriving DecidableEq, Repr

/-- A pin; `level` is true for ACTIVE, `timing` for a RUNNING timer. -/
structure Pin where
  function : PinFunction
  level : Bool
  polarity : Polarity
  source : Option Source
  timing : Bool
  activeUntil : Option Frame
  deriving DecidableEq, Repr

inductive PortRate where
  | r31250
  | r62500
  | r125000
  | r250000
  deriving DecidableEq, Repr

/-- The code a port sends, with the rate its character began at (R171). -/
structure SentCode where
  code : Byte
  rate : PortRate
  deriving DecidableEq, Repr

/-- A code in a port's FIFO; `tick` says that it entered as a tick code (R166; the model's own mark, log entry 44). -/
structure FifoCode where
  code : Byte
  tick : Bool
  deriving DecidableEq, Repr

structure Port where
  rate : PortRate
  sending : Option SentCode
  fifo : List FifoCode
  owedTicks : Nat
  owedTick : Option Byte
  held : Option Byte
  lost : Bool
  deriving DecidableEq, Repr

/-! ### Station links and messages (chapters 9 and 10) -/

inductive Reason where
  | granted
  | yielded
  | seized
  | lapsed
  | promoted
  | transport
  | reference
  | meter
  | cleared
  deriving DecidableEq, Repr

/-- A House Notice (R201). -/
structure HouseNotice where
  reason : Reason
  grid : GridState
  holder : Option Station
  queue : List Station
  transport : TransportState
  songBar : BitVec 32
  reference : RefState
  meter : Nat
  deriving DecidableEq, Repr

/-- A Beat Notice (R173, R202). It has no meter, against R13 (DESIGN CHOICE, log entry 48). -/
structure BeatNotice where
  lane : LaneId
  beat : Beat
  beatInBar : Nat
  barCount : BitVec 32
  songBar : BitVec 32
  base : Nat
  mark : Option TransportKind
  beatFlag : Bool
  barFlag : Bool
  skipped : Nat
  deriving DecidableEq, Repr

/-- A message from the part to a station (R186). A Report is held as its body bytes (R199). -/
inductive Message where
  | answer (kind tag result detail : Byte)
  | report (body : List Byte)
  | house (n : HouseNotice)
  | beat (n : BeatNotice)
  deriving DecidableEq, Repr

/-- The receiver state with the partial frame it holds (R178). -/
inductive Receiver where
  | hunt
  | length
  | body (len : Nat) (bytes : List Byte)
  | check (len : Nat) (bytes : List Byte) (high : Option Byte)
  deriving DecidableEq, Repr

structure Link where
  receiver : Receiver
  /-- The frame count at the last received byte (R180). -/
  lastByte : Frame
  /-- The line stands at space after a detected break (R181). -/
  heldAtSpace : Bool
  present : Bool
  windowMs : Nat
  countdown : Option Nat
  rxQueue : List (List Byte)
  txQueue : List Message
  sending : Option Message
  framing : Nat
  crc : Nat
  gap : Nat
  overrun : Nat
  answerLost : Bool
  /-- A departure was reported to the Lead Arbiter and it has not acted yet (R184, R84; log entry 16). -/
  lapseReported : Bool
  /-- A departure was reported to the Mark Follower and it has not acted yet (R184, R60; log entry 16). -/
  emptyReported : Bool
  deriving DecidableEq, Repr

/-! ### Scene Store (chapter 11) -/

structure SceneLane where
  settings : Settings
  off : Bool
  deriving DecidableEq, Repr

structure ScenePin where
  function : PinFunction
  polarity : Polarity
  source : Option Source
  deriving DecidableEq, Repr

/-- The scene record (R204). -/
structure Scene where
  lanes : Vector SceneLane 16
  pins : Vector ScenePin 8
  inputs : Vector InputSetting 2
  rates : Vector PortRate 4
  meter : Nat
  code : BitVec 16
  deriving DecidableEq, Repr

inductive LoadOutcome where
  | notRequested
  | loaded
  | invalid
  deriving DecidableEq, Repr

inductive SaveOutcome where
  | none
  | ok
  | storeFault
  deriving DecidableEq, Repr

/-- The TAG of a Scene Save being carried out, with the link it came from until that link departs (R206). -/
structure PendingAnswer where
  tag : Byte
  link : Option Station
  deriving DecidableEq, Repr

/-- The Scene Store. `saving` holds the snapshot being written: the store state is SAVING when it is present. -/
structure Store where
  saving : Option Scene
  stored : Option Scene
  valid : Bool
  load : LoadOutcome
  lastSave : SaveOutcome
  answer : Option PendingAnswer
  deriving DecidableEq, Repr

/-! ### The whole part -/

structure State where
  phase : Phase
  straps : Straps
  fru : Fru
  grid : Grid
  followers : Vector Follower 4
  inputs : Vector MarkInput 2
  lead : Lead
  tc : Transport
  lanes : Vector Lane 16
  pins : Vector Pin 8
  ports : Vector Port 4
  links : Vector Link 4
  rotation : Station
  store : Store
  pending : List Instr
  deriving DecidableEq, Repr

/-- Why a step stops with a fault: the manual gives the part no fault that stops it, so there is none. -/
inductive Fault where
  deriving DecidableEq, Repr

/-- Why a step is refused. -/
inductive Refusal where
  /-- Raised by exec for a command that has no meaning yet (none is left). Safe: nothing is claimed of it. -/
  | notModelled (mnemonic : String)
  deriving DecidableEq, Repr

/-! ### Reset values -/

/-- The lane settings of R106 by default. -/
def Settings.default : Settings where
  kind := .pin
  target := .none
  rate := .perBeat 1
  swing := 50
  offset := 0
  align := .bar
  waveform := .pulse
  width := 480
  accent := none
  polarity := .normal
  playOnly := false
  spacing := 24
  codes := ⟨0, 0, 0, 0⟩
  barCode := none

/-- The default lead terms of R63. -/
def Terms.default : Terms := ⟨.set, 0, 20, 4, .now, none⟩

/-- R39, with the straps not yet sampled (log entry 5). -/
def Fru.reset : Fru := ⟨.internal, .internal, 1, 1, 0, .none, 0, false, .awaitFirst⟩

/-- R28. -/
def Grid.reset : Grid where
  state := .unset
  pos := ⟨0, 0⟩
  base := 0
  baseInc := 0
  appliedInc := 0
  glide := none
  trim := .none
  meter := 4
  pendingMeter := none
  barStart := 0
  beatInBar := 0
  barCount := 0
  crossing := .none
  before := none

/-- R62. -/
def MarkInput.reset : MarkInput := ⟨⟨none, .rising, 4800, false⟩, none, none⟩

/-- R89. -/
def Lead.reset : Lead := ⟨none, [], none, 0, none⟩

/-- R105. -/
def Transport.reset : Transport := ⟨.stopped, none, 0⟩

/-- R127 and R152. -/
def Lane.reset : Lane where
  settings := Settings.default
  owner := none
  state := .off
  activation := none
  anchor := none
  staged := none
  disable := none
  nextPoint := none
  queue := []
  lastEmission := none
  playing := false
  emittedPlaying := false
  owed := none

/-- R175. -/
def Pin.reset : Pin := ⟨.level, false, .normal, none, false, none⟩

/-- R176. -/
def Port.reset : Port := ⟨.r31250, none, [], 0, none, none, false⟩

/-- R192. -/
def Link.reset : Link where
  receiver := .hunt
  lastByte := 0
  heldAtSpace := false
  present := false
  windowMs := Config.windowDefault
  countdown := none
  rxQueue := []
  txQueue := []
  sending := none
  framing := 0
  crc := 0
  gap := 0
  overrun := 0
  answerLost := false
  lapseReported := false
  emptyReported := false

/-- R210, for a store that was never written (log entry 6). The load outcome between a hardware reset and step 3 of
start-up, which R207 sets only at that step, is the model's choice: NOT_REQUESTED (log entry 43). -/
def Store.reset : Store := ⟨none, none, false, .notRequested, .none, none⟩

/-- The machine after a hardware reset, RSTN still low (R203; log entries 3 to 6). -/
def State.reset : State where
  phase := .reset
  straps := ⟨0, false, false⟩
  fru := Fru.reset
  grid := Grid.reset
  followers := Vector.replicate 4 Follower.empty
  inputs := Vector.replicate 2 MarkInput.reset
  lead := Lead.reset
  tc := Transport.reset
  lanes := Vector.replicate 16 Lane.reset
  pins := Vector.replicate 8 Pin.reset
  ports := Vector.replicate 4 Port.reset
  links := Vector.replicate 4 Link.reset
  rotation := 0
  store := Store.reset
  pending := []

end Sys2Proof.Machine
end

