-- ==== Sys2Proof/Machine/Arith.lean ====
section
/-! DEFINITION. The arithmetic the manual fixes in 00_scope.md ("Units and conventions"): rounding, clamping,
frame intervals and the due test, positions, and bar starts. -/

namespace Sys2Proof.Machine

/-- Rounded to the nearest integer, halves away from zero, for a quotient that is not negative. -/
def roundNat (n d : Nat) : Nat := (2 * n + d) / (2 * d)

/-- Rounded to the nearest integer, halves away from zero. -/
def roundInt (n : Int) (d : Nat) : Int :=
  if 0 ≤ n then (roundNat n.toNat d : Int) else -(roundNat (-n).toNat d : Int)

/-- A value clamped to a range (R194). -/
def clampNat (lo hi n : Nat) : Nat := if n < lo then lo else if hi < n then hi else n

/-- A signed value clamped to a range (R194). -/
def clampInt (lo hi n : Int) : Int := if n < lo then lo else if hi < n then hi else n

/-- One more, saturating (R76, R190). -/
def satInc (limit n : Nat) : Nat := if n < limit then n + 1 else limit

/-! ### Frames (R30) -/

/-- The interval from frame count a to frame count b. -/
def interval (a b : Frame) : Nat := (b - a).toNat

/-- Due frame d is reached at this count. -/
def dueReached (d count : Frame) : Bool := decide (interval d count < 2147483648)

/-- Due frame d1 is earlier than d2 (R141). -/
def earlier (d1 d2 : Frame) : Bool := decide (1 ≤ interval d1 d2 ∧ interval d1 d2 ≤ 2147483647)

/-- The interval from a stored frame count to the current one has reached 2^30 frames (R43, R50, R155), within the
half range in which R30 reads a stored count as past (log entry 24). -/
def reached30 (a count : Frame) : Bool :=
  decide (1073741824 ≤ interval a count ∧ interval a count < 2147483648)

/-- The interval has reached 2^31 frames (R145). -/
def reached31 (a count : Frame) : Bool := decide (2147483648 ≤ interval a count)

/-- A frame count some frames on. -/
def framesOn (c : Frame) (n : Nat) : Frame := c + BitVec.ofNat 32 n

/-! ### Positions (R3, R132) -/

/-- A position in u. -/
def Pos.toU (p : Pos) : Nat := p.beat.toNat * Config.beatU + p.frac.toNat

/-- The position of a number of u, the beat number wrapping. -/
def Pos.ofU (n : Nat) : Pos := ⟨BitVec.ofNat 32 (n / Config.beatU), BitVec.ofNat 32 n⟩

/-- A position n u further on, with carry from the fraction into the beat number. -/
def Pos.add (p : Pos) (n : Nat) : Pos := Pos.ofU (p.toU + n)

/-- A position n u back, with borrow from the beat number (R52). -/
def Pos.sub (p : Pos) (n : Nat) : Pos := Pos.ofU (p.toU + (2 ^ 64 - n % 2 ^ 64))

/-- The start of a beat. -/
def Pos.beatStart (b : Beat) : Pos := ⟨b, 0⟩

/-- Position x is at or beyond position y (R132). -/
def Pos.atOrBeyond (x y : Pos) : Bool :=
  let d := (x.beat - y.beat).toInt
  decide (0 < d ∨ (d = 0 ∧ y.frac.toNat ≤ x.frac.toNat))

/-- Position x is strictly beyond position y. -/
def Pos.strictlyBeyond (x y : Pos) : Bool := !y.atOrBeyond x

/-! ### Bar starts (R93, R108) -/

/-- (b − bar start beat) modulo the meter, the difference taken as signed (log entry 23). -/
def barRemainder (g : Grid) (b : Beat) : Nat := ((b - g.barStart).toInt % (g.meter : Int)).toNat

/-- Beat b is a bar start under the numbering the Grid Engine holds. -/
def isBarStart (g : Grid) (b : Beat) : Bool := decide (barRemainder g b = 0)

/-- The first bar start at or after beat b. -/
def firstBarFrom (g : Grid) (b : Beat) : Beat :=
  b + BitVec.ofNat 32 ((g.meter - barRemainder g b) % g.meter)

end Sys2Proof.Machine
end

