-- ==== Sys2Proof/Machine/Encode.lean ====
section
/-! DEFINITION. The byte layouts of chapter 10: enumerated values (R194), fields most significant byte first, the
bodies of Answers and notices, the settings in Lane Set order, and the link envelope with its CRC (R179). -/

namespace Sys2Proof.Machine

/-! ### Fields, most significant byte first (R194) -/

def be1 (n : Nat) : List Byte := [BitVec.ofNat 8 n]
def be2 (n : Nat) : List Byte := [BitVec.ofNat 8 (n / 256), BitVec.ofNat 8 n]
def be3 (n : Nat) : List Byte := [BitVec.ofNat 8 (n / 65536), BitVec.ofNat 8 (n / 256), BitVec.ofNat 8 n]
def be4 (n : Nat) : List Byte :=
  [BitVec.ofNat 8 (n / 16777216), BitVec.ofNat 8 (n / 65536), BitVec.ofNat 8 (n / 256), BitVec.ofNat 8 n]

/-- A 32-bit field. -/
def be32 (w : BitVec 32) : List Byte := be4 w.toNat

/-- Signed fields in two's complement. -/
def beSigned2 (i : Int) : List Byte := be2 (BitVec.ofInt 16 i).toNat
def beSigned3 (i : Int) : List Byte := be3 (BitVec.ofInt 24 i).toNat
def beSigned4 (i : Int) : List Byte := be4 (BitVec.ofInt 32 i).toNat

/-- A flag or presence byte. -/
def flagByte (b : Bool) : Byte := if b then 1 else 0

/-- An optional item: a presence byte and the item's bytes, zeros when it is absent (R199). -/
def optional {α : Type} (width : Nat) (enc : α → List Byte) : Option α → List Byte
  | some a => 1 :: enc a
  | none => 0 :: List.replicate width 0

/-! ### Enumerated values (R194) -/

def stationByte (s : Station) : Byte := BitVec.ofNat 8 s.val

/-- A station or none. -/
def stationOpt : Option Station → Byte
  | some s => stationByte s
  | none => 0xFF

def gridByte : GridState → Byte
  | .unset => 0 | .running => 1 | .holdover => 2

def transportByte : TransportState → Byte
  | .stopped => 0 | .starting => 1 | .playing => 2 | .stopping => 3

def refByte : RefState → Byte
  | .internal => 0 | .qualifying => 1 | .external => 2 | .fallback => 3

def refSourceByte : RefSource → Byte
  | .internal => 0 | .external => 1

def switchByte : Switch → Byte
  | .none => 0 | .toExternal => 1 | .toInternal => 2

/-- A transport mark; 0 for none. -/
def markByte : Option TransportKind → Byte
  | none => 0 | some .start => 1 | some .stop => 2 | some .cont => 3

/-- A Transport kind. -/
def kindByte : TransportKind → Byte
  | .start => 0 | .stop => 1 | .cont => 2

def quantumByte : Quantum → Byte
  | .beat => 0 | .bar => 1

def modeByte : LeadMode → Byte
  | .set => 0 | .mark => 1

def alignByte : Align → Byte
  | .bar => 0 | .beat => 1 | .now => 2

/-- The apply-at of a waiting boundary. -/
def applyAtByte (b : LaneBoundary) : Byte := if b.bar then 2 else 1

def laneKindByte : LaneKind → Byte
  | .pin => 0 | .stream => 1 | .notice => 2

def laneStateByte : LaneState → Byte
  | .off => 0 | .arming => 1 | .active => 2

def waveformByte : Waveform → Byte
  | .pulse => 0 | .toggle => 1 | .gate => 2 | .run => 3

def polarityByte : Polarity → Byte
  | .normal => 0 | .inverted => 1

def functionByte : PinFunction → Byte
  | .lane => 0 | .level => 1 | .indicator => 2

def sourceByte : Source → Byte
  | .beat => 0 | .bar => 1 | .leadHeld => 2 | .holdover => 3 | .externalRef => 4 | .seizeFailed => 5
  | .linkActivity _ => 6 | .playing => 7

/-- An indicator source: its value, then its LINK_ACTIVITY station (section 10.5). -/
def sourceBytes : Option Source → List Byte
  | none => [0xFF, 0xFF]
  | some (.linkActivity s) => [6, stationByte s]
  | some x => [sourceByte x, 0xFF]

def edgeByte : EdgeKind → Byte
  | .rising => 0 | .falling => 1 | .both => 2

def portRateByte : PortRate → Byte
  | .r31250 => 0 | .r62500 => 1 | .r125000 => 2 | .r250000 => 3

def reasonByte : Reason → Byte
  | .granted => 1 | .yielded => 2 | .seized => 3 | .lapsed => 4 | .promoted => 5 | .transport => 6
  | .reference => 7 | .meter => 8 | .cleared => 9

/-- The outcome of a mark: the detail of a Mark answer (R41), and the last outcome of an input (R194). -/
def outcomeByte : MarkOutcome → Byte
  | .first => 1 | .restart => 2 | .accepted => 3 | .outlier => 4 | .bounce => 5 | .ignored => 6
  | .outOfOrder => 7 | .bar => 8

def loadByte : LoadOutcome → Byte
  | .notRequested => 0 | .loaded => 1 | .invalid => 2

def saveByte : SaveOutcome → Byte
  | .none => 0 | .ok => 1 | .storeFault => 2

def targetByte : Target → Byte
  | .none => 0xFF
  | .pin p => BitVec.ofNat 8 p.val
  | .port p => BitVec.ofNat 8 p.val
  | .station s => BitVec.ofNat 8 s.val

/-- Rate form and value. The value byte of PER_BAR is a free value (log entry 28). -/
def rateBytes : Rate → List Byte
  | .perBeat p => [0, BitVec.ofNat 8 p]
  | .every q => [1, BitVec.ofNat 8 q]
  | .perBar => [2, Config.perBarRateByte]

/-! ### Records -/

/-- Lead terms, as Take Lead body bytes 2 to 10. -/
def termsBytes (t : Terms) : List Byte :=
  [modeByte t.mode, BitVec.ofNat 8 t.followGlide] ++ be2 t.deadBand ++
    [BitVec.ofNat 8 t.gain, alignByte t.align] ++ be3 (t.tempo.getD 0)

/-- The settings in the order and encoding of a Lane Set's bytes 9 to 30. -/
def settingsBytes (x : Settings) : List Byte :=
  [laneKindByte x.kind, targetByte x.target] ++ rateBytes x.rate ++ be1 x.swing ++ beSigned2 x.offset ++
    [alignByte x.align, waveformByte x.waveform] ++ be2 x.width ++ be2 (x.accent.getD 0) ++
    [polarityByte x.polarity, flagByte x.playOnly] ++ be1 x.spacing ++
    [x.codes.tick, x.codes.start, x.codes.stop, x.codes.cont] ++ optional 1 (fun b => [b]) x.barCode

/-- The bytes of a field of a patch, zeros where the patch does not hold it (log entry 27). -/
def held {α : Type} (width : Nat) (enc : α → List Byte) : Option α → List Byte
  | some a => enc a
  | none => List.replicate width 0

/-- The settings a patch holds, in the order and encoding of a Lane Set's bytes 9 to 30. -/
def patchBytes (p : Patch) : List Byte :=
  held 1 (fun k => [laneKindByte k]) p.kind ++ held 1 (fun t => [targetByte t]) p.target ++
    held 2 rateBytes p.rate ++ held 1 be1 p.swing ++ held 2 beSigned2 p.offset ++
    held 1 (fun a => [alignByte a]) p.align ++ held 1 (fun w => [waveformByte w]) p.waveform ++
    held 2 be2 p.width ++ held 2 (fun a => be2 (Option.getD a 0)) p.accent ++
    held 1 (fun x => [polarityByte x]) p.polarity ++ held 1 (fun b => [flagByte b]) p.playOnly ++
    held 1 be1 p.spacing ++ held 4 (fun c => [Codes.tick c, c.start, c.stop, c.cont]) p.codes ++
    held 2 (fun b => optional 1 (fun x => [x]) b) p.barCode

/-- The mask of the settings a patch holds (R195). -/
def patchMask (p : Patch) : Nat :=
  p.kind.isSome.toNat + p.target.isSome.toNat * 2 + p.rate.isSome.toNat * 4 + p.swing.isSome.toNat * 8 +
    p.offset.isSome.toNat * 16 + p.align.isSome.toNat * 32 + p.waveform.isSome.toNat * 64 +
    p.width.isSome.toNat * 128 + p.accent.isSome.toNat * 256 + p.polarity.isSome.toNat * 512 +
    p.playOnly.isSome.toNat * 1024 + p.spacing.isSome.toNat * 2048 + p.codes.isSome.toNat * 4096 +
    p.barCode.isSome.toNat * 8192

/-! ### Message bodies (section 10.5) -/

/-- The body of a House Notice. -/
def houseBody (n : HouseNotice) : List Byte :=
  [0x82, 0, reasonByte n.reason, gridByte n.grid, stationOpt n.holder, stationOpt n.queue[0]?,
    stationOpt n.queue[1]?, stationOpt n.queue[2]?, transportByte n.transport] ++ be32 n.songBar ++
    [refByte n.reference, BitVec.ofNat 8 n.meter]

/-- The body of a Beat Notice, by the layout of section 10.5 and the items of R173. It has no meter, which R13 says Beat
Notices show (DESIGN CHOICE, log entry 48). -/
def beatBody (n : BeatNotice) : List Byte :=
  [0x83, 0, BitVec.ofNat 8 n.lane.val] ++ be32 n.beat ++ be1 n.beatInBar ++ be32 n.barCount ++ be32 n.songBar ++
    be3 n.base ++ [markByte n.mark, BitVec.ofNat 8 (n.beatFlag.toNat + 2 * n.barFlag.toNat)] ++ be1 n.skipped

/-- The body of a message. -/
def messageBody : Message → List Byte
  | .answer kind tag result detail => [0x80, tag, kind, result, detail]
  | .report body => body
  | .house n => houseBody n
  | .beat n => beatBody n

/-! ### The envelope (section 9.1, R179) -/

/-- One bit of the CRC register under x^16 + x^12 + x^5 + 1. -/
def crcBit (reg : BitVec 16) (bit : Bool) : BitVec 16 :=
  if reg.msb == bit then reg <<< 1 else (reg <<< 1) ^^^ 0x1021

/-- One byte, most significant bit first. -/
def crcByte (reg : BitVec 16) (b : Byte) : BitVec 16 :=
  [7, 6, 5, 4, 3, 2, 1, 0].foldl (fun r i => crcBit r (b.getLsbD i)) reg

/-- The CRC-16 of a run of bytes, the register set to 0xFFFF before them. -/
def crc16 (bytes : List Byte) : BitVec 16 := bytes.foldl crcByte 0xFFFF

/-- A body enclosed in its envelope: SYNC, LEN, body, CRC high byte first. -/
def linkFrame (body : List Byte) : List Byte :=
  let len := BitVec.ofNat 8 body.length
  [0xD5, len] ++ body ++ be2 (crc16 (len :: body)).toNat

end Sys2Proof.Machine
end

