-- ==== Sys2Proof/Machine/Flags.lean ====
section
/-! DEFINITION. The result codes of R196, the seize-failed latch (R76), and the states that level indicators show
(R161). -/

namespace Sys2Proof.Machine

/-- Result codes (R196). -/
inductive ResultCode where
  | ok
  | queued
  | clamped
  | noChange
  | replaced
  | notLead
  | wrongMode
  | badCode
  | seizeOff
  | held
  | laneActive
  | pinTaken
  | portTaken
  | notStarted
  | badField
  | busy
  | unknownKind
  | storeFault
  deriving DecidableEq, Repr

/-- The values of R196. -/
def resultByte : ResultCode → Byte
  | .ok => 0x00 | .queued => 0x01 | .clamped => 0x02 | .noChange => 0x03 | .replaced => 0x04
  | .notLead => 0x10 | .wrongMode => 0x11 | .badCode => 0x12 | .seizeOff => 0x13 | .held => 0x14
  | .laneActive => 0x15 | .pinTaken => 0x16 | .portTaken => 0x17 | .notStarted => 0x18 | .badField => 0x19
  | .busy => 0x1A | .unknownKind => 0x1B | .storeFault => 0x1C

/-- How the taking of a request ends (R196): an Answer, a Report with its body after TAG, or, for an accepted Scene
Save, nothing yet. -/
inductive Reply where
  | answer (r : ResultCode) (detail : Byte)
  | report (contents : List Byte)
  | deferred
  deriving DecidableEq, Repr

/-- CLAMPED where a field was clamped, else another code. -/
def clampedOr (clamped : Bool) (r : ResultCode) : ResultCode := if clamped then .clamped else r

/-- The seize-failed latch after a BAD_CODE refusal (R76). -/
def latchAfter (old : Option Latch) (st : Station) (kind : Byte) : Latch :=
  match old with
  | none => ⟨st, kind, 1⟩
  | some l => ⟨st, kind, satInc 255 l.count⟩

/-- The four bytes of the latch in a LEAD report (section 10.5). -/
def latchBytes : Option Latch → List Byte
  | none => [0, 0, 0, 0]
  | some l => [1, stationByte l.station, l.kind, BitVec.ofNat 8 l.count]

/-- The state a level source shows; `none` for a pulse source (R161). -/
def levelOf (s : State) : Source → Option Bool
  | .leadHeld => some s.lead.holder.isSome
  | .holdover => some (decide (s.grid.state = .holdover))
  | .externalRef => some (decide (s.fru.state = .external))
  | .seizeFailed => some s.lead.latch.isSome
  | .playing => some (decide (s.tc.state = .playing ∨ s.tc.state = .stopping))
  | .beat => none
  | .bar => none
  | .linkActivity _ => none

end Sys2Proof.Machine
end

