-- ==== Sys2Proof/Machine/Ops.lean ====
section
/-! DEFINITION. The operations the commands share: element access, the transmit queues and notices (R186 to R189,
R201), indicators (R161), pin timers (R155), stream ports (R164 to R170) and the start of the taking of a request
(R191, R193). -/

namespace Sys2Proof.Machine

/-! ### Elements -/

def State.follower (s : State) (i : Station) : Follower := s.followers[i]
def State.input (s : State) (i : InputId) : MarkInput := s.inputs[i]
def State.lane (s : State) (i : LaneId) : Lane := s.lanes[i]
def State.pin (s : State) (i : PinId) : Pin := s.pins[i]
def State.port (s : State) (i : PortId) : Port := s.ports[i]
def State.link (s : State) (i : Station) : Link := s.links[i]

def State.setFollower (s : State) (i : Station) (x : Follower) : State :=
  { s with followers := s.followers.set i.val x i.isLt }
def State.setInput (s : State) (i : InputId) (x : MarkInput) : State :=
  { s with inputs := s.inputs.set i.val x i.isLt }
def State.setLane (s : State) (i : LaneId) (x : Lane) : State := { s with lanes := s.lanes.set i.val x i.isLt }
def State.setPin (s : State) (i : PinId) (x : Pin) : State := { s with pins := s.pins.set i.val x i.isLt }
def State.setPort (s : State) (i : PortId) (x : Port) : State := { s with ports := s.ports.set i.val x i.isLt }
def State.setLink (s : State) (i : Station) (x : Link) : State := { s with links := s.links.set i.val x i.isLt }

/-- Every element changed by a function of its place and its value. -/
def mapEach {α β : Type} {n : Nat} (v : Vector α n) (f : Fin n → α → β) : Vector β n :=
  Vector.ofFn fun i => f i v[i]

/-- Frames and links have begun: the state in which a moment other than start-up can come (log entry 3). -/
def whenRunning (f : State → State) (s : State) : State := if s.phase = .running then f s else s

/-! ### Transmit queues (R186 to R189) -/

/-- A message leaves an IDLE transmitter's queue at once (R186). -/
def txStart (k : Link) : Link :=
  match k.sending, k.txQueue with
  | none, m :: rest => { k with sending := some m, txQueue := rest }
  | _, _ => k

def isHouse : Message → Bool
  | .house _ => true
  | _ => false

def isBeat : Message → Bool
  | .beat _ => true
  | _ => false

def isNotice (m : Message) : Bool := isHouse m || isBeat m

/-- The Beat Notice of a lane, when the message is one. -/
def beatOf (l : LaneId) : Message → Option BeatNotice
  | .beat n => if n.lane = l then some n else none
  | _ => none

/-- The first message that satisfies p taken out of a queue. -/
def dropFirst (p : Message → Bool) : List Message → List Message
  | [] => []
  | m :: rest => if p m then rest else m :: dropFirst p rest

/-- The first message that satisfies p replaced in its place. -/
def replaceFirst (p : Message → Bool) (new : Message) : List Message → List Message
  | [] => []
  | m :: rest => if p m then new :: rest else m :: replaceFirst p new rest

/-- A House Notice placed in one link's transmit queue (R187). -/
def placeHouse (n : HouseNotice) (k : Link) : Link :=
  if k.txQueue.any isHouse then txStart { k with txQueue := replaceFirst isHouse (.house n) k.txQueue }
  else if k.txQueue.length < Config.txQueueMax then txStart { k with txQueue := k.txQueue ++ [.house n] }
  else if k.txQueue.any isBeat then txStart { k with txQueue := dropFirst isBeat k.txQueue ++ [.house n] }
  else k

/-- A Beat Notice placed in one link's transmit queue (R188). -/
def placeBeat (n : BeatNotice) (k : Link) : Link :=
  match k.txQueue.findSome? (beatOf n.lane) with
  | some old =>
    let new : BeatNotice := { n with skipped := satInc 255 old.skipped }
    txStart { k with txQueue := replaceFirst (fun m => (beatOf n.lane m).isSome) (.beat new) k.txQueue }
  | none =>
    if k.txQueue.length < Config.txQueueMax then txStart { k with txQueue := k.txQueue ++ [.beat n] } else k

/-- An Answer or a Report placed in one link's transmit queue (R189). -/
def placeAnswer (m : Message) (k : Link) : Link :=
  if !k.present then k
  else if k.txQueue.length < Config.txQueueMax then txStart { k with txQueue := k.txQueue ++ [m] }
  else if k.txQueue.any isNotice then txStart { k with txQueue := dropFirst isNotice k.txQueue ++ [m] }
  else { k with answerLost := true }

/-- The House Notice the state gives (R201). -/
def houseNotice (r : Reason) (s : State) : HouseNotice where
  reason := r
  grid := s.grid.state
  holder := s.lead.holder.map LeadEntry.station
  queue := s.lead.queue.map LeadEntry.station
  transport := s.tc.state
  songBar := s.tc.songBar
  reference := s.fru.state
  meter := s.grid.meter

/-- A House Notice raised: a copy placed for every PRESENT link (R187, R201). -/
def raiseHouse (r : Reason) (s : State) : State :=
  { s with links := mapEach s.links fun _ k => if k.present then placeHouse (houseNotice r s) k else k }

/-! ### Pins: timers and indicators (R155, R161) -/

/-- A timed activation of a pin (R155). -/
def activate (count : Frame) (frames : Nat) (p : Pin) : Pin :=
  { p with level := true, timing := true, activeUntil := some (framesOn count frames) }

/-- The end of a timed activation, once its frame is reached (R155). -/
def timerEnd (count : Frame) (p : Pin) : Pin :=
  match p.activeUntil with
  | some d => if p.timing && dueReached d count then { p with level := false, timing := false } else p
  | none => p

/-- The active-until frame of an IDLE timer expires (R155). -/
def activeUntilExpire (count : Frame) (p : Pin) : Pin :=
  match p.activeUntil with
  | some d => if !p.timing && reached30 d count then { p with activeUntil := none } else p
  | none => p

/-- An event of a pulse source starts or restarts its pins' pulses (R161). -/
def pulseSource (src : Source) (s : State) : State :=
  { s with pins := mapEach s.pins fun _ p =>
      if p.function = .indicator ∧ p.source = some src then activate s.fru.count Config.indicatorFrames p else p }

/-- A level source's pins take its state, at a change of it (R161). -/
def showSource (src : Source) (s : State) : State :=
  match levelOf s src with
  | none => s
  | some on =>
    { s with pins := mapEach s.pins fun _ p =>
        if p.function = .indicator ∧ p.source = some src then { p with level := on } else p }

/-- A PIN lane takes its pin (R160). -/
def pinTaken (p : Pin) : Pin :=
  { p with function := .lane, level := false, timing := false, source := none, activeUntil := none }

/-- A disable releases a pin (R160). -/
def pinReleased (p : Pin) : Pin :=
  { p with function := .level, level := false, timing := false, activeUntil := none }

/-- The lane that holds a pin: the non-OFF PIN lane that targets it (R153). -/
def pinHolder (s : State) (p : PinId) : Option LaneId :=
  (List.finRange 16).find? fun l =>
    decide ((s.lane l).state ≠ .off ∧ (s.lane l).settings.kind = .pin ∧ (s.lane l).settings.target = .pin p)

/-- The polarity that governs a pin (R154). -/
def governingPolarity (s : State) (p : PinId) : Polarity :=
  if (s.pin p).function = .lane then
    match pinHolder s p with
    | some l => (s.lane l).settings.polarity
    | none => (s.pin p).polarity
  else (s.pin p).polarity

/-- The level shown at a pin, true for high (R154). R175 and R203 speak of it from the sampling of the straps on: while RSTN
is low it is taken as the level under the pin's own polarity too (DESIGN CHOICE, log entry 47). -/
def pinShown (s : State) (p : PinId) : Bool :=
  match governingPolarity s p with
  | .normal => (s.pin p).level
  | .inverted => !(s.pin p).level

/-! ### Stream ports (R164 to R170) -/

/-- What a port owes enters at a leaving (R169). -/
def portDrain (p : Port) : Port :=
  let p1 : Port :=
    match p.owedTick with
    | some t =>
      if 0 < p.owedTicks ∧ p.fifo.length ≤ Config.tickRoom then
        { p with fifo := p.fifo ++ [⟨t, true⟩], owedTicks := p.owedTicks - 1,
                 owedTick := if p.owedTicks = 1 then none else some t }
      else p
    | none => p
  match p1.held with
  | some c => if p1.owedTicks = 0 then { p1 with fifo := p1.fifo ++ [⟨c, false⟩], held := none } else p1
  | none => p1

/-- The head code leaves the FIFO and is sent, and the port drains; with no code the transmitter is IDLE (R164). -/
def portLeave (p : Port) : Port :=
  match p.fifo with
  | c :: rest => portDrain { p with sending := some ⟨c.code, p.rate⟩, fifo := rest }
  | [] => { p with sending := none }

/-- A code enters the FIFO; while the transmitter is IDLE it leaves at once (R164). -/
def portEnter (c : FifoCode) (p : Port) : Port :=
  let p1 : Port := { p with fifo := p.fifo ++ [c] }
  match p.sending with
  | none => portLeave p1
  | some _ => p1

/-- A tick code (R166). -/
def portTick (c : Byte) (p : Port) : Port :=
  if p.fifo.length ≤ Config.tickRoom ∧ p.owedTicks = 0 then portEnter ⟨c, true⟩ p
  else { p with owedTicks := satInc 255 p.owedTicks, owedTick := some c }

/-- A transport code (R167). -/
def portTransport (c : Byte) (p : Port) : Port :=
  if p.owedTicks = 0 then
    if p.fifo.length < Config.fifoMax then portEnter ⟨c, false⟩ p else { p with lost := true }
  else { p with held := some c }

/-- A bar code (R168). -/
def portBar (c : Byte) (p : Port) : Port := if p.fifo.length < Config.fifoMax then portEnter ⟨c, false⟩ p else p

/-- The lanes in ARMING or ACTIVE that target a port, lowest index first (R171, R172). -/
def portLanes (s : State) (p : PortId) : List LaneId :=
  (List.finRange 16).filter fun l =>
    decide ((s.lane l).state ≠ .off ∧ (s.lane l).settings.kind = .stream ∧ (s.lane l).settings.target = .port p)

/-! ### The seize-failed latch (R76) -/

/-- A BAD_CODE refusal sets the latch, and the SEIZE_FAILED pins follow. -/
def setLatch (st : Station) (kind : Byte) (s : State) : State :=
  showSource .seizeFailed { s with lead := { s.lead with latch := some (latchAfter s.lead.latch st kind) } }

/-! ### The taking of a request (R191, R193, R196) -/

/-- The links in the order the request handler looks at them (R191). -/
def rotationOrder (p : Station) : List Station := [p, p + 1, p + 2, p + 3]

/-- The frame the request handler takes next: the oldest of the first receive frame queue that is not empty, from
the link the rotation pointer names (R191). -/
def nextFrame (s : State) : Option (Station × List Byte) :=
  (rotationOrder s.rotation).findSome? fun st => (s.link st).rxQueue.head?.map fun b => (st, b)

/-- The state after the request handler takes a frame from a link: the frame has left its queue, and the pointer is
the link after (R182, R191). -/
def afterTaking (st : Station) (s : State) : State :=
  { s.setLink st { s.link st with rxQueue := (s.link st).rxQueue.tail } with rotation := st + 1 }

/-- The request handler takes this frame from this link, if it is the frame it takes next, or if no frame waits and
this one is handed to it straight (log entry 7); otherwise this taking cannot come now. -/
def takeFrame (st : Station) (body : List Byte) (s : State) : Option State :=
  match nextFrame s with
  | some next => if next = (st, body) then some (afterTaking st s) else none
  | none => some (afterTaking st s)

/-- The Answer or Report that ends a taking (R196). -/
def placeReply (st : Station) (kind tag : Byte) (r : Reply) (s : State) : State :=
  match r with
  | .answer code detail =>
    s.setLink st (placeAnswer (.answer kind tag (resultByte code) detail) (s.link st))
  | .report contents => s.setLink st (placeAnswer (.report ([0x81, tag] ++ contents)) (s.link st))
  | .deferred => s

/-- The taking of a request: the common check of the length, then the owner's part, then its reply (R193, R196).
`lengths` are the body lengths listed for the kind. -/
def takeRequest (st : Station) (kind tag : Byte) (fields : List Byte) (lengths : List Nat)
    (owner : State → State × Reply) (s : State) : State :=
  whenRunning (fun s =>
    match takeFrame st (kind :: tag :: fields) s with
    | none => s
    | some s1 =>
      let done : State × Reply :=
        if fields.length + 2 ∈ lengths then owner s1
        else (s1, .answer .badField (BitVec.ofNat 8 (lengths.headD 0)))
      placeReply st kind tag done.2 done.1) s

/-- A request that leaves the state alone and is answered. -/
def answered (r : ResultCode) (detail : Byte) (s : State) : State × Reply := (s, .answer r detail)

end Sys2Proof.Machine
end

