-- ==== Sys2Proof/Machine/Operands.lean ====
section
/-! DEFINITION. The fields of each request, read from its body bytes after TAG as section 10.5 lays them out
(R194, R195). Body byte n of the manual is byte n − 2 here. -/

namespace Sys2Proof.Machine

/-- One byte; 0 past the end (no request that passes the length check of R193 is read past its end). -/
def fByte (f : List Byte) (i : Nat) : Byte := f.getD i 0

/-- Unsigned fields, most significant byte first. -/
def f1 (f : List Byte) (i : Nat) : Nat := (fByte f i).toNat
def f2 (f : List Byte) (i : Nat) : Nat := f1 f i * 256 + f1 f (i + 1)
def f3 (f : List Byte) (i : Nat) : Nat := f2 f i * 256 + f1 f (i + 2)

/-- A 16-bit code. -/
def fCode (f : List Byte) (i : Nat) : BitVec 16 := BitVec.ofNat 16 (f2 f i)

/-- Signed fields, two's complement. -/
def fSigned1 (f : List Byte) (i : Nat) : Int := (fByte f i).toInt
def fSigned2 (f : List Byte) (i : Nat) : Int := (fCode f i).toInt

/-- Bit i of a flag byte. -/
def fFlag (f : List Byte) (i bit : Nat) : Bool := (fByte f i).getLsbD bit

/-- A field's byte as a number below n, if it is one. -/
def fFin (n : Nat) (f : List Byte) (i : Nat) : Option (Fin n) :=
  if h : f1 f i < n then some ⟨f1 f i, h⟩ else none

/-! ### Enumerated fields (R194): `none` for a value outside the list -/

def readMode : Nat → Option LeadMode
  | 0 => some .set | 1 => some .mark | _ => none

def readAlign : Nat → Option Align
  | 0 => some .bar | 1 => some .beat | 2 => some .now | _ => none

def readEdge : Nat → Option EdgeKind
  | 0 => some .rising | 1 => some .falling | 2 => some .both | _ => none

def readTransportKind : Nat → Option TransportKind
  | 0 => some .start | 1 => some .stop | 2 => some .cont | _ => none

def readQuantum : Nat → Option Quantum
  | 0 => some .beat | 1 => some .bar | _ => none

/-- The apply-at of a lane request. -/
inductive ApplyAt where
  | now
  | nextBeat
  | nextBar
  deriving DecidableEq, Repr

def readApplyAt : Nat → Option ApplyAt
  | 0 => some .now | 1 => some .nextBeat | 2 => some .nextBar | _ => none

def readLaneKind : Nat → Option LaneKind
  | 0 => some .pin | 1 => some .stream | 2 => some .notice | _ => none

def readWaveform : Nat → Option Waveform
  | 0 => some .pulse | 1 => some .toggle | 2 => some .gate | 3 => some .run | _ => none

def readPolarity : Nat → Option Polarity
  | 0 => some .normal | 1 => some .inverted | _ => none

def readPortRate : Nat → Option PortRate
  | 0 => some .r31250 | 1 => some .r62500 | 2 => some .r125000 | 3 => some .r250000 | _ => none

def readRefSource : Nat → Option RefSource
  | 0 => some .internal | 1 => some .external | _ => none

/-- The WCK rate as a divisor (R38). -/
def readDivisor : Nat → Option Nat
  | 0 => some 1 | 1 => some 2 | _ => none

/-- A level, true for ACTIVE. -/
def readLevel : Nat → Option Bool
  | 0 => some false | 1 => some true | _ => none

/-- An indicator source, with the station byte that LINK_ACTIVITY reads (R162). -/
def readSource (source station : Nat) : Option Source :=
  match source with
  | 0 => some .beat | 1 => some .bar | 2 => some .leadHeld | 3 => some .holdover | 4 => some .externalRef
  | 5 => some .seizeFailed | 7 => some .playing
  | 6 => if h : station < 4 then some (.linkActivity ⟨station, h⟩) else none
  | _ => none

/-- The station of an Input Set: `some none` for 0xFF, NONE (R194). -/
def readInputStation (n : Nat) : Option (Option Station) :=
  if n = 255 then some none else if h : n < 4 then some (some ⟨n, h⟩) else none

/-- A target byte read against a lane kind (R194); `none` for a target of the wrong kind. -/
def readTarget (k : LaneKind) (n : Nat) : Option Target :=
  if n = 255 then some .none
  else match k with
    | .pin => if h : n < 8 then some (.pin ⟨n, h⟩) else none
    | .stream => if h : n < 4 then some (.port ⟨n, h⟩) else none
    | .notice => if h : n < 4 then some (.station ⟨n, h⟩) else none

/-- A rate form and value (R195): a value of 0 is refused where the form reads it. -/
def readRate (form value : Nat) : Option Rate :=
  match form with
  | 0 => if value = 0 then none else some (.perBeat value)
  | 1 => if value = 0 then none else some (.every value)
  | 2 => some .perBar
  | _ => none

/-- A bar-code presence byte and its code (R195). -/
def readBarCode (presence : Nat) (code : Byte) : Option (Option Byte) :=
  match presence with
  | 0 => some none | 1 => some (some code) | _ => none

/-! ### Lead terms (R68, R195) -/

/-- The six fields of terms from byte i on, clamped, and whether any was clamped; `none` for a mode or an align
outside its list. -/
def readTerms (f : List Byte) (i : Nat) : Option (Terms × Bool) :=
  match readMode (f1 f i), readAlign (f1 f (i + 5)) with
  | some mode, some align =>
    let glide := f1 f (i + 1)
    let dead := f2 f (i + 2)
    let gain := f1 f (i + 4)
    let tempo := f3 f (i + 6)
    let glide' := clampNat 0 32 glide
    let dead' := clampNat 0 1000 dead
    let gain' := clampNat 1 8 gain
    let tempo' := clampNat Config.tempoMin Config.tempoMax tempo
    some (⟨mode, glide', dead', gain', align, if tempo = 0 then none else some tempo'⟩,
      decide (glide' ≠ glide ∨ dead' ≠ dead ∨ gain' ≠ gain ∨ (tempo ≠ 0 ∧ tempo' ≠ tempo)))
  | _, _ => none

/-! ### The fields of the other requests, by name -/

def tempoTarget (f : List Byte) : Nat := f3 f 0
def tempoGlide (f : List Byte) : Nat := f1 f 3
def nudgeAmount (f : List Byte) : Int := fSigned1 f 0
def meterField (f : List Byte) : Nat := f1 f 0
def markTimeBack (f : List Byte) : Nat := f2 f 0
def markDownbeat (f : List Byte) : Bool := fFlag f 2 0
def windowField (f : List Byte) : Nat := f2 f 0
def seizeCode (f : List Byte) : BitVec 16 := fCode f 0
def oldCode (f : List Byte) : BitVec 16 := fCode f 0
def newCode (f : List Byte) : BitVec 16 := fCode f 2
def clearCode (f : List Byte) : BitVec 16 := fCode f 0
def laneField (f : List Byte) : Option LaneId := fFin 16 f 0

end Sys2Proof.Machine
end

