-- ==== Sys2Proof/Machine/LaneOps.lean ====
section
/-! DEFINITION. The lanes: where points fall (R128 to R132), the reference position (R133, R134), activation points
(R110, R111), staged parts (R120), the disable (R112, R151), the walk (R136 to R142) and the emission (R143 to R147)
with what each target does with it (R156 to R159, R165, R173). -/

namespace Sys2Proof.Machine

/-! ### Where points fall -/

/-- Swing applies to a rate (R107, R129). -/
def swingApplies : Rate → Bool
  | .perBeat p => decide (0 < p ∧ p % 2 = 0 ∧ p ≤ 8)
  | .every _ => false
  | .perBar => false

/-- Swing held at 50 where it does not apply (R107). -/
def settledSwing (x : Settings) : Settings := if swingApplies x.rate then x else { x with swing := 50 }

/-- The fraction of point k of a beat (R128, R129). -/
def pointFrac (x : Settings) (k : Nat) : BitVec 32 :=
  match x.rate with
  | .perBeat p =>
    if swingApplies x.rate ∧ k % 2 = 1 then
      BitVec.ofNat 32 (Config.beatU * (100 * (k - 1) + 2 * x.swing) / (100 * p))
    else BitVec.ofNat 32 (Config.beatU * k / p)
  | .every _ => 0
  | .perBar => 0

/-- Point k of beat b, its position computed now (R129). -/
def pointAt (x : Settings) (b : Beat) (k : Nat) : NextPoint := ⟨b, k, pointFrac x k⟩

/-- The position of a point. -/
def pointPos (n : NextPoint) : Pos := ⟨n.beat, n.frac⟩

/-- The first beat start at or beyond a position, or, with `strict`, strictly beyond it. -/
def firstBeat (strict : Bool) (x : Pos) : Beat := if !strict ∧ x.frac = 0 then x.beat else x.beat + 1

/-- The first point of the rate at or beyond a position, or, with `strict`, strictly beyond it (R132). The points of an
EVERY lane are anchor + j × q modulo 2^32 (R130), and R130 does not say which j once the lane is 2^31 beats from its anchor
and q does not divide 2^32: the distance from the anchor is taken as signed, 32 bits wide (DESIGN CHOICE, log entry 45). -/
def firstPoint (x : Settings) (anchor : Option Beat) (strict : Bool) (at' : Pos) : NextPoint :=
  match x.rate with
  | .perBeat p =>
    match (List.range p).find? fun k =>
      if strict then decide (at'.frac.toNat < (pointFrac x k).toNat)
      else decide (at'.frac.toNat ≤ (pointFrac x k).toNat) with
    | some k => pointAt x at'.beat k
    | none => pointAt x (at'.beat + 1) 0
  | .every q =>
    let b := firstBeat strict at'
    let a := anchor.getD b
    let d := (b - a).toInt
    pointAt x (a + BitVec.ofInt 32 (-((-d) / (q : Int)) * (q : Int))) 0
  | .perBar => pointAt x (firstBeat strict at') 0

/-- The point after one that was issued, or a candidate that was tested (R132). -/
def pointAfter (x : Settings) (n : NextPoint) : NextPoint :=
  match x.rate with
  | .perBeat p => if n.index + 1 < p then pointAt x n.beat (n.index + 1) else pointAt x (n.beat + 1) 0
  | .every q => pointAt x (n.beat + BitVec.ofNat 32 q) 0
  | .perBar => pointAt x (n.beat + 1) 0

/-! ### Reference position (R133, R134) -/

/-- The size of a lead lane's projection; 0 for a delay lane. -/
def projection (g : Grid) (offset : Int) : Nat := (-offset).toNat * g.appliedInc

/-- A lane's reference position: ahead of the house for an offset of 0 or less, the house position for one above 0. -/
def reference (g : Grid) (offset : Int) : Pos := if offset ≤ 0 then g.pos.add (projection g offset) else g.pos

/-! ### Activation (R110, R111) -/

/-- The activation point of a lane entering ARMING, or set anew while ARMING (R110). -/
def activationFor (g : Grid) (x : Settings) : Option Activation :=
  if g.state = .unset then none
  else
    let ref := reference g x.offset
    match x.align, x.rate with
    | .bar, _ => some (.barStart (ref.beat + 1))
    | .beat, _ => some (.position (Pos.beatStart (ref.beat + 1)))
    | .now, .perBeat _ => some (.position (pointPos (firstPoint x none true ref)))
    | .now, .every _ => some (.position (Pos.beatStart (ref.beat + 1)))
    | .now, .perBar => some (.barStart (ref.beat + 1))

/-- The anchor beat an activation, or a rate taking effect, at beat b gives (R106, R111, R120). -/
def anchorAt (r : Rate) (b : Beat) : Option Beat :=
  match r with
  | .every _ => some b
  | .perBeat _ => none
  | .perBar => none

/-- An ARMING lane becomes ACTIVE at a position (R111). -/
def activateLane (at' : Pos) (ln : Lane) : Lane :=
  { ln with
    state := .active
    activation := none
    anchor := anchorAt ln.settings.rate at'.beat
    nextPoint := some (firstPoint ln.settings (anchorAt ln.settings.rate at'.beat) false at') }

/-- The grid-start crossing reaches a lane (R111). -/
def startLane (ln : Lane) : Lane := if ln.state = .arming then activateLane (Pos.beatStart 0) ln else ln

/-! ### Settings and staged parts -/

/-- A patch written into the settings. -/
def applyPatch (p : Patch) (x : Settings) : Settings where
  kind := p.kind.getD x.kind
  target := p.target.getD x.target
  rate := p.rate.getD x.rate
  swing := p.swing.getD x.swing
  offset := p.offset.getD x.offset
  align := p.align.getD x.align
  waveform := p.waveform.getD x.waveform
  width := p.width.getD x.width
  accent := p.accent.getD x.accent
  polarity := p.polarity.getD x.polarity
  playOnly := p.playOnly.getD x.playOnly
  spacing := p.spacing.getD x.spacing
  codes := p.codes.getD x.codes
  barCode := p.barCode.getD x.barCode

/-- The anchor after settings were written at beat b: the beat where a rate EVERY was carried, kept where no rate was
(R120). That a carried rate equal to the one held moves the anchor too is read from R120's first words on the anchor;
its last words keep the anchor of a lane whose rate did not change (DEDUCED, log entry 42). -/
def anchorAfter (carried : Bool) (r : Rate) (b : Beat) (old : Option Beat) : Option Beat :=
  if carried then anchorAt r b else
    match r with
    | .every _ => old
    | .perBeat _ => none
    | .perBar => none

/-- The staged part applied at its boundary beat (R120). -/
def applyStaged (b : Beat) (sp : Staged) (ln : Lane) : Lane :=
  let x := settledSwing (applyPatch sp.patch ln.settings)
  let anchor := anchorAfter sp.patch.rate.isSome x.rate b ln.anchor
  { ln with
    settings := x
    staged := none
    anchor := anchor
    nextPoint := some (firstPoint x anchor false (Pos.beatStart b)) }

/-- A disable takes effect on a lane's own items (R112, R151). -/
def laneOff (ln : Lane) : Lane :=
  { ln with
    state := .off
    activation := none
    anchor := none
    staged := none
    disable := none
    nextPoint := none
    queue := []
    playing := false
    emittedPlaying := false
    owed := none }

/-! ### Issue (R138, R141, R142) -/

/-- An owed mark is satisfied by a point (R95, R138). -/
def owedSatisfied (o : Option Owed) (n : NextPoint) : Bool :=
  match o with
  | none => false
  | some w =>
    match w.boundary with
    | none => true
    | some b => (pointPos n).atOrBeyond (Pos.beatStart b)

/-- The transport view a mark gives (R95, R146). -/
def viewAfter (old : Bool) : Option TransportKind → Bool
  | none => old
  | some .start => true
  | some .cont => true
  | some .stop => false

/-- A record merged into the record at the tail (R142). -/
def mergeRecord (tail new : PointRecord) : PointRecord where
  due := tail.due
  beatFlag := tail.beatFlag || new.beatFlag
  barFlag := tail.barFlag || new.barFlag
  mark := if new.mark.isSome then new.mark else tail.mark
  count := satInc 255 tail.count

/-- An issued record joins the queue, its due frame raised to the tail's, or is merged (R141, R142). -/
def joinQueue (r : PointRecord) (q : List PointRecord) : List PointRecord :=
  match q.getLast? with
  | none => [r]
  | some t =>
    if q.length < Config.pointQueueMax then
      q ++ [if earlier r.due t.due then { r with due := t.due } else r]
    else q.dropLast ++ [mergeRecord t r]

/-- The record of a point issued now (R138). -/
def issuedRecord (g : Grid) (count : Frame) (ln : Lane) (n : NextPoint) : PointRecord where
  due := if 0 < ln.settings.offset then framesOn count ln.settings.offset.toNat else count
  beatFlag := decide (n.frac = 0)
  barFlag := decide (n.frac = 0) && isBarStart g n.beat
  mark := if owedSatisfied ln.owed n then ln.owed.map Owed.kind else none
  count := 1

/-- The next point is issued (R138). -/
def issuePoint (g : Grid) (count : Frame) (n : NextPoint) (ln : Lane) : Lane :=
  let r := issuedRecord g count ln n
  { ln with
    queue := joinQueue r ln.queue
    owed := if owedSatisfied ln.owed n then none else ln.owed
    playing := viewAfter ln.playing r.mark
    nextPoint := some (pointAfter ln.settings n) }

/-- The next point is reached: it is issued, or a PER_BAR candidate that is no bar start is passed (R131). -/
def takePoint (g : Grid) (count : Frame) (n : NextPoint) (ln : Lane) : Lane :=
  if ln.settings.rate = .perBar ∧ isBarStart g n.beat = false then
    { ln with nextPoint := some (pointAfter ln.settings n) }
  else issuePoint g count n ln

/-! ### The walk (R136, R137) -/

/-- The items a walk takes. -/
inductive WalkItem where
  | activation (a : Activation)
  | staged (sp : Staged)
  | disable (d : LaneBoundary)
  | point (n : NextPoint)
  deriving DecidableEq, Repr

/-- Where an item lies. -/
def itemPos : WalkItem → Pos
  | .activation (.position p) => p
  | .activation (.barStart b) => Pos.beatStart b
  | .staged sp => Pos.beatStart sp.boundary.beat
  | .disable d => Pos.beatStart d.beat
  | .point n => pointPos n

/-- The items a lane holds, in the order in which items of one position are taken. -/
def laneItems (ln : Lane) : List WalkItem :=
  match ln.state with
  | .off => []
  | .arming => (ln.activation.map WalkItem.activation).toList
  | .active =>
    (ln.staged.map WalkItem.staged).toList ++ (ln.disable.map WalkItem.disable).toList ++
      (ln.nextPoint.map WalkItem.point).toList

/-- The item of least position, the first of equals. -/
def leastItem : List WalkItem → Option WalkItem
  | [] => none
  | i :: rest =>
    match leastItem rest with
    | none => some i
    | some j => if (itemPos i).strictlyBeyond (itemPos j) then some j else some i

/-- The item the walk takes next: the least of those at or before the reference. -/
def nextItem (ref : Pos) (ln : Lane) : Option WalkItem :=
  leastItem ((laneItems ln).filter fun i => ref.atOrBeyond (itemPos i))

/-- A waiting boundary is met at the beat start it names: always, or if that beat is a bar start for the lane (R108). -/
def boundaryMet (g : Grid) (d : LaneBoundary) : Bool := !d.bar || isBarStart g d.beat

/-- The boundary after a beat start that was no bar start: the lane waits for the next one (R108). -/
def LaneBoundary.later (d : LaneBoundary) : LaneBoundary := { d with beat := d.beat + 1 }

/-- A pending disable takes effect at the boundary beat of the staged part (R120): it names that beat, and, if it waits for a
bar start, the beat is one (DESIGN CHOICE, log entry 49). -/
def disableAt (g : Grid) (b : Beat) (ln : Lane) : Bool :=
  match ln.disable with
  | none => false
  | some d => decide (d.beat = b) && boundaryMet g d

/-- A walk's result: the lane, and, when a disable took effect, the emitted view it had before. -/
structure Walked where
  lane : Lane
  wentOff : Option Bool
  deriving DecidableEq, Repr

/-- One item taken (R137). A pending disable that does not take effect with the staged part of its beat keeps its boundary,
and is tested again when the reference, formed with the new offset, reaches that beat (DESIGN CHOICE, log entry 49). -/
def takeItem (g : Grid) (count : Frame) (i : WalkItem) (ln : Lane) : Walked :=
  match i with
  | .activation (.position p) => ⟨activateLane p ln, none⟩
  | .activation (.barStart b) =>
    if isBarStart g b then ⟨activateLane (Pos.beatStart b) ln, none⟩
    else ⟨{ ln with activation := some (.barStart (b + 1)) }, none⟩
  | .staged sp =>
    if boundaryMet g sp.boundary then
      let ln1 := applyStaged sp.boundary.beat sp ln
      if disableAt g sp.boundary.beat ln1 then ⟨laneOff ln1, some ln1.emittedPlaying⟩ else ⟨ln1, none⟩
    else ⟨{ ln with staged := some { sp with boundary := sp.boundary.later } }, none⟩
  | .disable d =>
    if boundaryMet g d then ⟨laneOff ln, some ln.emittedPlaying⟩
    else ⟨{ ln with disable := some d.later }, none⟩
  | .point n => ⟨takePoint g count n ln, none⟩

/-- The walk: items are taken one at a time, the reference formed with the offset in force, until none lies at or
before it or a disable takes effect (R137). -/
def walk (g : Grid) (count : Frame) : Nat → Lane → Walked
  | 0, ln => ⟨ln, none⟩
  | n + 1, ln =>
    match nextItem (reference g ln.settings.offset) ln with
    | none => ⟨ln, none⟩
    | some i =>
      let w := takeItem g count i ln
      match w.wentOff with
      | some _ => w
      | none => walk g count n w.lane

/-- A lane that went OFF releases its target: its pin becomes LEVEL and inactive (R160), its port gets its stop code
when the emitted view was PLAYING (R170). -/
def releaseTarget (x : Settings) (emitted : Bool) (s : State) : State :=
  match x.kind, x.target with
  | .pin, .pin p => s.setPin p (pinReleased (s.pin p))
  | .stream, .port p => if emitted then s.setPort p (portTransport x.codes.stop (s.port p)) else s
  | _, _ => s

/-- A lane takes its target on entering ARMING (R121, R160). -/
def takeTarget (x : Settings) (s : State) : State :=
  match x.kind, x.target with
  | .pin, .pin p => s.setPin p (pinTaken (s.pin p))
  | _, _ => s

/-- A disable takes effect on a lane (R112). -/
def disableLane (l : LaneId) (s : State) : State :=
  releaseTarget (s.lane l).settings (s.lane l).emittedPlaying (s.setLane l (laneOff (s.lane l)))

/-- A walk's result written back, the target released when a disable took effect. -/
def putWalked (l : LaneId) (w : Walked) (s : State) : State :=
  match w.wentOff with
  | none => s.setLane l w.lane
  | some emitted => releaseTarget w.lane.settings emitted (s.setLane l w.lane)

/-- The walk of a lane on a frame event (R136). -/
def walkLane (l : LaneId) (s : State) : State :=
  putWalked l (walk s.grid s.fru.count Config.walkBound (s.lane l)) s

/-! ### Emission (R143 to R146) -/

/-- What a target is handed: the point's flags and mark, and the emitted view after it (R144). -/
structure Emitted where
  beatFlag : Bool
  barFlag : Bool
  mark : Option TransportKind
  playing : Bool
  deriving DecidableEq, Repr

/-- The pulse-end test of R143, for a PIN lane whose waveform is PULSE. -/
def pulseEnded (s : State) (x : Settings) : Bool :=
  match x.kind, x.waveform, x.target with
  | .pin, .pulse, .pin p =>
    match (s.pin p).activeUntil with
    | none => true
    | some a => dueReached (framesOn a x.spacing) s.fru.count
  | _, _, _ => true

/-- The catch-up spacing has passed since the last emission (R143). -/
def spacingPassed (ln : Lane) (count : Frame) : Bool :=
  match ln.lastEmission with
  | none => true
  | some e => decide (ln.settings.spacing ≤ interval e count)

/-- The head record may be emitted (R143). -/
def emissionReady (s : State) (ln : Lane) (r : PointRecord) : Bool :=
  dueReached r.due s.fru.count && spacingPassed ln s.fru.count && pulseEnded s ln.settings

/-- What stays of a record after one point left it: its further points are plain (R144). -/
def recordAfter (r : PointRecord) : List PointRecord :=
  if 1 < r.count then [{ r with beatFlag := false, barFlag := false, mark := none, count := r.count - 1 }] else []

/-- The lane after the emission of its head record's point (R144 to R146). -/
def laneEmitted (count : Frame) (r : PointRecord) (rest : List PointRecord) (ln : Lane) : Lane :=
  { ln with
    queue := recordAfter r ++ rest
    lastEmission := some count
    emittedPlaying := viewAfter ln.emittedPlaying r.mark }

/-! ### Targets -/

/-- A plain point that play-only suppresses (R156, R165, R173). -/
def suppressed (x : Settings) (e : Emitted) : Bool := x.playOnly && !e.playing && e.mark.isNone

/-- The point distance of a lane, in u (R157). -/
def pointDistance (g : Grid) : Rate → Nat
  | .perBeat p => Config.beatU / p
  | .every q => q * Config.beatU
  | .perBar => g.meter * Config.beatU

/-- The nominal spacing, in frames (R157). -/
def nominalSpacing (g : Grid) (r : Rate) : Nat := pointDistance g r / g.appliedInc

/-- The length of a pulse (R157). -/
def pulseLength (g : Grid) (x : Settings) (barFlag : Bool) : Nat :=
  let half := nominalSpacing g x.rate / 2
  match barFlag, x.accent with
  | true, some a => min a half
  | _, _ => min x.width half

/-- What an acting emission does to the pin (R157 to R159). -/
def waveformActs (g : Grid) (count : Frame) (x : Settings) (e : Emitted) (p : Pin) : Pin :=
  match x.waveform with
  | .pulse => activate count (pulseLength g x e.barFlag) p
  | .gate => activate count (nominalSpacing g x.rate / 2) p
  | .toggle => { p with level := !p.level }
  | .run => { p with level := viewAfter p.level e.mark }

/-- An emission of a PIN lane at its pin (R156). -/
def pinEmission (g : Grid) (count : Frame) (x : Settings) (e : Emitted) (p : Pin) : Pin :=
  if suppressed x e || (decide (x.waveform = .run) && e.mark.isNone) then p
  else waveformActs g count x e { p with timing := false }

/-- The code of a transport mark (R165). -/
def markCode (c : Codes) : TransportKind → Byte
  | .start => c.start
  | .stop => c.stop
  | .cont => c.cont

/-- An emission of a STREAM lane at its port (R165). -/
def streamEmission (x : Settings) (e : Emitted) (p : Port) : Port :=
  if suppressed x e then p
  else
    let p1 := match e.mark with
      | none => p
      | some k => portTransport (markCode x.codes k) p
    let p2 := match e.barFlag, x.barCode with
      | true, some c => portBar c p1
      | _, _ => p1
    if x.playOnly && !e.playing then p2 else portTick x.codes.tick p2

/-- The Beat Notice of an emission, with the items of R173 (R202; on the meter of R13, log entry 48). -/
def beatNotice (l : LaneId) (e : Emitted) (s : State) : BeatNotice where
  lane := l
  beat := s.grid.pos.beat
  beatInBar := s.grid.beatInBar
  barCount := s.grid.barCount
  songBar := s.tc.songBar
  base := s.grid.base
  mark := e.mark
  beatFlag := e.beatFlag
  barFlag := e.barFlag
  skipped := 0

/-- An emitted point reaches the lane's target (R144). -/
def deliver (l : LaneId) (x : Settings) (e : Emitted) (s : State) : State :=
  match x.kind, x.target with
  | .pin, .pin p => s.setPin p (pinEmission s.grid s.fru.count x e (s.pin p))
  | .stream, .port p => s.setPort p (streamEmission x e (s.port p))
  | .notice, .station st =>
    if suppressed x e || !(s.link st).present then s
    else s.setLink st (placeBeat (beatNotice l e s) (s.link st))
  | _, _ => s

/-- The emission test of a lane on a frame event, and the emission (R143, R144). -/
def emitLane (l : LaneId) (s : State) : State :=
  match (s.lane l).queue with
  | [] => s
  | r :: rest =>
    if emissionReady s (s.lane l) r then
      let ln := laneEmitted s.fru.count r rest (s.lane l)
      deliver l ln.settings ⟨r.beatFlag, r.barFlag, r.mark, ln.emittedPlaying⟩ (s.setLane l ln)
    else s

/-- A lane's part of a frame event: its walk, then its emission test (R143); neither while the grid is UNSET (R151). -/
def laneFrame (l : LaneId) (s : State) : State :=
  if s.grid.state = .unset then s else emitLane l (walkLane l s)

/-- The last emission frame of a lane expires (R145). -/
def lastEmissionExpire (count : Frame) (ln : Lane) : Lane :=
  match ln.lastEmission with
  | some e => if reached31 e count then { ln with lastEmission := none } else ln
  | none => ln

end Sys2Proof.Machine
end

