-- ==== Sys2Proof/Machine/GridOps.lean ====
section
/-! DEFINITION. The Grid Engine: increments (R4, R5), tempo changes and glides (R15, R16), trims (R19 to R21), bar
numbering (R12, R14), the handover taking effect (R18, R82), the grid start (R8 to R10), the crossing (R11, R13), with
the Transport Controller's part of a crossing (R97, R100). -/

namespace Sys2Proof.Machine

/-! ### Increments -/

/-- The base increment of a base tempo (R4). -/
def baseIncrement (tempo : Nat) : Nat := roundNat (tempo * Config.beatU) Config.tempoScale

/-- The applied part of a trim record. -/
def appliedPart : Trim → Option Int
  | .none => none
  | .armed _ => none
  | .applied p => some p
  | .appliedArmed p _ => some p

/-- The applied increment of a base increment under a trim record (R5). -/
def appliedIncrement (base : Nat) (t : Trim) : Nat :=
  match appliedPart t with
  | none => base
  | some p => (clampInt ((base - base / 16 : Nat) : Int) ((base + base / 16 : Nat) : Int) ((base : Int) - p)).toNat

/-- The applied increment recomputed (R5). -/
def recompute (g : Grid) : Grid := { g with appliedInc := appliedIncrement g.baseInc g.trim }

/-- A new base tempo, with the increments recomputed (R4, R5, R21). -/
def setBase (t : Nat) (g : Grid) : Grid := recompute { g with base := t, baseInc := baseIncrement t }

/-- The trim record removed, the applied increment equal to the base increment (R2, R22). -/
def removeTrim (g : Grid) : Grid := { g with trim := .none, appliedInc := g.baseInc }

/-! ### Tempo changes and glides -/

/-- A tempo change to v over m beats (R16). -/
def tempoChange (v m : Nat) (g : Grid) : Grid :=
  if m = 0 ∨ v = g.base then setBase v { g with glide := none }
  else { g with glide := some ⟨g.base, v, m, 0⟩ }

/-- The base tempo after step i of a glide (R15). -/
def glideTempo (x : Glide) (i : Nat) : Nat :=
  ((x.start : Int) + roundInt (((x.target : Int) - x.start) * i) x.length).toNat

/-- The glide takes its next step at a crossing (R15). -/
def glideStep (g : Grid) : Grid :=
  match g.glide with
  | none => g
  | some x =>
    let i := x.steps + 1
    if x.length ≤ i then setBase x.target { g with glide := none }
    else setBase (glideTempo x i) { g with glide := some { x with steps := i } }

/-- A follow target against the holder's dead band (R17). -/
def followTarget (e : Nat) (t : Terms) (g : Grid) : Grid :=
  if ((e : Int) - g.base).natAbs ≤ t.deadBand then g else tempoChange e t.followGlide g

/-! ### Trims -/

/-- Δ for a phase error and a gain (R19). -/
def trimDelta (e : Int) (gain : Nat) (g : Grid) : Int :=
  roundInt (e * gain * g.baseInc) (8 * Config.beatU)

/-- The trim record after arming (R19). -/
def trimArmed (d : Int) : Trim → Trim
  | .none => .armed d
  | .armed _ => .armed d
  | .applied p => .appliedArmed p d
  | .appliedArmed p _ => .appliedArmed p d

/-- An armed trim is present. -/
def hasArmed : Trim → Bool
  | .none => false
  | .armed _ => true
  | .applied _ => false
  | .appliedArmed _ _ => true

/-- A trim is armed from a phase error and a gain (R19). -/
def armTrim (e : Int) (gain : Nat) (g : Grid) : Grid := { g with trim := trimArmed (trimDelta e gain g) g.trim }

/-- The trim record after a crossing (R20). -/
def trimAdvanced : Trim → Trim
  | .none => .none
  | .armed a => .applied a
  | .applied _ => .none
  | .appliedArmed _ a => .applied a

/-! ### Bar numbering -/

/-- The crossing into the next beat is a bar crossing (R12). -/
def crossesBar (g : Grid) : Bool := decide (g.beatInBar + 1 = g.meter)

/-- The numbering at a crossing into beat b, the position already in it (R12). -/
def numberBeat (g : Grid) : Grid :=
  if crossesBar g then
    { g with meter := g.pendingMeter.getD g.meter, pendingMeter := none, barStart := g.pos.beat, beatInBar := 0,
             barCount := g.barCount + 1, crossing := .bar }
  else { g with beatInBar := g.beatInBar + 1, crossing := .beat }

/-- The crossing changes the meter (R12). -/
def changesMeter (g : Grid) : Bool :=
  crossesBar g && (match g.pendingMeter with
    | some m => decide (m ≠ g.meter)
    | none => false)

/-- A downbeat with phase error e and beat number p at the mark's stamp (R14). An early one sets the bar start one beat
beyond the position (log entry 31). Where the marked beat has beat-in-bar 0 already and the bar start beat held is another,
R14's table moves the bar start beat and its closing sentence leaves the numbering as it was: the table is followed
(DESIGN CHOICE, log entry 46). -/
def downbeat (e : Int) (p : Beat) (g : Grid) : Grid :=
  let m := if 0 ≤ e then p else p + 1
  if m = g.pos.beat + 1 then { g with barStart := m, beatInBar := g.meter - 1 }
  else
    let k := (g.pos.beat - m).toNat % g.meter
    { g with beatInBar := k, barStart := g.pos.beat - BitVec.ofNat 32 k }

/-! ### Handover (R18, R82) -/

/-- The handover tempo, if any. -/
def handoverTempo (h : Handover) (s : State) : Option Nat :=
  match h.terms.tempo with
  | some v => some v
  | none => if h.terms.mode = .mark then (s.follower h.station).estimate else none

/-- The waiting handover takes effect, and its record is removed. -/
def handoverTakes (s : State) : State :=
  match s.lead.handover with
  | none => s
  | some h =>
    let g := match handoverTempo h s with
      | some v => tempoChange v h.terms.followGlide s.grid
      | none => s.grid
    { s with grid := g, lead := { s.lead with handover := none } }

/-- A crossing is a handover's align boundary (R18, R81). -/
def meetsAlign (a : Align) (c : Crossing) : Bool :=
  match a, c with
  | _, .none => false
  | .bar, .beat => false
  | .bar, .bar => true
  | .beat, _ => true
  | .now, _ => true

/-- The handover takes effect if the crossing just made is its align boundary (R11 stage 3, R82). -/
def handoverAtCrossing (s : State) : State :=
  match s.lead.handover with
  | none => s
  | some h => if meetsAlign h.align s.grid.crossing then handoverTakes s else s

/-! ### The Transport Controller's part of a crossing (R97, R100) -/

/-- The grid stands in the boundary beat of the pending record: the transport change takes effect (R97). -/
def transportReached (s : State) : State :=
  match s.tc.pending with
  | none => s
  | some p =>
    if s.grid.pos.beat = p.boundary then
      let tc : Transport := match p.kind with
        | .start => ⟨.playing, none, 0⟩
        | .cont => ⟨.playing, none, s.tc.songBar⟩
        | .stop => ⟨.stopped, none, s.tc.songBar⟩
      raiseHouse .transport (showSource .playing { s with tc := tc })
    else s

/-- The song bar count at a bar crossing (R100). -/
def countSongBar (s : State) : State :=
  if s.grid.crossing = .bar ∧ (s.tc.state = .playing ∨ s.tc.state = .stopping) then
    { s with tc := { s.tc with songBar := s.tc.songBar + 1 } }
  else s

/-- The crossing handed to the Transport Controller. -/
def tcCrossing (s : State) : State := transportReached (countSongBar s)

/-- The crossing handed to the Pin Driver: BEAT pins pulse, and BAR pins at a bar crossing (R13, R161). -/
def pdCrossing (s : State) : State :=
  let s1 := pulseSource .beat s
  if s.grid.crossing = .bar then pulseSource .bar s1 else s1

/-! ### Grid start (R8 to R10) -/

/-- The grid as a start leaves it: base tempo t, beat 0 lying `elapsed` frames back (R8, R9, R10). -/
def startedGrid (t elapsed : Nat) (g : Grid) : Grid :=
  { g with
    state := .running
    pos := (Pos.beatStart 0).add (elapsed * baseIncrement t)
    base := t
    baseInc := baseIncrement t
    appliedInc := baseIncrement t
    glide := none
    trim := .none
    barStart := 0
    beatInBar := 0
    barCount := 0
    crossing := .bar
    before := none }

/-- The grid starts, and the start crossing is handed on: a waiting handover takes effect, lanes in ARMING become
ACTIVE at beat 0, BEAT and BAR pins pulse (R10, R111). -/
def startGrid (t elapsed : Nat) (s : State) : State :=
  let s1 := handoverTakes { s with grid := startedGrid t elapsed s.grid }
  let s2 : State := { s1 with lanes := mapEach s1.lanes fun _ ln => startLane ln }
  pdCrossing (tcCrossing s2)

/-! ### Frame event (R6, R11) -/

/-- Stages 2 to 5 of a crossing: glide step, handover, trim, increments (R11). -/
def crossingStages (s : State) : State :=
  let s1 := handoverAtCrossing { s with grid := glideStep s.grid }
  { s1 with grid := recompute { s1.grid with trim := trimAdvanced s1.grid.trim } }

/-- A beat crossing, the position already in the new beat (R11): numbering, stages 2 to 5, the METER notice where the
meter changed (R12), and the report to the neighbours (R13). `transportFirst` is the order of R201. -/
def beatCrossing (transportFirst : Bool) (s : State) : State :=
  let changed := changesMeter s.grid
  let s1 := crossingStages { s with grid := numberBeat s.grid }
  let s2 :=
    if changed then
      if transportFirst then raiseHouse .meter (tcCrossing s1) else tcCrossing (raiseHouse .meter s1)
    else tcCrossing s1
  pdCrossing s2

/-- The Grid Engine's part of a frame event (R6). -/
def gridFrame (transportFirst : Bool) (s : State) : State :=
  if s.grid.state = .unset then s
  else
    let pos := s.grid.pos.add s.grid.appliedInc
    if Config.beatU ≤ s.grid.pos.frac.toNat + s.grid.appliedInc then
      beatCrossing transportFirst { s with grid := { s.grid with pos := pos, before := none } }
    else { s with grid := { s.grid with pos := pos, crossing := .none, before := some s.grid.pos } }

end Sys2Proof.Machine
end

