-- ==== Sys2Proof/Machine/LeadOps.lean ====
section
/-! DEFINITION. The Lead Arbiter's shared operations: the hand-offs of a change of holder (R77), the handover record
(R81, R83), promotion and the emptied lead (R78, R79), and a station's departure (R184, R84, R60). -/

namespace Sys2Proof.Machine

/-- The station holds the lead. -/
def holds (s : State) (st : Station) : Bool := decide (s.lead.holder.map LeadEntry.station = some st)

/-- The sender's lead terms, when it holds the lead (R85). -/
def holderTerms (s : State) (st : Station) : Option Terms :=
  match s.lead.holder with
  | some h => if h.station = st then some h.terms else none
  | none => none

/-- A station's last phase error is removed (R53). -/
def removePhaseError (st : Station) (s : State) : State :=
  s.setFollower st { s.follower st with phaseError := none }

/-- Step 1 of R77: the previous holder's last phase error is removed. -/
def phaseHandOff (s : State) : State :=
  match s.lead.holder with
  | some h => removePhaseError h.station s
  | none => s

/-- A new handover record for a station that has become holder (R81). -/
def newHandover (e : LeadEntry) (g : Grid) : Handover := ⟨e.station, e.terms.align, e.terms, decide (g.state = .unset)⟩

/-- The grid enters HOLDOVER (R2). -/
def enterHoldover (g : Grid) : Grid := removeTrim { g with state := .holdover, glide := none }

/-- Step 4 of R77: the grid state follows the lead, the grid starts at the new holder's tempo, and a handover of align
NOW on a started grid takes effect. -/
def gridHandOff (s : State) : State :=
  match s.lead.holder with
  | none => if s.grid.state = .running then { s with grid := enterHoldover s.grid } else s
  | some h =>
    match s.grid.state with
    | .unset =>
      match h.terms.tempo with
      | some t => startGrid t 0 s
      | none => s
    | _ =>
      let s1 : State := { s with grid := { s.grid with state := .running } }
      if h.terms.align = .now then handoverTakes s1 else s1

/-- A change of holder with its hand-offs, in the order of R77. -/
def changeHolder (new : Option LeadEntry) (queue : List LeadEntry) (r : Reason) (s : State) : State :=
  let s1 := phaseHandOff s
  let grid := { removeTrim s1.grid with crossing := .none }
  let lead := { s1.lead with
    holder := new, queue := queue, handover := new.map fun e => newHandover e s1.grid }
  let s2 := gridHandOff { s1 with grid := grid, lead := lead }
  raiseHouse r (showSource .holdover (showSource .leadHeld s2))

/-- The holder leaves the lead: the head is promoted (R79), or the lead becomes empty (R78). `r` is the reason when it
becomes empty. -/
def leaveLead (r : Reason) (s : State) : State :=
  match s.lead.queue with
  | e :: rest => changeHolder (some e) rest .promoted s
  | [] => changeHolder none [] r s

/-- The lead queue without a station's entry (R66). -/
def withoutEntry (st : Station) (q : List LeadEntry) : List LeadEntry := q.filter fun e => decide (e.station ≠ st)

/-- The entry of a station in the lead queue. -/
def entryOf (st : Station) (q : List LeadEntry) : Option LeadEntry := q.find? fun e => decide (e.station = st)

/-- A station's place in the lead queue, counted from 1 at the head (R65). -/
def queuePosition (st : Station) (q : List LeadEntry) : Nat := q.findIdx (fun e => decide (e.station = st)) + 1

/-- The Lead Arbiter acts on a station's absence (R84). -/
def lapseStation (st : Station) (s : State) : State :=
  if holds s st then leaveLead .lapsed s
  else if (entryOf st s.lead.queue).isSome then
    raiseHouse .lapsed { s with lead := { s.lead with queue := withoutEntry st s.lead.queue } }
  else s

/-- The Lead Arbiter acts on a reported departure (R84). -/
def leadLapse (st : Station) (s : State) : State :=
  if (s.link st).lapseReported then lapseStation st (s.setLink st { s.link st with lapseReported := false }) else s

/-- The Mark Follower acts on a reported departure (R60). -/
def emptyFollower (st : Station) (s : State) : State :=
  if (s.link st).emptyReported then
    (s.setLink st { s.link st with emptyReported := false }).setFollower st Follower.empty
  else s

/-- A report of a departure that waits is acted on when the station returns at the latest: it returns with no lead, no
queue entry and an empty follower record (R60, R84, R183; log entry 16). -/
def settleDeparture (st : Station) (s : State) : State := emptyFollower st (leadLapse st s)

/-- The pending answer of a save loses a link that departs (R184, R206). -/
def storeDeparture (st : Station) (x : Store) : Store :=
  { x with answer := x.answer.map fun a => if a.link = some st then { a with link := none } else a }

/-- A PRESENT link becomes ABSENT (R184); the departure is reported to the Lead Arbiter and the Mark Follower, which
act at their own moments, and to the Scene Store, which acts at once (R206). -/
def departLink (st : Station) (s : State) : State :=
  let k := { s.link st with
    present := false
    countdown := none
    windowMs := Config.windowDefault
    txQueue := []
    sending := none
    answerLost := false
    lapseReported := true
    emptyReported := true }
  { s.setLink st k with store := storeDeparture st s.store }

end Sys2Proof.Machine
end

