-- ==== Sys2Proof/Machine/FrameOps.lean ====
section
/-! DEFINITION. The frame event whole (R29) in the order log entry 9 fixes, and the Frame Reference Unit's switching
(R33 to R38). -/

namespace Sys2Proof.Machine

/-! ### Parts of a frame event -/

/-- A follower record expires (R50). -/
def followerExpire (count : Frame) (f : Follower) : Follower :=
  match f.lastStamp with
  | some a => if reached30 a count then Follower.empty else f
  | none => f

/-- A mark input's last delivered edge frame expires (R43). -/
def edgeExpire (count : Frame) (m : MarkInput) : MarkInput :=
  match m.lastEdge with
  | some a => if reached30 a count then { m with lastEdge := none } else m
  | none => m

/-- The expiries of a frame event: last stamps (R50), last delivered edge frames (R43), active-until frames (R155) and
last emission frames (R145). -/
def frameExpiries (s : State) : State :=
  { s with
    followers := mapEach s.followers fun _ f => followerExpire s.fru.count f
    inputs := mapEach s.inputs fun _ m => edgeExpire s.fru.count m
    pins := mapEach s.pins fun _ p => activeUntilExpire s.fru.count p
    lanes := mapEach s.lanes fun _ ln => lastEmissionExpire s.fru.count ln }

/-- The timer ends of the pins a test selects (R155). -/
def timersEnd (sel : PinId → Bool) (s : State) : State :=
  { s with pins := mapEach s.pins fun i p => if sel i then timerEnd s.fru.count p else p }

/-- The lanes in the order of their handling: those named first, then the others in index order (log entry 9). -/
def laneOrder (named : List LaneId) : List LaneId :=
  named.eraseDups ++ (List.finRange 16).filter fun l => !named.contains l

/-- Every lane's walk and emission test (R136, R143). -/
def lanesFrame (named : List LaneId) (s : State) : State := (laneOrder named).foldl (fun s l => laneFrame l s) s

/-- A partial frame is being received (R180). -/
def inFrame : Receiver → Bool
  | .hunt => false
  | .length => true
  | .body _ _ => true
  | .check _ _ _ => true

/-- The gap test of a link on a frame event (R180). -/
def gapTest (count : Frame) (k : Link) : Link :=
  if inFrame k.receiver ∧ Config.gapFrames ≤ interval k.lastByte count then
    { k with receiver := .hunt, gap := satInc 255 k.gap }
  else k

/-- The presence countdown of a link on a frame event, above its last frame (R183). -/
def countDown (k : Link) : Link :=
  match k.countdown with
  | some n => if k.present ∧ 1 < n then { k with countdown := some (n - 1) } else k
  | none => k

/-- The presence countdown stands at 1: the next frame event is its expiry (R183). -/
def lastFrameOfWindow (k : Link) : Bool := k.present && decide (k.countdown = some 1)

/-- A link's part of a frame event: the gap test, then the countdown or its expiry (R180, R183). -/
def linkFrameEvent (st : Station) (s : State) : State :=
  let s1 := s.setLink st (gapTest s.fru.count (s.link st))
  if lastFrameOfWindow (s1.link st) then departLink st s1 else s1.setLink st (countDown (s1.link st))

/-- Every link's part of a frame event. -/
def linksFrame (s : State) : State := (List.finRange 4).foldl (fun s st => linkFrameEvent st s) s

/-- A frame event, from whichever source (R29): the count, then every block's part of it. -/
def frameEventWhole (o : FrameOrder) (s : State) : State :=
  let s1 : State := { s with fru := { s.fru with count := s.fru.count + 1 } }
  let s2 := timersEnd (fun p => !o.latePins.contains p) (frameExpiries s1)
  let s3 := lanesFrame o.lanes (gridFrame o.transportFirst s2)
  linksFrame (timersEnd (fun p => o.latePins.contains p) s3)

/-! ### Frame Reference Unit -/

/-- A change of the reference state, with its notice and its indicator (R37). -/
def referenceChange (f : Fru) (s : State) : State :=
  raiseHouse .reference (showSource .externalRef { s with fru := f })

/-- A WCK period is good for the divisor in force (R32; unit: log entry 12). -/
def goodPeriod (divisor period : Nat) : Bool :=
  decide (period * divisor ≤ Config.periodUnit + Config.periodWindow ∧
    Config.periodUnit ≤ period * divisor + Config.periodWindow)

/-- WCK fails in EXTERNAL (R35). -/
def fallback (s : State) : State :=
  let st : RefState := if s.fru.requested = .internal then .internal else .fallback
  referenceChange { s.fru with
    state := st, run := 0, switch := .none, divisor := s.fru.nextDivisor, periodOpen := false } s

/-- The switch to external takes effect (R34). -/
def switchExternal (s : State) : State :=
  referenceChange { s.fru with state := .external, run := 0, switch := .none, place := .awaitFirst } s

/-- The switch to internal takes effect: INTERNAL, or from EXTERNAL with the source EXTERNAL still requested, QUALIFYING
at the next divisor (R36). -/
def switchInternal (s : State) : State :=
  let st : RefState := if s.fru.state = .external ∧ s.fru.requested = .external then .qualifying else .internal
  referenceChange { s.fru with
    state := st, run := 0, switch := .none, divisor := s.fru.nextDivisor, periodOpen := false } s

/-- An internal frame boundary while the internal source is in use: a frame event, then the switch that waited for it
(R31, R34, R36; log entry 38). -/
def internalBoundary (o : FrameOrder) (s : State) : State :=
  let s1 := frameEventWhole o s
  match s1.fru.switch with
  | .none => s1
  | .toExternal => switchExternal s1
  | .toInternal => switchInternal s1

/-- A WCK frame edge whose period is good: a frame event, then the switch that waited for it (R34, R36). -/
def wckFrameEdge (o : FrameOrder) (s : State) : State :=
  let s1 := frameEventWhole o s
  match s1.fru.switch with
  | .toInternal => switchInternal s1
  | .none => s1
  | .toExternal => s1

/-- The place of the edge after a WCK frame edge (R34). -/
def placeAfterFrame (divisor : Nat) : WckPlace := if divisor = 2 then .skipNext else .frameNext

/-- A frame event from WCK told without a measured period: a WCK frame edge whose period is good (R29, R34; log
entry 11). -/
def wckFrameEvent (o : FrameOrder) (s : State) : State :=
  wckFrameEdge o { s with fru := { s.fru with periodOpen := true, place := placeAfterFrame s.fru.divisor } }

/-- A rising edge while qualifying (R33, R34). -/
def qualifyEdge (w : WckPeriod) (f : Fru) : Fru :=
  match f.switch with
  | .toInternal => f
  | _ =>
    if !f.periodOpen then { f with periodOpen := true }
    else if goodPeriod f.divisor w.period then
      let run := if f.run < Config.qualifyRun then f.run + 1 else Config.qualifyRun
      { f with run := run, switch := if run = Config.qualifyRun then .toExternal else f.switch }
    else { f with run := 0, switch := .none }

/-- The edge is a WCK frame edge (R34). -/
def isFrameEdge (w : WckPeriod) (f : Fru) : Bool :=
  match f.place with
  | .awaitFirst => decide (Config.periodUnit ≤ 2 * w.sinceSwitch)
  | .frameNext => true
  | .skipNext => false

/-- Where the next edge stands after this one (R34). -/
def placeAfter (w : WckPeriod) (f : Fru) : WckPlace :=
  if isFrameEdge w f then placeAfterFrame f.divisor
  else match f.place with
    | .awaitFirst => .awaitFirst
    | .frameNext => .frameNext
    | .skipNext => .frameNext

/-- A rising edge in EXTERNAL (R34, R35). -/
def externalEdge (w : WckPeriod) (o : FrameOrder) (s : State) : State :=
  if s.fru.periodOpen && !goodPeriod s.fru.divisor w.period then fallback s
  else
    let frame := isFrameEdge w s.fru
    let s1 : State := { s with fru := { s.fru with periodOpen := true, place := placeAfter w s.fru } }
    if frame then wckFrameEdge o s1 else s1

/-- Three nominal frame periods without an edge (R33, R35; log entry 13). -/
def silence (s : State) : State :=
  match s.fru.state with
  | .internal => s
  | .external => fallback s
  | _ =>
    match s.fru.switch with
    | .toExternal => s
    | _ => { s with fru := { s.fru with run := 0, periodOpen := false } }

end Sys2Proof.Machine
end

