-- ==== Sys2Proof/Machine/GridFamily.lean ====
section
/-! DEFINITION. The Grid Engine's requests (section 1.9): TEMPO, NUDGE and SET_METER. -/

namespace Sys2Proof.Machine

/-! ### TEMPO (R23) -/

/-- The waiting handover is discarded, without effect on the grid (R83). -/
def dropHandover (s : State) : State := { s with lead := { s.lead with handover := none } }

/-- A Tempo that passed its checks, target v and glide beats m clamped (R23, R8). -/
def tempoWith (v m : Nat) (clamped : Bool) (s : State) : State × Reply :=
  if s.grid.state = .unset then (startGrid v 0 (dropHandover s), .answer (clampedOr clamped .ok) 0)
  else
    let same := decide (v = s.grid.base ∧ s.grid.glide = none ∧ s.lead.handover = none)
    ({ dropHandover s with grid := tempoChange v m s.grid },
      .answer (clampedOr clamped (if same then .noChange else .ok)) 0)

/-- The Grid Engine's part of a Tempo (R23). -/
def tempoOwner (st : Station) (f : List Byte) (s : State) : State × Reply :=
  match holderTerms s st with
  | none => answered .notLead 0 s
  | some t =>
    if t.mode = .mark then answered .wrongMode 0 s
    else
      let v := clampNat Config.tempoMin Config.tempoMax (tempoTarget f)
      let m := clampNat 0 32 (tempoGlide f)
      tempoWith v m (decide (v ≠ tempoTarget f ∨ m ≠ tempoGlide f)) s

/-- TEMPO: R8, R16, R23, R83, R85. -/
def execTempo (st : Station) (tag : Byte) (f : List Byte) (s : State) : Host.Outcome State Fault Refusal :=
  .next (takeRequest st 0x07 tag f [6] (tempoOwner st f) s)

/-! ### NUDGE (R24) -/

/-- The phase error a Nudge of amount a arms a trim with (R24). -/
def nudgeError (a : Int) : Int := -a * 16777216

/-- The Grid Engine's part of a Nudge (R24). -/
def nudgeOwner (st : Station) (f : List Byte) (s : State) : State × Reply :=
  if holds s st = false then answered .notLead 0 s
  else if s.grid.state = .unset then answered .notStarted 0 s
  else
    let a := clampInt (-64) 64 (nudgeAmount f)
    if a = 0 then answered .noChange 0 s
    else
      ({ s with grid := armTrim (nudgeError a) 8 s.grid },
        .answer (clampedOr (decide (a ≠ nudgeAmount f)) (if hasArmed s.grid.trim then .replaced else .ok)) 0)

/-- NUDGE: R19, R24, R85. -/
def execNudge (st : Station) (tag : Byte) (f : List Byte) (s : State) : Host.Outcome State Fault Refusal :=
  .next (takeRequest st 0x08 tag f [3] (nudgeOwner st f) s)

/-! ### SET_METER (R25) -/

/-- A Set Meter taken in UNSET: the meter at once, with its notice. -/
def meterAtOnce (m : Nat) (s : State) : State × Reply :=
  let s1 : State := { s with grid := { s.grid with meter := m, pendingMeter := none } }
  if m = s.grid.meter then (s1, .answer .noChange 0) else (raiseHouse .meter s1, .answer .ok 0)

/-- A Set Meter taken in a started grid: the pending meter. -/
def meterPending (m : Nat) (s : State) : State × Reply :=
  match s.grid.pendingMeter with
  | some _ => ({ s with grid := { s.grid with pendingMeter := some m } }, .answer .replaced 0)
  | none =>
    if m = s.grid.meter then answered .noChange 0 s
    else ({ s with grid := { s.grid with pendingMeter := some m } }, .answer .ok 0)

/-- The Grid Engine's part of a Set Meter (R25). -/
def setMeterOwner (st : Station) (f : List Byte) (s : State) : State × Reply :=
  if holds s st = false then answered .notLead 0 s
  else if meterField f = 0 ∨ 16 < meterField f then answered .badField 0 s
  else if s.grid.state = .unset then meterAtOnce (meterField f) s
  else meterPending (meterField f) s

/-- SET_METER: R25, R85. -/
def execSetMeter (st : Station) (tag : Byte) (f : List Byte) (s : State) : Host.Outcome State Fault Refusal :=
  .next (takeRequest st 0x09 tag f [3] (setMeterOwner st f) s)

end Sys2Proof.Machine
end

