-- ==== Sys2Proof/Machine/LaneFamily.lean ====
section
/-! DEFINITION. The Lane Table's commands (chapter 6): LANE_SET, LANE_ENABLE, LANE_DISABLE, LANE_RELEASE, and the
moments of a lane: LANE_ACTIVATION, STAGED_PART_APPLY, PENDING_DISABLE_EFFECT, LAST_EMISSION_EXPIRY. -/

namespace Sys2Proof.Machine

/-! ### Common checks (R113, R115) -/

/-- The detail of a lane answer: the lane index (section 6.5). -/
def laneDetail (l : LaneId) : Byte := BitVec.ofNat 8 l.val

/-- The first two common checks of R115. -/
def withLane (st : Station) (f : List Byte) (act : LaneId → State → State × Reply) (s : State) : State × Reply :=
  if !(s.link st).present then answered .noChange 0 s
  else
    match laneField f with
    | none => answered .badField 0 s
    | some l => act l s

/-- The check of R113: what refuses a request on a lane of another station; `none` where it passes. -/
def ownerRefusal (st : Station) (l : LaneId) (kind : Byte) (force : Bool) (code : BitVec 16) (s : State) :
    Option (State × Reply) :=
  match (s.lane l).owner with
  | none => none
  | some o =>
    if o = st then none
    else if !force then some (answered .held (stationByte o) s)
    else if s.lead.code = 0 then some (answered .seizeOff (laneDetail l) s)
    else if code ≠ s.lead.code then some (answered .badCode (laneDetail l) (setLatch st kind s))
    else none

/-- A lane request that passed the first two checks, behind the check of R113. -/
def owned (st : Station) (l : LaneId) (kind : Byte) (force : Bool) (code : BitVec 16)
    (act : State → State × Reply) (s : State) : State × Reply :=
  match ownerRefusal st l kind force code s with
  | some refusal => refusal
  | none => act s

/-! ### LANE_SET: its fields (R116, R195) -/

/-- The mask names a setting (R195). -/
def carries (f : List Byte) (bit : Nat) : Bool := (fCode f 1).getLsbD bit

/-- A carried field with no bad value. -/
def carriedValue {α : Type} (f : List Byte) (bit : Nat) (v : α) : Option α := if carries f bit then some v else none

/-- A carried field that may hold a bad value: `none` where it is carried and bad. -/
def carriedField {α : Type} (f : List Byte) (bit : Nat) (v : Option α) : Option (Option α) :=
  if carries f bit then v.map some else some none

/-- The kind the lane will have after the request; `none` for a carried kind outside its list. -/
def kindAfter (f : List Byte) (x : Settings) : Option LaneKind :=
  if carries f 0 then readLaneKind (f1 f 7) else some x.kind

/-- The accent-width field: 0 sets it absent (R195). -/
def accentField (f : List Byte) : Option Nat := if f2 f 18 = 0 then none else some (f2 f 18)

/-- The settings a Lane Set carries, as sent; `none` where one lies outside its list or a target is not of the kind
the lane will have, or a rate value is 0 (R116 check 2). -/
def readPatch (f : List Byte) (k : LaneKind) : Option Patch :=
  match carriedField f 1 (readTarget k (f1 f 8)), carriedField f 2 (readRate (f1 f 9) (f1 f 10)),
    carriedField f 5 (readAlign (f1 f 14)), carriedField f 6 (readWaveform (f1 f 15)),
    carriedField f 9 (readPolarity (f1 f 20)), carriedField f 13 (readBarCode (f1 f 27) (fByte f 28)) with
  | some target, some rate, some align, some waveform, some polarity, some barCode =>
    some {
      kind := carriedValue f 0 k
      target := target
      rate := rate
      swing := carriedValue f 3 (f1 f 11)
      offset := carriedValue f 4 (fSigned2 f 12)
      align := align
      waveform := waveform
      width := carriedValue f 7 (f2 f 16)
      accent := carriedValue f 8 (accentField f)
      polarity := polarity
      playOnly := carriedValue f 10 (decide (f1 f 21 ≠ 0))
      spacing := carriedValue f 11 (f1 f 22)
      codes := carriedValue f 12 ⟨fByte f 23, fByte f 24, fByte f 25, fByte f 26⟩
      barCode := barCode }
  | _, _, _, _, _, _ => none

/-- No carried field but applies to the kind (R107). -/
def fitsKind (k : LaneKind) (p : Patch) : Bool :=
  (decide (k = .pin) || (p.waveform.isNone && p.width.isNone && p.accent.isNone && p.polarity.isNone)) &&
    (decide (k = .stream) || (p.codes.isNone && p.barCode.isNone))

/-- A rate within its limits for a kind (R116, R107). -/
def limitRate (k : LaneKind) : Rate → Rate
  | .perBeat p => .perBeat (clampNat 1 (if k = .notice then 4 else 96) p)
  | .every q => .every (clampNat 1 64 q)
  | .perBar => .perBar

/-- The rate a patch sets on a lane of rate r: the carried one, limited; or, where a NOTICE lane would be left with too
fast a rate, the limited one (R107). -/
def patchRate (k : LaneKind) (r : Rate) (p : Patch) : Option Rate :=
  match p.rate with
  | some x => some (limitRate k x)
  | none => if limitRate k r = r then none else some (limitRate k r)

/-- A carried swing, judged against the rate the lane will have (R116). -/
def limitSwing (r : Rate) (swing : Nat) : Nat := if swingApplies r then clampNat 50 75 swing else 50

/-- The patch with its values clamped (R116 check 3). -/
def clampPatch (k : LaneKind) (r : Rate) (p : Patch) : Patch :=
  { p with
    rate := patchRate k r p
    swing := p.swing.map (limitSwing ((patchRate k r p).getD r))
    offset := p.offset.map (clampInt (-4800) 4800)
    width := p.width.map (clampNat 24 2400)
    accent := p.accent.map (Option.map (clampNat 24 2400))
    spacing := p.spacing.map (clampNat 1 255) }

/-! ### LANE_SET: its effect (R107, R114, R117 to R119) -/

/-- The settings as a change of kind leaves them (R107). -/
def settingsOfKind (k : LaneKind) (x : Settings) : Settings :=
  if k = x.kind then x
  else
    let y : Settings := { x with kind := k, target := .none }
    let y1 : Settings :=
      if k = .pin then y
      else { y with waveform := .pulse, width := 480, accent := none, polarity := .normal }
    if k = .stream then y1 else { y1 with codes := ⟨0, 0, 0, 0⟩, barCode := none }

/-- A patch written into the record at the taking (R117, R118). -/
def writePatch (p : Patch) (x : Settings) : Settings :=
  settledSwing (applyPatch p (settingsOfKind (p.kind.getD x.kind) x))

/-- Every carried setting equals the value held. -/
def patchHeld (p : Patch) (x : Settings) : Bool := decide (applyPatch p x = x)

/-- The immediate settings of a patch (R107). -/
def immediatePart (p : Patch) : Patch :=
  ⟨none, none, none, none, none, p.align, none, none, none, none, none, p.spacing, none, none⟩

/-- The stageable settings of a patch (R107). -/
def stageablePart (p : Patch) : Patch :=
  { p with kind := none, target := none, align := none, polarity := none, spacing := none }

/-- A patch holds no setting. -/
def patchEmpty (p : Patch) : Bool := decide (patchMask p = 0)

/-- The stageable settings applied at the taking, with the lane's reference in place of a boundary (R119). -/
def applyNow (ref : Pos) (p : Patch) (ln : Lane) : Lane :=
  let x := settledSwing (applyPatch p ln.settings)
  let anchor := anchorAfter p.rate.isSome x.rate (firstBeat true ref) ln.anchor
  { ln with
    settings := x
    staged := none
    anchor := anchor
    nextPoint := if p.rate.isSome then some (firstPoint x anchor true ref) else ln.nextPoint }

/-- The boundary a request leaves waiting, strictly beyond the lane's reference (R108). -/
def boundaryAfter (bar : Bool) (ref : Pos) : LaneBoundary := ⟨bar, ref.beat + 1⟩

/-- The stageable settings of a Lane Set taken while ACTIVE (R119). -/
def stagePatch (g : Grid) (a : ApplyAt) (p : Patch) (ln : Lane) : Lane :=
  let ref := reference g ln.settings.offset
  match a with
  | .now => applyNow ref p ln
  | .nextBeat => { ln with staged := some ⟨p, boundaryAfter false ref⟩ }
  | .nextBar => { ln with staged := some ⟨p, boundaryAfter true ref⟩ }

/-- A patch set on a lane while it is OFF (R117), ARMING (R118) or ACTIVE (R119). -/
def setPatch (g : Grid) (a : ApplyAt) (p : Patch) (ln : Lane) : Lane :=
  match ln.state with
  | .off => { ln with settings := writePatch p ln.settings }
  | .arming =>
    let x := writePatch p ln.settings
    let old := ln.settings
    { ln with
      settings := x
      activation :=
        if x.rate = old.rate ∧ x.align = old.align ∧ x.offset = old.offset then ln.activation
        else activationFor g x }
  | .active =>
    let ln1 : Lane := { ln with settings := applyPatch (immediatePart p) ln.settings }
    if patchEmpty (stageablePart p) then ln1 else stagePatch g a (stageablePart p) ln1

/-- The answer of a Lane Set that was not CLAMPED (R117 to R119). -/
def patchAnswer (p : Patch) (ownerChanged : Bool) (ln : Lane) : ResultCode :=
  match ln.state with
  | .active =>
    if patchEmpty (stageablePart p) then
      if patchHeld (immediatePart p) ln.settings && !ownerChanged then .noChange else .ok
    else if ln.staged.isSome then .replaced else .ok
  | _ => if patchHeld p ln.settings && !ownerChanged then .noChange else .ok

/-- A Lane Set that passed its checks, with the settings as sent (R116, R114). -/
def laneSetWith (st : Station) (l : LaneId) (k : LaneKind) (a : ApplyAt) (keep : Bool) (sent : Patch) (s : State) :
    State × Reply :=
  let ln := s.lane l
  let p := clampPatch k ln.settings.rate sent
  let changed := keep && decide (ln.owner ≠ some st)
  let ln1 := setPatch s.grid a p ln
  let ln2 : Lane := if keep then { ln1 with owner := some st } else ln1
  (s.setLane l ln2, .answer (clampedOr (decide (p ≠ sent)) (patchAnswer p changed ln)) (laneDetail l))

/-- The checks of a Lane Set after those of R115 (R116). -/
def laneSetChecked (st : Station) (f : List Byte) (l : LaneId) (s : State) : State × Reply :=
  let ln := s.lane l
  if (carries f 0 || carries f 1 || carries f 9) && decide (ln.state ≠ .off) then
    answered .laneActive (laneDetail l) s
  else
    match kindAfter f ln.settings, readApplyAt (f1 f 3) with
    | some k, some a =>
      match readPatch f k with
      | some p =>
        if fitsKind k p then laneSetWith st l k a (fFlag f 4 0) p s else answered .badField (laneDetail l) s
      | none => answered .badField (laneDetail l) s
    | _, _ => answered .badField (laneDetail l) s

/-- The Lane Table's part of a Lane Set. -/
def laneSetOwner (st : Station) (f : List Byte) (s : State) : State × Reply :=
  withLane st f (fun l => owned st l 0x0D (fFlag f 4 1) (fCode f 5) (laneSetChecked st f l)) s

/-- LANE_SET: R107, R113 to R119. -/
def execLaneSet (st : Station) (tag : Byte) (f : List Byte) (s : State) : Host.Outcome State Fault Refusal :=
  .next (takeRequest st 0x0D tag f [31] (laneSetOwner st f) s)

/-! ### LANE_ENABLE (R121) -/

/-- Another lane in ARMING or ACTIVE that targets a pin. -/
def otherHolder (s : State) (l : LaneId) (p : PinId) : Option LaneId :=
  (List.finRange 16).find? fun m =>
    decide (m ≠ l ∧ (s.lane m).state ≠ .off ∧ (s.lane m).settings.kind = .pin ∧
      (s.lane m).settings.target = .pin p)

/-- The lane whose pin a PIN lane would take (R121 check 2). -/
def pinTakenBy (s : State) (l : LaneId) (x : Settings) : Option LaneId :=
  match x.kind, x.target with
  | .pin, .pin p => otherHolder s l p
  | _, _ => none

/-- The owed mark of a lane that enters ARMING by an Enable (R96). -/
def joinMark (tc : Transport) : Option Owed :=
  match tc.state with
  | .stopped => none
  | .starting => tc.pending.map fun p => ⟨p.kind, some p.boundary⟩
  | .playing => some ⟨.start, none⟩
  | .stopping => none

/-- A lane goes from OFF to ARMING (R121). -/
def enableLane (l : LaneId) (s : State) : State :=
  let ln := s.lane l
  takeTarget ln.settings (s.setLane l { ln with
    state := .arming, activation := activationFor s.grid ln.settings, owed := joinMark s.tc })

/-- The checks of a Lane Enable after those of R115, and its action (R121). -/
def laneEnableChecked (l : LaneId) (s : State) : State × Reply :=
  let ln := s.lane l
  if ln.settings.target = .none then answered .badField (laneDetail l) s
  else
    match pinTakenBy s l ln.settings with
    | some m => answered .pinTaken (laneDetail m) s
    | none =>
      match ln.state with
      | .off => (enableLane l s, .answer .ok (laneDetail l))
      | .arming => answered .noChange (laneDetail l) s
      | .active =>
        match ln.disable with
        | some _ => (s.setLane l { ln with disable := none }, .answer .ok (laneDetail l))
        | none => answered .noChange (laneDetail l) s

/-- The Lane Table's part of a Lane Enable. -/
def laneEnableOwner (st : Station) (f : List Byte) (s : State) : State × Reply :=
  withLane st f (fun l => owned st l 0x0E (fFlag f 1 1) (fCode f 2) (laneEnableChecked l)) s

/-- LANE_ENABLE: R96, R110, R113, R115, R121, R160. -/
def execLaneEnable (st : Station) (tag : Byte) (f : List Byte) (s : State) : Host.Outcome State Fault Refusal :=
  .next (takeRequest st 0x0E tag f [6] (laneEnableOwner st f) s)

/-! ### LANE_DISABLE (R122) -/

/-- A pending disable written or replaced (R122). -/
def pendDisable (l : LaneId) (bar : Bool) (s : State) : State × Reply :=
  let ln := s.lane l
  let d := boundaryAfter bar (reference s.grid ln.settings.offset)
  (s.setLane l { ln with disable := some d },
    .answer (if ln.disable.isSome then .replaced else .ok) (laneDetail l))

/-- A Lane Disable that passed its checks (R122). -/
def laneDisableWith (l : LaneId) (a : ApplyAt) (s : State) : State × Reply :=
  match (s.lane l).state, a with
  | .off, _ => answered .noChange (laneDetail l) s
  | .arming, _ => (disableLane l s, .answer .ok (laneDetail l))
  | .active, .now => (disableLane l s, .answer .ok (laneDetail l))
  | .active, .nextBeat => pendDisable l false s
  | .active, .nextBar => pendDisable l true s

/-- The check of the apply-at, then the action (R122). -/
def laneDisableChecked (f : List Byte) (l : LaneId) (s : State) : State × Reply :=
  match readApplyAt (f1 f 1) with
  | none => answered .badField (laneDetail l) s
  | some a => laneDisableWith l a s

/-- The Lane Table's part of a Lane Disable. -/
def laneDisableOwner (st : Station) (f : List Byte) (s : State) : State × Reply :=
  withLane st f (fun l => owned st l 0x0F (fFlag f 2 1) (fCode f 3) (laneDisableChecked f l)) s

/-- LANE_DISABLE: R112, R113, R115, R122, R151, R160, R170. -/
def execLaneDisable (st : Station) (tag : Byte) (f : List Byte) (s : State) : Host.Outcome State Fault Refusal :=
  .next (takeRequest st 0x0F tag f [7] (laneDisableOwner st f) s)

/-! ### LANE_RELEASE (R123) -/

/-- A Lane Release that passed the first two common checks (R123). -/
def laneReleaseWith (st : Station) (l : LaneId) (s : State) : State × Reply :=
  match (s.lane l).owner with
  | none => answered .noChange (laneDetail l) s
  | some o =>
    if o = st then (s.setLane l { s.lane l with owner := none }, .answer .ok (laneDetail l))
    else answered .held (stationByte o) s

/-- The Lane Table's part of a Lane Release. -/
def laneReleaseOwner (st : Station) (f : List Byte) (s : State) : State × Reply :=
  withLane st f (laneReleaseWith st) s

/-- LANE_RELEASE: R114, R115, R123. -/
def execLaneRelease (st : Station) (tag : Byte) (f : List Byte) (s : State) : Host.Outcome State Fault Refusal :=
  .next (takeRequest st 0x10 tag f [3] (laneReleaseOwner st f) s)

/-! ### The moments of a lane (R111, R120, R122, R145; log entries 8 and 18) -/

/-- The item the walk of a lane takes next, with the reference as it stands. -/
def dueItem (l : LaneId) (s : State) : Option WalkItem :=
  if s.grid.state = .unset then none else nextItem (reference s.grid (s.lane l).settings.offset) (s.lane l)

/-- An activation point is reached: a bar start only where the beat it waits at is one (R108, R110). -/
def activationMet (g : Grid) : Activation → Bool
  | .position _ => true
  | .barStart b => isBarStart g b

/-- A lane takes the item its walk takes next. -/
def takeDue (l : LaneId) (i : WalkItem) (s : State) : State :=
  putWalked l (takeItem s.grid s.fru.count i (s.lane l)) s

/-- An ARMING lane becomes ACTIVE where its reference has reached its activation point (R111). -/
def activationMoment (l : LaneId) (s : State) : State :=
  match dueItem l s with
  | some (.activation a) => if activationMet s.grid a then takeDue l (.activation a) s else s
  | _ => s

/-- LANE_ACTIVATION: R111. -/
def execLaneActivation (l : LaneId) (s : State) : Host.Outcome State Fault Refusal :=
  .next (whenRunning (activationMoment l) s)

/-- A staged part is applied where the lane has reached its boundary (R120). -/
def stagedMoment (l : LaneId) (s : State) : State :=
  match dueItem l s with
  | some (.staged sp) => if boundaryMet s.grid sp.boundary then takeDue l (.staged sp) s else s
  | _ => s

/-- STAGED_PART_APPLY: R120. -/
def execStagedPartApply (l : LaneId) (s : State) : Host.Outcome State Fault Refusal :=
  .next (whenRunning (stagedMoment l) s)

/-- A pending disable takes effect where the lane has reached its boundary (R122). -/
def disableMoment (l : LaneId) (s : State) : State :=
  match dueItem l s with
  | some (.disable d) => if boundaryMet s.grid d then takeDue l (.disable d) s else s
  | _ => s

/-- PENDING_DISABLE_EFFECT: R112, R122. -/
def execPendingDisableEffect (l : LaneId) (s : State) : Host.Outcome State Fault Refusal :=
  .next (whenRunning (disableMoment l) s)

/-- LAST_EMISSION_EXPIRY: R145. -/
def execLastEmissionExpiry (l : LaneId) (s : State) : Host.Outcome State Fault Refusal :=
  .next (whenRunning (fun s => s.setLane l (lastEmissionExpire s.fru.count (s.lane l))) s)

end Sys2Proof.Machine
end

