-- ==== Sys2Proof/Machine/LeadFamily.lean ====
section
/-! DEFINITION. The Lead Arbiter's commands (chapter 4): TAKE_LEAD, YIELD, SEIZE, SEIZE_CODE_SET, LEAD_LAPSE and
HANDOVER_EFFECT. -/

namespace Sys2Proof.Machine

/-! ### TAKE_LEAD (R68 to R71) -/

/-- The waiting handover's terms and align are replaced (R70, R83). -/
def handoverTerms (t : Terms) (h : Handover) : Handover := { h with align := t.align, terms := t }

/-- The holder's terms are replaced, with the two effects of R70. -/
def replaceTerms (st : Station) (t : Terms) (s : State) : State :=
  let waits := s.lead.handover.isSome
  let lead := { s.lead with
    holder := some ⟨st, t⟩, handover := s.lead.handover.map (handoverTerms t) }
  let grid : Grid := if waits then { s.grid with crossing := .none } else s.grid
  let s1 : State := { s with grid := grid, lead := lead }
  match s.grid.state with
  | .unset =>
    match t.tempo with
    | some v => startGrid v 0 s1
    | none => s1
  | _ => if t.align = .now then handoverTakes s1 else s1

/-- The sender joins the queue at the tail, or its entry's terms are replaced in place (R71). -/
def queueWith (st : Station) (t : Terms) (q : List LeadEntry) : List LeadEntry :=
  if (entryOf st q).isSome then q.map fun e => if e.station = st then ⟨st, t⟩ else e else q ++ [⟨st, t⟩]

/-- A Take Lead that passed its checks, with its terms (R69 to R71). -/
def takeLeadWith (st : Station) (t : Terms) (clamped : Bool) (s : State) : State × Reply :=
  match s.lead.holder with
  | none => (changeHolder (some ⟨st, t⟩) [] .granted s, .answer (clampedOr clamped .ok) 0)
  | some h =>
    if h.station = st then (replaceTerms st t s, .answer (clampedOr clamped .ok) 0)
    else
      let q := queueWith st t s.lead.queue
      (raiseHouse .granted { s with lead := { s.lead with queue := q } },
        .answer (clampedOr clamped .queued) (BitVec.ofNat 8 (queuePosition st q)))

/-- The detail of a Take Lead that is refused: the sender's queue position, 0 where it has none (R68). -/
def queueDetail (st : Station) (q : List LeadEntry) : Byte :=
  if (entryOf st q).isSome then BitVec.ofNat 8 (queuePosition st q) else 0

/-- The Lead Arbiter's part of a Take Lead (R67, R68). -/
def takeLeadOwner (st : Station) (f : List Byte) (s : State) : State × Reply :=
  if !(s.link st).present then answered .noChange 0 s
  else
    match readTerms f 0 with
    | none => answered .badField (queueDetail st s.lead.queue) s
    | some (t, clamped) => takeLeadWith st t clamped s

/-- TAKE_LEAD: R67 to R71. -/
def execTakeLead (st : Station) (tag : Byte) (f : List Byte) (s : State) : Host.Outcome State Fault Refusal :=
  .next (takeRequest st 0x03 tag f [11] (takeLeadOwner st f) s)

/-! ### YIELD (R72) -/

/-- The Lead Arbiter's part of a Yield. -/
def yieldOwner (st : Station) (s : State) : State × Reply :=
  if !(s.link st).present then answered .noChange 0 s
  else if holds s st then (leaveLead .yielded s, .answer .ok 0)
  else if (entryOf st s.lead.queue).isSome then
    (raiseHouse .yielded { s with lead := { s.lead with queue := withoutEntry st s.lead.queue } }, .answer .ok 0)
  else answered .notLead 0 s

/-- YIELD: R67, R72. -/
def execYield (st : Station) (tag : Byte) (f : List Byte) (s : State) : Host.Outcome State Fault Refusal :=
  .next (takeRequest st 0x04 tag f [2] (yieldOwner st) s)

/-! ### SEIZE (R73, R74) -/

/-- The terms of a sender that carried none: its queue entry's, or the default (R74). -/
def ownTerms (st : Station) (s : State) : Terms :=
  match entryOf st s.lead.queue with
  | some e => e.terms
  | none => Terms.default

/-- The sender becomes the holder at once (R74). -/
def seizeWith (st : Station) (t : Terms) (clamped : Bool) (s : State) : State × Reply :=
  (changeHolder (some ⟨st, t⟩) (withoutEntry st s.lead.queue) .seized s, .answer (clampedOr clamped .ok) 0)

/-- The Lead Arbiter's part of a Seize (R73). -/
def seizeOwner (st : Station) (f : List Byte) (s : State) : State × Reply :=
  if !(s.link st).present then answered .noChange 0 s
  else if s.lead.code = 0 then answered .seizeOff 0 s
  else if seizeCode f ≠ s.lead.code then answered .badCode 0 (setLatch st 0x05 s)
  else if holds s st then answered .noChange 0 s
  else if f.length + 2 = 4 then seizeWith st (ownTerms st s) false s
  else
    match readTerms f 2 with
    | none => answered .badField 0 s
    | some (t, clamped) => seizeWith st t clamped s

/-- SEIZE: R67, R73, R74. -/
def execSeize (st : Station) (tag : Byte) (f : List Byte) (s : State) : Host.Outcome State Fault Refusal :=
  .next (takeRequest st 0x05 tag f [4, 13] (seizeOwner st f) s)

/-! ### SEIZE_CODE_SET (R75) -/

/-- The Lead Arbiter's part of a Seize Code Set. -/
def seizeCodeSetOwner (st : Station) (f : List Byte) (s : State) : State × Reply :=
  if !(s.link st).present then answered .noChange 0 s
  else if oldCode f ≠ s.lead.code then answered .badCode 0 (setLatch st 0x06 s)
  else if newCode f = s.lead.code then answered .noChange 0 s
  else ({ s with lead := { s.lead with code := newCode f } }, .answer .ok 0)

/-- SEIZE_CODE_SET: R67, R75. -/
def execSeizeCodeSet (st : Station) (tag : Byte) (f : List Byte) (s : State) : Host.Outcome State Fault Refusal :=
  .next (takeRequest st 0x06 tag f [6] (seizeCodeSetOwner st f) s)

/-! ### LEAD_LAPSE (R84) -/

/-- LEAD_LAPSE: R84. -/
def execLeadLapse (st : Station) (s : State) : Host.Outcome State Fault Refusal :=
  .next (whenRunning (leadLapse st) s)

/-! ### HANDOVER_EFFECT (R82) -/

/-- A waiting handover whose align boundary is the crossing just made takes effect (log entry 17). -/
def handoverMoment (s : State) : State := if s.grid.state = .unset then s else handoverAtCrossing s

/-- HANDOVER_EFFECT: R18, R82. -/
def execHandoverEffect (s : State) : Host.Outcome State Fault Refusal := .next (whenRunning handoverMoment s)

end Sys2Proof.Machine
end

