-- ==== Sys2Proof/Machine/LinkFamily.lean ====
section
/-! DEFINITION. The commands of the station links and the request handler (chapters 9 and 10): PRESENCE, UNKNOWN_KIND,
CHARACTER_RECEIVED, GAP_DETECTED, BREAK_DETECTED, PRESENCE_EXPIRY, LINK_MESSAGE_END and LINE_RETURNS_TO_MARK. -/

namespace Sys2Proof.Machine

/-! ### PRESENCE (R185) -/

/-- A presence countdown loaded for a window (R183). -/
def windowFrames (windowMs : Nat) : Nat := Config.framesPerMs * windowMs

/-- The Station Link Interface's part of a Presence. -/
def presenceOwner (st : Station) (f : List Byte) (s : State) : State × Reply :=
  if !(s.link st).present then answered .noChange 0 s
  else
    let w := clampNat 100 2000 (windowField f)
    let k := s.link st
    (s.setLink st { k with windowMs := w, countdown := some (windowFrames w) },
      .answer (clampedOr (decide (w ≠ windowField f)) (if w = k.windowMs then .noChange else .ok)) 0)

/-- PRESENCE: R183, R185. -/
def execPresence (st : Station) (tag : Byte) (f : List Byte) (s : State) : Host.Outcome State Fault Refusal :=
  .next (takeRequest st 0x01 tag f [4] (presenceOwner st f) s)

/-! ### UNKNOWN_KIND (R193) -/

/-- The KIND is one of the station-to-part kinds of R193. -/
def stationKind (kind : Byte) : Bool := decide (1 ≤ kind.toNat ∧ kind.toNat ≤ 21)

/-- The taking of a frame whose KIND is no station-to-part kind: refused, with the KIND as received. A known KIND is
another command (log entry 2). -/
def takeUnknown (st : Station) (kind tag : Byte) (f : List Byte) (s : State) : State :=
  if stationKind kind then s
  else
    match takeFrame st (kind :: tag :: f) s with
    | none => s
    | some s1 => placeReply st kind tag (.answer .unknownKind 0) s1

/-- UNKNOWN_KIND: R193, R196. -/
def execUnknownKind (st : Station) (kind tag : Byte) (f : List Byte) (s : State) :
    Host.Outcome State Fault Refusal :=
  .next (whenRunning (takeUnknown st kind tag f) s)

/-! ### CHARACTER_RECEIVED (R177 to R179, R182, R183) -/

/-- A framing error (R177). -/
def framingError (k : Link) : Link := { k with framing := satInc 255 k.framing, receiver := .hunt }

/-- A CRC-valid frame at its link: offered to the receive frame queue (R182), and a sign of life (R183). -/
def frameReceived (body : List Byte) (k : Link) : Link :=
  let k1 : Link :=
    if k.rxQueue.length < Config.rxQueueMax then { k with rxQueue := k.rxQueue ++ [body] }
    else { k with overrun := satInc 255 k.overrun }
  { k1 with present := true, countdown := some (windowFrames k1.windowMs) }

/-- What a received byte does to its link, and whether a frame was received (R178, R179). -/
def byteTaken (b : Byte) (k : Link) : Link × Bool :=
  match k.receiver with
  | .hunt => if b = 0xD5 then ({ k with receiver := .length }, false) else (k, false)
  | .length =>
    if 2 ≤ b.toNat ∧ b.toNat ≤ 40 then ({ k with receiver := .body b.toNat [] }, false)
    else (framingError k, false)
  | .body len bytes =>
    let all := bytes ++ [b]
    if all.length < len then ({ k with receiver := .body len all }, false)
    else ({ k with receiver := .check len all none }, false)
  | .check len bytes none => ({ k with receiver := .check len bytes (some b) }, false)
  | .check len bytes (some high) =>
    let k1 : Link := { k with receiver := .hunt }
    if crc16 (BitVec.ofNat 8 len :: bytes) = high ++ b then (frameReceived bytes k1, true)
    else ({ k1 with crc := satInc 255 k1.crc }, false)

/-- A character taken from a line (R177). A CRC-valid frame of a station whose departure still waits to be acted on
finds it acted on (log entry 16). While the line is held at space after a break none is taken (R181). -/
def characterTaken (st : Station) (c : LineChar) (s : State) : State :=
  if (s.link st).heldAtSpace then s
  else
    match c with
    | .framingError => s.setLink st (framingError (s.link st))
    | .byte b =>
      let s1 := if (byteTaken b (s.link st)).2 then settleDeparture st s else s
      let r := byteTaken b { s1.link st with lastByte := s1.fru.count }
      let s2 := s1.setLink st r.1
      if r.2 then pulseSource (.linkActivity st) s2 else s2

/-- CHARACTER_RECEIVED: R177 to R179, R182, R183, with R60 and R84 at a return. -/
def execCharacterReceived (st : Station) (c : LineChar) (s : State) : Host.Outcome State Fault Refusal :=
  .next (whenRunning (characterTaken st c) s)

/-! ### Gaps, breaks and expiry (R180, R181, R183) -/

/-- GAP_DETECTED: R180. -/
def execGapDetected (st : Station) (s : State) : Host.Outcome State Fault Refusal :=
  .next (whenRunning (fun s => s.setLink st (gapTest s.fru.count (s.link st))) s)

/-- A break on a line that has stood at space since frame count `spaceFrom` (R181). -/
def breakMoment (st : Station) (spaceFrom : Frame) (s : State) : State :=
  if (s.link st).heldAtSpace = false ∧ Config.breakFrames ≤ interval spaceFrom s.fru.count then
    let s1 := s.setLink st { s.link st with receiver := .hunt, heldAtSpace := true }
    if (s.link st).present then departLink st s1 else s1
  else s

/-- BREAK_DETECTED: R181, R184. -/
def execBreakDetected (st : Station) (spaceFrom : Frame) (s : State) : Host.Outcome State Fault Refusal :=
  .next (whenRunning (breakMoment st spaceFrom) s)

/-- The presence countdown of a PRESENT link runs out at 1 (R183; log entry 37). -/
def expiryMoment (st : Station) (s : State) : State :=
  if lastFrameOfWindow (s.link st) then departLink st s else s

/-- PRESENCE_EXPIRY: R183, R184. -/
def execPresenceExpiry (st : Station) (s : State) : Host.Outcome State Fault Refusal :=
  .next (whenRunning (expiryMoment st) s)

/-! ### The transmitter and the line (R181, R186) -/

/-- The message being sent ends, and the next leaves (R186). -/
def messageEnd (k : Link) : Link := if k.sending.isSome then txStart { k with sending := none } else k

/-- LINK_MESSAGE_END: R186. -/
def execLinkMessageEnd (st : Station) (s : State) : Host.Outcome State Fault Refusal :=
  .next (whenRunning (fun s => s.setLink st (messageEnd (s.link st))) s)

/-- The line returns to mark after a break: characters are taken again, in HUNT (R181). -/
def lineAtMark (k : Link) : Link := if k.heldAtSpace then { k with heldAtSpace := false, receiver := .hunt } else k

/-- LINE_RETURNS_TO_MARK: R181. -/
def execLineReturnsToMark (st : Station) (s : State) : Host.Outcome State Fault Refusal :=
  .next (whenRunning (fun s => s.setLink st (lineAtMark (s.link st))) s)

end Sys2Proof.Machine
end

