-- ==== Sys2Proof/Machine/Marks.lean ====
section
/-! DEFINITION. The Mark Follower's commands (chapter 3): MARK, INPUT_SET, MARK_INPUT_EDGE, FOLLOWER_EMPTIED,
LAST_STAMP_EXPIRY and EDGE_FRAME_EXPIRY. -/

namespace Sys2Proof.Machine

/-! ### Interval tests and estimate (R48, R49) -/

/-- The estimate of a history (R49). -/
def estimateOf (h : List Nat) : Option Nat :=
  if 2 ≤ h.length then some (roundNat (Config.tempoScale * h.length) h.sum) else none

/-- The mean of a history (R48). -/
def meanOf (h : List Nat) : Nat := h.sum / h.length

/-- The interval differs too far from the mean (R48 test 5). -/
def isOutlier (i : Nat) (h : List Nat) : Bool :=
  decide (h ≠ [] ∧ meanOf h / 8 < ((i : Int) - meanOf h).natAbs)

/-- The outcome of the interval tests (R48). -/
def markOutcome (stamp : Frame) (f : Follower) : MarkOutcome :=
  match f.lastStamp with
  | none => .first
  | some a =>
    let i := interval a stamp
    if 2147483648 ≤ i then .outOfOrder
    else if Config.intervalMax < i then .restart
    else if i < Config.intervalMin then .bounce
    else if isOutlier i f.history then .outlier
    else .accepted

/-- The interval of a mark from the last stamp. -/
def markInterval (stamp : Frame) (f : Follower) : Nat :=
  match f.lastStamp with
  | none => 0
  | some a => interval a stamp

/-- A record with a new stamp and history, its estimate recomputed (R49). -/
def stamped (stamp : Frame) (run : Nat) (h : List Nat) (f : Follower) : Follower :=
  { f with runCount := run, lastStamp := some stamp, history := h, estimate := estimateOf h }

/-- The follower record after a mark of some outcome (R48). -/
def followerAfter (o : MarkOutcome) (stamp : Frame) (f : Follower) : Follower :=
  let i := markInterval stamp f
  match o with
  | .first => stamped stamp 1 [] f
  | .restart => stamped stamp 1 [] f
  | .outlier => stamped stamp (satInc 65535 f.runCount) [i] f
  | .accepted => stamped stamp (satInc 65535 f.runCount) ((i :: f.history).take Config.historyMax) f
  | .bounce => f
  | .ignored => f
  | .outOfOrder => f
  | .bar => f

/-! ### Phase error and hand-offs (R52 to R58) -/

/-- The house position at a stamp (R52). -/
def positionAtStamp (stamp count : Frame) (g : Grid) : Pos := g.pos.sub (interval stamp count * g.appliedInc)

/-- The phase error of a position (R52). -/
def phaseError (p : Pos) : Int :=
  if p.frac.toNat < 2147483648 then (p.frac.toNat : Int) else (p.frac.toNat : Int) - Config.beatU

/-- A mark with this outcome of the interval tests has the phase role (R53). -/
def hasPhaseRole : MarkOutcome → Bool
  | .first => true
  | .restart => true
  | .outlier => true
  | .accepted => true
  | .bounce => false
  | .ignored => false
  | .outOfOrder => false
  | .bar => true

/-- The downbeat and the trim of a mark with the phase role, and the holder's last phase error (R54, R55, R57). -/
def phaseHandOffs (st : Station) (t : Terms) (stamp : Frame) (down : Bool) (s : State) : State :=
  let p := positionAtStamp stamp s.fru.count s.grid
  let e := phaseError p
  let g := if down then downbeat e p.beat s.grid else s.grid
  { s.setFollower st { s.follower st with phaseError := some e } with grid := armTrim e t.gain g }

/-- The follow target of an ACCEPTED mark of a MARK-mode holder (R56). -/
def followHandOff (st : Station) (t : Terms) (o : MarkOutcome) (s : State) : State :=
  match (s.follower st).estimate with
  | some e => if t.mode = .mark ∧ o = .accepted then { s with grid := followTarget e t s.grid } else s
  | none => s

/-- The grid start of an ACCEPTED mark of a MARK-mode holder (R58). -/
def startHandOff (st : Station) (t : Terms) (o : MarkOutcome) (stamp : Frame) (s : State) : State :=
  match (s.follower st).estimate with
  | some e => if t.mode = .mark ∧ o = .accepted then startGrid e (interval stamp s.fru.count) s else s
  | none => s

/-- The hand-offs of a mark after its interval test (R54, R59). -/
def markHandOffs (st : Station) (o : MarkOutcome) (stamp : Frame) (down : Bool) (s : State) : State :=
  match holderTerms s st with
  | none => s
  | some t =>
    match s.grid.state with
    | .running => if hasPhaseRole o then followHandOff st t o (phaseHandOffs st t stamp down s) else s
    | .unset => startHandOff st t o stamp s
    | .holdover => s

/-- A mark with the beat role taken: the interval tests, then the hand-offs (R48, R54). -/
def beatMark (st : Station) (stamp : Frame) (down : Bool) (s : State) : State :=
  let o := markOutcome stamp (s.follower st)
  markHandOffs st o stamp down (s.setFollower st (followerAfter o stamp (s.follower st)))

/-! ### MARK (R41) -/

/-- The stamp of a Mark request (R40, R41). -/
def markStamp (count : Frame) (timeBack : Nat) : Frame :=
  count - BitVec.ofNat 32 (clampNat 0 Config.timeBackMax timeBack)

/-- The result code of a Mark that was tested (R41). -/
def markResult (o : MarkOutcome) (clamped : Bool) : ResultCode :=
  if o = .outOfOrder then .badField
  else if clamped then .clamped
  else if o = .bounce then .noChange
  else .ok

/-- The Mark Follower's part of a Mark request. -/
def markOwner (st : Station) (f : List Byte) (s : State) : State × Reply :=
  if !(s.link st).present then answered .noChange (outcomeByte .ignored) s
  else
    let stamp := markStamp s.fru.count (markTimeBack f)
    let o := markOutcome stamp (s.follower st)
    (beatMark st stamp (markDownbeat f) s,
      .answer (markResult o (decide (Config.timeBackMax < markTimeBack f))) (outcomeByte o))

/-- MARK: R40, R41, R48 to R59. -/
def execMark (st : Station) (tag : Byte) (f : List Byte) (s : State) : Host.Outcome State Fault Refusal :=
  .next (takeRequest st 0x0A tag f [5] (markOwner st f) s)

/-! ### INPUT_SET (R45) -/

/-- The setting an Input Set carries, the hold-off clamped; `none` where the station or the edge is outside its list. -/
def readInputSetting (f : List Byte) : Option InputSetting :=
  match readInputStation (f1 f 1), readEdge (f1 f 2) with
  | some st, some e => some ⟨st, e, clampNat 480 12000 (f2 f 3), fFlag f 5 0⟩
  | _, _ => none

/-- The Mark Follower's part of an Input Set. -/
def inputSetOwner (st : Station) (f : List Byte) (s : State) : State × Reply :=
  if !(s.link st).present then answered .noChange 0 s
  else
    match fFin 2 f 0 with
    | none => answered .badField 0 s
    | some i =>
      let old := (s.input i).setting
      if old.station.isSome ∧ old.station ≠ some st then answered .held 0 s
      else
        match readInputSetting f with
        | none => answered .badField 0 s
        | some new =>
          (s.setInput i { s.input i with setting := new },
            .answer (clampedOr (decide (new.holdOff ≠ f2 f 3)) (if new = old then .noChange else .ok)) 0)

/-- INPUT_SET: R45. -/
def execInputSet (st : Station) (tag : Byte) (f : List Byte) (s : State) : Host.Outcome State Fault Refusal :=
  .next (takeRequest st 0x0B tag f [8] (inputSetOwner st f) s)

/-! ### MARK_INPUT_EDGE (R42 to R44) -/

/-- A level change is of the kind the setting selects (R42). -/
def edgeSelected : EdgeKind → LevelChange → Bool
  | .rising, .lowToHigh => true
  | .rising, .highToLow => false
  | .falling, .lowToHigh => false
  | .falling, .highToLow => true
  | .both, _ => true

/-- The hold-off has run out at this count (R43). -/
def holdOffOver (m : MarkInput) (count : Frame) : Bool :=
  match m.lastEdge with
  | none => true
  | some a => decide (m.setting.holdOff ≤ interval a count)

/-- The outcome of a delivered edge (R44). -/
def deliveredOutcome (st : Station) (m : MarkInput) (s : State) : MarkOutcome :=
  if !(s.link st).present then .ignored
  else if m.setting.downbeat then
    if holds s st ∧ s.grid.state = .running then .bar else .ignored
  else markOutcome s.fru.count (s.follower st)

/-- What a delivered edge does as a mark of its station (R44). -/
def deliveredMark (st : Station) (m : MarkInput) (s : State) : State :=
  if !(s.link st).present then s
  else if m.setting.downbeat then
    match holderTerms s st with
    | some t => if s.grid.state = .running then phaseHandOffs st t s.fru.count true s else s
    | none => s
  else beatMark st s.fru.count false s

/-- An edge of the selected kind, tested against the hold-off and delivered or discarded (R43, R44). -/
def inputEdge (i : InputId) (change : LevelChange) (s : State) : State :=
  let m := s.input i
  match m.setting.station with
  | none => s
  | some st =>
    if edgeSelected m.setting.edge change && holdOffOver m s.fru.count then
      let s1 := s.setInput i { m with
        lastEdge := some s.fru.count, lastOutcome := some (deliveredOutcome st m s) }
      deliveredMark st m s1
    else s

/-- MARK_INPUT_EDGE: R42 to R44. -/
def execMarkInputEdge (i : InputId) (change : LevelChange) (s : State) : Host.Outcome State Fault Refusal :=
  .next (whenRunning (inputEdge i change) s)

/-! ### FOLLOWER_EMPTIED (R60) and the expiries (R43, R50) -/

/-- FOLLOWER_EMPTIED: R60. -/
def execFollowerEmptied (st : Station) (s : State) : Host.Outcome State Fault Refusal :=
  .next (whenRunning (emptyFollower st) s)

/-- LAST_STAMP_EXPIRY: R50. -/
def execLastStampExpiry (st : Station) (s : State) : Host.Outcome State Fault Refusal :=
  .next (whenRunning (fun s => s.setFollower st (followerExpire s.fru.count (s.follower st))) s)

/-- EDGE_FRAME_EXPIRY: R43. -/
def execEdgeFrameExpiry (i : InputId) (s : State) : Host.Outcome State Fault Refusal :=
  .next (whenRunning (fun s => s.setInput i (edgeExpire s.fru.count (s.input i))) s)

end Sys2Proof.Machine
end

