-- ==== Sys2Proof/Machine/OutputFamily.lean ====
section
/-! DEFINITION. The commands of the pins and the stream ports (chapter 8): PIN_SET, PORT_SET, PIN_TIMER_END,
ACTIVE_UNTIL_EXPIRY and PORT_CHARACTER_END. -/

namespace Sys2Proof.Machine

/-! ### PIN_SET (R162) -/

/-- The detail of a Pin Set that is accepted: the pin index. -/
def pinDetail (p : PinId) : Byte := BitVec.ofNat 8 p.val

/-- A lane index as a detail; 0 for none. -/
def holderDetail : Option LaneId → Byte
  | some l => BitVec.ofNat 8 l.val
  | none => 0

/-- The items a Pin Set writes. -/
structure PinItems where
  function : PinFunction
  level : Bool
  polarity : Polarity
  source : Option Source
  deriving DecidableEq, Repr

/-- A pulse source sets the level to INACTIVE (R162). -/
def firstLevel (s : State) (src : Source) : Bool := (levelOf s src).getD false

/-- The items of a Pin Set; `none` where a field is outside its list (R162 check 4). -/
def readPinItems (f : List Byte) (s : State) : Option PinItems :=
  match f1 f 1, readPolarity (f1 f 3) with
  | 1, some pol => (readLevel (f1 f 2)).map fun lv => ⟨.level, lv, pol, none⟩
  | 2, some pol => (readSource (f1 f 4) (f1 f 5)).map fun src => ⟨.indicator, firstLevel s src, pol, some src⟩
  | _, _ => none

/-- Every item the request would write equals the item held; the level is no item of an INDICATOR request
(log entry 30). -/
def pinHolds (x : PinItems) (p : Pin) : Bool :=
  decide (p.function = x.function ∧ p.polarity = x.polarity ∧ p.source = x.source ∧
    (x.function = .level → p.level = x.level))

/-- The items written, with the timer IDLE and no active-until frame (R162). -/
def pinWritten (x : PinItems) : Pin := ⟨x.function, x.level, x.polarity, x.source, false, none⟩

/-- The Pin Driver's part of a Pin Set. -/
def pinSetOwner (st : Station) (f : List Byte) (s : State) : State × Reply :=
  if !(s.link st).present then answered .noChange 0 s
  else
    match fFin 8 f 0 with
    | none => answered .badField 0 s
    | some p =>
      if (s.pin p).function = .lane then answered .pinTaken (holderDetail (pinHolder s p)) s
      else
        match readPinItems f s with
        | none => answered .badField 0 s
        | some x =>
          if pinHolds x (s.pin p) then answered .noChange (pinDetail p) s
          else (s.setPin p (pinWritten x), .answer .ok (pinDetail p))

/-- PIN_SET: R153, R155, R161, R162. -/
def execPinSet (st : Station) (tag : Byte) (f : List Byte) (s : State) : Host.Outcome State Fault Refusal :=
  .next (takeRequest st 0x11 tag f [8] (pinSetOwner st f) s)

/-! ### PORT_SET (R171) -/

/-- The detail of a Port Set that is accepted: the port index. -/
def portDetail (p : PortId) : Byte := BitVec.ofNat 8 p.val

/-- The Stream Port's part of a Port Set. -/
def portSetOwner (st : Station) (f : List Byte) (s : State) : State × Reply :=
  if !(s.link st).present then answered .noChange 0 s
  else
    match fFin 4 f 0 with
    | none => answered .badField 0 s
    | some p =>
      match portLanes s p with
      | l :: _ => answered .portTaken (BitVec.ofNat 8 l.val) s
      | [] =>
        match readPortRate (f1 f 1) with
        | none => answered .badField 0 s
        | some r =>
          if r = (s.port p).rate then answered .noChange (portDetail p) s
          else (s.setPort p { s.port p with rate := r }, .answer .ok (portDetail p))

/-- PORT_SET: R171. -/
def execPortSet (st : Station) (tag : Byte) (f : List Byte) (s : State) : Host.Outcome State Fault Refusal :=
  .next (takeRequest st 0x12 tag f [4] (portSetOwner st f) s)

/-! ### Moments of a pin and a port (R155, R164) -/

/-- PIN_TIMER_END: R155. -/
def execPinTimerEnd (p : PinId) (s : State) : Host.Outcome State Fault Refusal :=
  .next (whenRunning (fun s => s.setPin p (timerEnd s.fru.count (s.pin p))) s)

/-- ACTIVE_UNTIL_EXPIRY: R155. -/
def execActiveUntilExpiry (p : PinId) (s : State) : Host.Outcome State Fault Refusal :=
  .next (whenRunning (fun s => s.setPin p (activeUntilExpire s.fru.count (s.pin p))) s)

/-- The character being sent ends (R164). -/
def characterEnd (p : Port) : Port := if p.sending.isSome then portLeave p else p

/-- PORT_CHARACTER_END: R164, R169. -/
def execPortCharacterEnd (p : PortId) (s : State) : Host.Outcome State Fault Refusal :=
  .next (whenRunning (fun s => s.setPort p (characterEnd (s.port p))) s)

end Sys2Proof.Machine
end

