-- ==== Sys2Proof/Machine/TransportFamily.lean ====
section
/-! DEFINITION. The Transport Controller's commands (chapter 5): TRANSPORT and TRANSPORT_BOUNDARY. -/

namespace Sys2Proof.Machine

/-! ### Horizon and boundary (R92, R93) -/

/-- What a lane adds to the horizon (R92). -/
def laneHorizon (g : Grid) (ln : Lane) : Nat :=
  if ln.state ≠ .off ∧ ln.settings.offset ≤ 0 then projection g ln.settings.offset else 0

/-- The horizon H, in u (R92). -/
def horizon (s : State) : Nat := s.lanes.toList.foldl (fun h ln => max h (laneHorizon s.grid ln)) 0

/-- The position P a Transport request measures from (R93, R101; DESIGN CHOICE, log entry 41): the position as it is
taken; or, where the frame event of this frame period was handled first and crossed no beat, the position before it. -/
def measuredPos (measured : Measured) (g : Grid) : Pos :=
  match measured with
  | .present => g.pos
  | .beforeFrame => g.before.getD g.pos

/-- The boundary beat a Transport request fixes: the first boundary strictly beyond P + H (R93). -/
def boundaryBeat (measured : Measured) (q : Quantum) (s : State) : Beat :=
  let after := ((measuredPos measured s.grid).add (horizon s)).beat + 1
  match q with
  | .beat => after
  | .bar => firstBarFrom s.grid after

/-! ### Owed marks (R94, R98, R99) -/

/-- Every lane in ARMING or ACTIVE changed. -/
def onLanes (f : Lane → Lane) (s : State) : State :=
  { s with lanes := mapEach s.lanes fun _ ln => if ln.state = .off then ln else f ln }

/-- The lane owes a mark of a kind in the list for this boundary. -/
def owes (kinds : List TransportKind) (b : Beat) (ln : Lane) : Bool :=
  match ln.owed with
  | some w => kinds.contains w.kind && decide (w.boundary = some b)
  | none => false

/-- A lane at the cancel of a start (R98). -/
def cancelStart (b : Beat) (ln : Lane) : Lane :=
  if ln.playing then { ln with owed := some ⟨.stop, none⟩ }
  else if owes [.start, .cont] b ln then { ln with owed := none }
  else ln

/-- A lane at the cancel of a stop (R99). -/
def cancelStop (b : Beat) (ln : Lane) : Lane :=
  if !ln.playing then { ln with owed := some ⟨.cont, none⟩ }
  else if owes [.stop] b ln then { ln with owed := none }
  else ln

/-! ### TRANSPORT (R90 to R99) -/

/-- A change of the transport state, with the PLAYING indicator and the notice (R90, R103). -/
def transportChange (tc : Transport) (s : State) : State :=
  raiseHouse .transport (showSource .playing { s with tc := tc })

/-- A boundary is fixed, and every lane in ARMING or ACTIVE owes the mark (R93, R94). Measured before the frame event
(log entry 41), the boundary may already lie behind a lane's reference: that lane attaches the mark late (R95, R101). -/
def fixBoundary (measured : Measured) (k : TransportKind) (q : Quantum) (st : TransportState) (s : State) : State × Reply :=
  let b := boundaryBeat measured q s
  let s1 := onLanes (fun ln => { ln with owed := some ⟨k, some b⟩ }) s
  (transportChange ⟨st, some ⟨k, q, b⟩, s.tc.songBar⟩ s1,
    .answer .ok (BitVec.ofNat 8 (b - s.grid.pos.beat).toNat))

/-- A boundary is cancelled (R98, R99). -/
def cancelBoundary (lane : Beat → Lane → Lane) (st : TransportState) (s : State) : State × Reply :=
  let s1 := match s.tc.pending with
    | some p => onLanes (lane p.boundary) s
    | none => s
  (transportChange ⟨st, none, s.tc.songBar⟩ s1, .answer .ok 0)

/-- A Transport that passed its checks (R90, R91). -/
def transportWith (measured : Measured) (k : TransportKind) (q : Quantum) (s : State) : State × Reply :=
  match s.tc.state, decide (k = .stop) with
  | .stopped, false => fixBoundary measured k q .starting s
  | .stopped, true => answered .noChange 0 s
  | .starting, true => cancelBoundary cancelStart .stopped s
  | .starting, false => answered .noChange 0 s
  | .playing, true => fixBoundary measured k q .stopping s
  | .playing, false => answered .noChange 0 s
  | .stopping, false => cancelBoundary cancelStop .playing s
  | .stopping, true => answered .noChange 0 s

/-- The Transport Controller's part of a Transport (R91). -/
def transportOwner (st : Station) (b : TransportBody) (s : State) : State × Reply :=
  if holds s st = false then answered .notLead 0 s
  else
    match readTransportKind (f1 b.fields 0), readQuantum (f1 b.fields 1) with
    | some k, some q => if s.grid.state = .unset then answered .notStarted 0 s else transportWith b.measured k q s
    | _, _ => answered .badField 0 s

/-- TRANSPORT: R85, R90 to R94, R98, R99, R101. -/
def execTransport (st : Station) (tag : Byte) (b : TransportBody) (s : State) : Host.Outcome State Fault Refusal :=
  .next (takeRequest st 0x0C tag b.fields [4] (transportOwner st b) s)

/-! ### TRANSPORT_BOUNDARY (R97) -/

/-- The pending transport takes effect where the started grid stands in its boundary beat (log entry 8). -/
def transportMoment (s : State) : State := if s.grid.state = .unset then s else transportReached s

/-- TRANSPORT_BOUNDARY: R97. -/
def execTransportBoundary (s : State) : Host.Outcome State Fault Refusal := .next (whenRunning transportMoment s)

end Sys2Proof.Machine
end

