-- ==== Sys2Proof/Machine/QueryFamily.lean ====
section
/-! DEFINITION. QUERY and its Reports (section 10.3, layouts of section 10.5; log entries 26 to 28). -/

namespace Sys2Proof.Machine

/-! ### Topics (R198) -/

/-- The topics, with the index of those that have one. -/
inductive Topic where
  | grid
  | lead
  | transport
  | lane (l : LaneId)
  | port (p : PortId)
  | pin (p : PinId)
  | input (i : InputId)
  | link
  | reference
  | store
  deriving DecidableEq, Repr

/-- The topic and index of a Query; `none` for a topic outside 0 to 9 or an index outside the topic's range. -/
def readTopic (f : List Byte) : Option Topic :=
  match f1 f 0 with
  | 0 => some .grid
  | 1 => some .lead
  | 2 => some .transport
  | 3 => (fFin 16 f 1).map Topic.lane
  | 4 => (fFin 4 f 1).map Topic.port
  | 5 => (fFin 8 f 1).map Topic.pin
  | 6 => (fFin 2 f 1).map Topic.input
  | 7 => some .link
  | 8 => some .reference
  | 9 => some .store
  | _ => none

/-- The number of a topic (R198). -/
def topicByte : Topic → Byte
  | .grid => 0 | .lead => 1 | .transport => 2 | .lane _ => 3 | .port _ => 4 | .pin _ => 5 | .input _ => 6
  | .link => 7 | .reference => 8 | .store => 9

/-- The index byte of a Report; 0 for topics without one (R199). -/
def indexByte : Topic → Byte
  | .lane l => BitVec.ofNat 8 l.val
  | .port p => BitVec.ofNat 8 p.val
  | .pin p => BitVec.ofNat 8 p.val
  | .input i => BitVec.ofNat 8 i.val
  | .grid => 0 | .lead => 0 | .transport => 0 | .link => 0 | .reference => 0 | .store => 0

/-- The part count of a topic (R199). -/
def partCount : Topic → Nat
  | .grid => 2
  | .lead => 4
  | .transport => 1
  | .lane _ => 4
  | .port _ => 1
  | .pin _ => 1
  | .input _ => 1
  | .link => 1
  | .reference => 1
  | .store => 1

/-! ### GRID (R26) -/

def gridPart0 (g : Grid) : List Byte :=
  [gridByte g.state] ++ be32 g.pos.beat ++ be32 g.pos.frac ++ be3 g.base ++ be3 g.baseInc ++ be3 g.appliedInc ++
    be1 g.meter ++ be1 (g.pendingMeter.getD 0) ++ be32 g.barStart ++ be1 g.beatInBar ++ be32 g.barCount

/-- S, G, n and i. -/
def glideBytes (x : Glide) : List Byte := be3 x.start ++ be3 x.target ++ be1 x.length ++ be1 x.steps

/-- Form, Δp and Δa. -/
def trimBytes : Trim → List Byte
  | .none => [0] ++ beSigned3 0 ++ beSigned3 0
  | .armed a => [1] ++ beSigned3 0 ++ beSigned3 a
  | .applied p => [2] ++ beSigned3 p ++ beSigned3 0
  | .appliedArmed p a => [3] ++ beSigned3 p ++ beSigned3 a

def gridPart1 (g : Grid) : List Byte := optional 8 glideBytes g.glide ++ trimBytes g.trim

/-! ### LEAD (R87, R47) -/

/-- A station with its terms; 0xFF and zeros for none. -/
def entryBytes : Option LeadEntry → List Byte
  | some e => stationByte e.station :: termsBytes e.terms
  | none => 0xFF :: List.replicate 9 0

/-- The last phase error of the holder. -/
def holderPhaseError (s : State) : Option Int := s.lead.holder.bind fun h => (s.follower h.station).phaseError

def handoverBytes (h : Handover) : List Byte :=
  [stationByte h.station, alignByte h.align, flagByte h.startWait] ++ termsBytes h.terms

def leadPart0 (s : State) : List Byte :=
  latchBytes s.lead.latch ++ entryBytes s.lead.holder ++ optional 4 beSigned4 (holderPhaseError s) ++
    optional 12 handoverBytes s.lead.handover ++ [flagByte (decide (s.lead.code ≠ 0))]

def leadPart1 (s : State) : List Byte :=
  latchBytes s.lead.latch ++ entryBytes s.lead.queue[0]? ++ entryBytes s.lead.queue[1]? ++
    entryBytes s.lead.queue[2]?

/-- A station's follower items. -/
def followerBytes (x : Follower) : List Byte :=
  be2 x.runCount ++ be1 x.history.length ++ optional 4 be32 x.lastStamp ++ optional 3 be3 x.estimate

def leadPart2 (a b : Station) (s : State) : List Byte :=
  latchBytes s.lead.latch ++ followerBytes (s.follower a) ++ followerBytes (s.follower b)

/-! ### TRANSPORT (R103) -/

def pendingBytes (p : PendingTransport) : List Byte := [kindByte p.kind, quantumByte p.quantum] ++ be32 p.boundary

def transportPart (s : State) : List Byte :=
  [transportByte s.tc.state] ++ optional 6 pendingBytes s.tc.pending ++ be32 s.tc.songBar ++ be4 (horizon s)

/-! ### LANE (R124, R150) -/

/-- The beat a waiting boundary lies at under the numbering in force. -/
def boundaryShown (g : Grid) (d : LaneBoundary) : Beat := if d.bar then firstBarFrom g d.beat else d.beat

/-- The position an activation point lies at under the numbering in force. -/
def activationShown (g : Grid) : Activation → Pos
  | .position p => p
  | .barStart b => Pos.beatStart (firstBarFrom g b)

def posBytes (p : Pos) : List Byte := be32 p.beat ++ be32 p.frac

def boundaryBytes (g : Grid) (d : LaneBoundary) : List Byte := [applyAtByte d] ++ be32 (boundaryShown g d)

def lanePart1 (g : Grid) (ln : Lane) : List Byte :=
  [stationOpt ln.owner, laneStateByte ln.state] ++ optional 8 (fun a => posBytes (activationShown g a)) ln.activation ++
    optional 4 be32 ln.anchor ++ optional 5 (boundaryBytes g) ln.disable

def stagedBytes (g : Grid) (sp : Staged) : List Byte :=
  be2 (patchMask sp.patch) ++ boundaryBytes g sp.boundary ++ patchBytes sp.patch

def lanePart2 (g : Grid) (ln : Lane) : List Byte := optional 29 (stagedBytes g) ln.staged

/-- The total of the counts in a point queue (R150). -/
def queueTotal (q : List PointRecord) : Nat := (q.map PointRecord.count).sum

/-- The kind of an owed mark, and its boundary beat after a presence byte. -/
def owedBytes (o : Option Owed) : List Byte :=
  [markByte (o.map Owed.kind)] ++ optional 4 be32 (o.bind Owed.boundary)

def lanePart3 (ln : Lane) : List Byte :=
  optional 5 (fun n => be32 (NextPoint.beat n) ++ be1 n.index) ln.nextPoint ++ be1 ln.queue.length ++
    be2 (queueTotal ln.queue) ++ optional 4 (fun r => be32 (PointRecord.due r)) ln.queue.head? ++
    optional 4 be32 ln.lastEmission ++ [flagByte ln.playing, flagByte ln.emittedPlaying] ++ owedBytes ln.owed

def lanePart (l : LaneId) (part : Nat) (s : State) : List Byte :=
  match part with
  | 0 => settingsBytes (s.lane l).settings
  | 1 => lanePart1 s.grid (s.lane l)
  | 2 => lanePart2 s.grid (s.lane l)
  | _ => lanePart3 (s.lane l)

/-! ### The other topics -/

/-- The lanes that target a port: bit n set for lane Ln. -/
def laneBits (ls : List LaneId) : Nat := (ls.map fun l => 2 ^ l.val).sum

/-- R172. -/
def portPart (p : PortId) (s : State) : List Byte :=
  let x := s.port p
  [portRateByte x.rate, flagByte x.sending.isSome] ++ be1 x.fifo.length ++ be1 x.owedTicks ++
    optional 1 (fun b => [b]) x.owedTick ++ optional 1 (fun b => [b]) x.held ++ [flagByte x.lost] ++
    be2 (laneBits (portLanes s p))

/-- The lane that holds a pin of function LANE (R163). -/
def holdingLane (s : State) (p : PinId) : Option LaneId :=
  if (s.pin p).function = .lane then pinHolder s p else none

/-- R163. -/
def pinPart (p : PinId) (s : State) : List Byte :=
  let x := s.pin p
  [functionByte x.function, flagByte x.level, polarityByte x.polarity] ++ sourceBytes x.source ++
    [flagByte (pinShown s p), flagByte x.timing] ++ optional 4 be32 x.activeUntil ++
    optional 1 (fun l => be1 (Fin.val l)) (holdingLane s p)

/-- R46. -/
def inputPart (i : InputId) (s : State) : List Byte :=
  let x := s.input i
  [stationOpt x.setting.station, edgeByte x.setting.edge] ++ be2 x.setting.holdOff ++
    [flagByte x.setting.downbeat] ++ optional 4 be32 x.lastEdge ++
    [match x.lastOutcome with
      | some o => outcomeByte o
      | none => 0]

/-- R190, of the sender's link. -/
def linkPart (st : Station) (s : State) : List Byte :=
  let k := s.link st
  [BitVec.ofNat 8 s.straps.linkRate.val, flagByte (s.link 0).present, flagByte (s.link 1).present,
    flagByte (s.link 2).present, flagByte (s.link 3).present] ++ be2 k.windowMs ++ be3 (k.countdown.getD 0) ++
    be1 k.rxQueue.length ++ be1 k.txQueue.length ++ be1 k.framing ++ be1 k.crc ++ be1 k.gap ++ be1 k.overrun ++
    [flagByte k.answerLost]

/-- R37. -/
def referencePart (f : Fru) : List Byte :=
  [refSourceByte f.requested, refByte f.state] ++ be1 f.divisor ++ be1 f.nextDivisor ++ be2 f.run ++
    [switchByte f.switch] ++ be32 f.count

/-- R208. -/
def storePart (s : State) : List Byte :=
  [BitVec.ofNat 8 s.straps.linkRate.val, flagByte s.straps.external, flagByte s.straps.load,
    flagByte s.store.saving.isSome, flagByte s.store.valid, loadByte s.store.load, saveByte s.store.lastSave]

/-! ### QUERY (R198 to R200) -/

/-- The contents of a part (R199). -/
def partContents (st : Station) (t : Topic) (part : Nat) (s : State) : List Byte :=
  match t with
  | .grid => if part = 0 then gridPart0 s.grid else gridPart1 s.grid
  | .lead =>
    match part with
    | 0 => leadPart0 s
    | 1 => leadPart1 s
    | 2 => leadPart2 0 1 s
    | _ => leadPart2 2 3 s
  | .transport => transportPart s
  | .lane l => lanePart l part s
  | .port p => portPart p s
  | .pin p => pinPart p s
  | .input i => inputPart i s
  | .link => linkPart st s
  | .reference => referencePart s.fru
  | .store => storePart s

/-- A Report's body after TAG (R199). -/
def reportContents (st : Station) (t : Topic) (part : Nat) (s : State) : List Byte :=
  [topicByte t, indexByte t, BitVec.ofNat 8 part, BitVec.ofNat 8 (partCount t)] ++ partContents st t part s

/-- The clearing effects of a Query (R200). -/
def clearShown (st : Station) (t : Topic) (s : State) : State :=
  match t with
  | .lead => showSource .seizeFailed { s with lead := { s.lead with latch := none } }
  | .port p => s.setPort p { s.port p with lost := false }
  | .link =>
    s.setLink st { s.link st with framing := 0, crc := 0, gap := 0, overrun := 0, answerLost := false }
  | .grid => s
  | .transport => s
  | .lane _ => s
  | .pin _ => s
  | .input _ => s
  | .reference => s
  | .store => s

/-- The request handler's part of a Query (R198). -/
def queryOwner (st : Station) (f : List Byte) (s : State) : State × Reply :=
  if !(s.link st).present then answered .noChange 0 s
  else
    match readTopic f with
    | none => answered .badField 0 s
    | some t =>
      if partCount t ≤ f1 f 2 then answered .badField (BitVec.ofNat 8 (partCount t)) s
      else (clearShown st t s, .report (reportContents st t (f1 f 2) s))

/-- QUERY: R198 to R200, and R26, R37, R46, R47, R87, R103, R124, R150, R163, R172, R190, R208. -/
def execQuery (st : Station) (tag : Byte) (f : List Byte) (s : State) : Host.Outcome State Fault Refusal :=
  .next (takeRequest st 0x02 tag f [5] (queryOwner st f) s)

end Sys2Proof.Machine
end

