-- ==== Sys2Proof/Machine/ReferenceFamily.lean ====
section
/-! DEFINITION. The commands of the Frame Reference Unit (chapter 2): REFERENCE_SET, FRAME_EVENT, WCK_EDGE,
WCK_SILENCE, SWITCH_TO_EXTERNAL and SWITCH_TO_INTERNAL. -/

namespace Sys2Proof.Machine

/-! ### REFERENCE_SET (R38) -/

/-- Both divisors take a value (R38). -/
def bothDivisors (d : Nat) (f : Fru) : Fru := { f with divisor := d, nextDivisor := d }

/-- A Reference Set in INTERNAL. -/
def setFromInternal (src : RefSource) (d : Nat) (s : State) : State × Reply :=
  match src with
  | .internal =>
    ({ s with fru := bothDivisors d s.fru },
      .answer (if d ≠ s.fru.divisor then .ok else .noChange) 0)
  | .external =>
    (referenceChange { bothDivisors d s.fru with state := .qualifying, run := 0, switch := .none, periodOpen := false } s,
      .answer .ok 0)

/-- A Reference Set in QUALIFYING or FALLBACK. -/
def setWhileQualifying (src : RefSource) (d : Nat) (s : State) : State × Reply :=
  match decide (s.fru.switch = .toInternal), src with
  | false, .internal =>
    ({ s with fru := { bothDivisors d s.fru with switch := .toInternal, run := 0 } }, .answer .ok 0)
  | false, .external =>
    if d = s.fru.divisor then (s, .answer .noChange 0)
    else ({ s with fru := { bothDivisors d s.fru with run := 0, switch := .none, periodOpen := false } },
      .answer .ok 0)
  | true, .internal =>
    ({ s with fru := bothDivisors d s.fru }, .answer (if d ≠ s.fru.divisor then .ok else .noChange) 0)
  | true, .external =>
    ({ s with fru := { bothDivisors d s.fru with switch := .none, run := 0, periodOpen := false } },
      .answer .ok 0)

/-- A Reference Set in EXTERNAL. -/
def setFromExternal (src : RefSource) (d : Nat) (s : State) : State × Reply :=
  match decide (s.fru.switch = .toInternal), src with
  | false, .internal =>
    ({ s with fru := { s.fru with switch := .toInternal, nextDivisor := d } }, .answer .ok 0)
  | false, .external =>
    if d = s.fru.divisor then (s, .answer .noChange 0)
    else ({ s with fru := { s.fru with switch := .toInternal, nextDivisor := d } }, .answer .ok 0)
  | true, .internal =>
    ({ s with fru := { s.fru with nextDivisor := d } },
      .answer (if d ≠ s.fru.nextDivisor then .ok else .noChange) 0)
  | true, .external =>
    if d = s.fru.divisor then
      ({ s with fru := { s.fru with switch := .none, nextDivisor := d } }, .answer .ok 0)
    else ({ s with fru := { s.fru with nextDivisor := d } }, .answer .ok 0)

/-- A Reference Set that passed its checks, the requested source set first (R38). -/
def referenceSetWith (src : RefSource) (d : Nat) (s : State) : State × Reply :=
  let s1 : State := { s with fru := { s.fru with requested := src } }
  match s.fru.state with
  | .internal => setFromInternal src d s1
  | .external => setFromExternal src d s1
  | .qualifying => setWhileQualifying src d s1
  | .fallback => setWhileQualifying src d s1

/-- The Frame Reference Unit's part of a Reference Set. -/
def referenceSetOwner (st : Station) (f : List Byte) (s : State) : State × Reply :=
  if holds s st = false then answered .notLead 0 s
  else
    match readRefSource (f1 f 0), readDivisor (f1 f 1) with
    | some src, some d => referenceSetWith src d s
    | _, _ => answered .badField 0 s

/-- REFERENCE_SET: R33, R36, R37, R38, R85. -/
def execReferenceSet (st : Station) (tag : Byte) (f : List Byte) (s : State) : Host.Outcome State Fault Refusal :=
  .next (takeRequest st 0x13 tag f [4] (referenceSetOwner st f) s)

/-! ### Frames -/

/-- A frame event from the source in use: WCK in EXTERNAL, the internal source in the other states (R29, R33; log
entry 11). -/
def frameMoment (o : FrameOrder) (s : State) : State :=
  match s.fru.state with
  | .internal => internalBoundary o s
  | .qualifying => internalBoundary o s
  | .external => wckFrameEvent o s
  | .fallback => internalBoundary o s

/-- FRAME_EVENT: R29, R31, and R6, R11, R43, R50, R136, R143, R145, R155, R180, R183 for its parts. -/
def execFrameEvent (o : FrameOrder) (s : State) : Host.Outcome State Fault Refusal :=
  .next (whenRunning (frameMoment o) s)

/-- A rising edge on WCK (R32): measured in every state but INTERNAL. -/
def wckMoment (w : WckPeriod) (o : FrameOrder) (s : State) : State :=
  match s.fru.state with
  | .internal => s
  | .qualifying => { s with fru := qualifyEdge w s.fru }
  | .fallback => { s with fru := qualifyEdge w s.fru }
  | .external => externalEdge w o s

/-- WCK_EDGE: R32 to R36. -/
def execWckEdge (w : WckPeriod) (o : FrameOrder) (s : State) : Host.Outcome State Fault Refusal :=
  .next (whenRunning (wckMoment w o) s)

/-- WCK_SILENCE: R33, R35. -/
def execWckSilence (s : State) : Host.Outcome State Fault Refusal := .next (whenRunning silence s)

/-! ### Switches -/

/-- The reference is qualifying WCK (R33). -/
def isQualifying : RefState → Bool
  | .internal => false
  | .qualifying => true
  | .external => false
  | .fallback => true

/-- The internal frame boundary a pending TO_EXTERNAL waited for (R34). -/
def toExternalMoment (o : FrameOrder) (s : State) : State :=
  if s.fru.switch = .toExternal ∧ isQualifying s.fru.state then internalBoundary o s else s

/-- SWITCH_TO_EXTERNAL: R34. -/
def execSwitchToExternal (o : FrameOrder) (s : State) : Host.Outcome State Fault Refusal :=
  .next (whenRunning (toExternalMoment o) s)

/-- The frame boundary a pending TO_INTERNAL waited for: an internal one, or in EXTERNAL a WCK frame edge whose period
is good (R36). -/
def toInternalMoment (o : FrameOrder) (s : State) : State :=
  if s.fru.switch = .toInternal then
    match s.fru.state with
    | .internal => s
    | .qualifying => internalBoundary o s
    | .fallback => internalBoundary o s
    | .external => wckFrameEvent o s
  else s

/-- SWITCH_TO_INTERNAL: R36. -/
def execSwitchToInternal (o : FrameOrder) (s : State) : Host.Outcome State Fault Refusal :=
  .next (whenRunning (toInternalMoment o) s)

end Sys2Proof.Machine
end

