-- ==== Sys2Proof/Machine/StartFamily.lean ====
section
/-! DEFINITION. Start-up, the scene store and Grid Clear (chapter 11): HARDWARE_RESET, RSTN_RELEASE,
OSCILLATOR_STARTED, SCENE_SAVE, SCENE_SAVE_COMPLETE and GRID_CLEAR. -/

namespace Sys2Proof.Machine

/-! ### Reset and start-up (R203, R207) -/

/-- The store after a hardware reset: the stored scene and its mark survive, unless a write was stopped (R206, R210;
log entry 40). -/
def resetStore (x : Store) : Store :=
  match x.saving with
  | some _ => Store.reset
  | none => { Store.reset with stored := x.stored, valid := x.valid }

/-- RSTN goes low: every block at its reset values (R203). The commands that wait stay. -/
def resetPart (s : State) : State := { State.reset with store := resetStore s.store, pending := s.pending }

/-- HARDWARE_RESET: R203, R206, R210 and the reset columns of R28, R39, R62, R89, R105, R127, R152, R175, R176, R192. -/
def execHardwareReset (s : State) : Host.Outcome State Fault Refusal := .next (resetPart s)

/-- RSTN is released: the straps are sampled, and the reference is as STR2 selects (R203, R39). -/
def releasePart (x : Straps) (s : State) : State :=
  if s.phase = .reset then
    { s with
      phase := .starting
      straps := x
      fru := { s.fru with
        requested := if x.external then .external else .internal
        state := if x.external then .qualifying else .internal } }
  else s

/-- RSTN_RELEASE: R203, R39. -/
def execRstnRelease (x : Straps) (s : State) : Host.Outcome State Fault Refusal := .next (releasePart x s)

/-- A lane as the scene gives it (R126). -/
def loadedLane (x : SceneLane) : Lane :=
  { Lane.reset with settings := x.settings, state := if x.off then .off else .arming }

/-- A pin as the scene gives it, before any lane takes it (R175, R204). -/
def loadedPin (s : State) (x : ScenePin) : Pin where
  function := x.function
  level := if x.function = .indicator then (x.source.bind (levelOf s)).getD false else false
  polarity := x.polarity
  source := x.source
  timing := false
  activeUntil := none

/-- A lane loaded as ARMING takes its target (R126). -/
def takeLoaded (l : LaneId) (s : State) : State :=
  if (s.lane l).state = .off then s else takeTarget (s.lane l).settings s

/-- Each block takes its items from the scene, then the lanes take their targets (R204, R207). -/
def loadScene (sc : Scene) (s : State) : State :=
  let s1 : State := { s with
    lanes := mapEach sc.lanes fun _ x => loadedLane x
    pins := mapEach sc.pins fun _ x => loadedPin s x
    inputs := mapEach sc.inputs fun _ x => ⟨x, none, none⟩
    ports := mapEach s.ports fun i p => { p with rate := sc.rates[i] }
    grid := { s.grid with meter := sc.meter }
    lead := { s.lead with code := sc.code } }
  (List.finRange 16).foldl (fun s l => takeLoaded l s) s1

/-- The load outcome set. -/
def withOutcome (o : LoadOutcome) (s : State) : State := { s with store := { s.store with load := o } }

/-- Step 3 of start-up: the scene is loaded if STR3 asks for it and the mark is VALID (R207). -/
def sceneStep (s : State) : State :=
  if !s.straps.load then withOutcome .notRequested s
  else
    match s.store.valid, s.store.stored with
    | true, some sc => withOutcome .loaded (loadScene sc s)
    | _, _ => withOutcome .invalid s

/-- The oscillator has started: the scene load, then the first frame event, which carries count 1 (R203; log entry 25). -/
def startPart (s : State) : State :=
  if s.phase = .starting then
    let s1 := sceneStep s
    { s1 with phase := .running, fru := { s1.fru with count := 1 } }
  else s

/-- OSCILLATOR_STARTED: R203, R207, R126, R160. -/
def execOscillatorStarted (s : State) : Host.Outcome State Fault Refusal := .next (startPart s)

/-! ### SCENE_SAVE (R204, R205) -/

/-- A pin as the scene stores it: a LANE pin as LEVEL with no source (R204). -/
def scenePin (p : Pin) : ScenePin :=
  if p.function = .lane then ⟨.level, p.polarity, none⟩ else ⟨p.function, p.polarity, p.source⟩

/-- The snapshot of R204. -/
def snapshot (s : State) : Scene where
  lanes := mapEach s.lanes fun _ ln => ⟨ln.settings, decide (ln.state = .off)⟩
  pins := mapEach s.pins fun _ p => scenePin p
  inputs := mapEach s.inputs fun _ m => m.setting
  rates := mapEach s.ports fun _ p => p.rate
  meter := s.grid.meter
  code := s.lead.code

/-- The Scene Store's part of a Scene Save: the write begins, its first step making the mark INVALID (R205, R206). -/
def sceneSaveOwner (st : Station) (tag : Byte) (s : State) : State × Reply :=
  if !(s.link st).present then answered .noChange 0 s
  else
    match s.store.saving with
    | some _ => answered .busy 0 s
    | none =>
      ({ s with store := { s.store with
          saving := some (snapshot s), valid := false, answer := some ⟨tag, some st⟩ } }, .deferred)

/-- SCENE_SAVE: R204 to R206. -/
def execSceneSave (st : Station) (tag : Byte) (f : List Byte) (s : State) : Host.Outcome State Fault Refusal :=
  .next (takeRequest st 0x14 tag f [2] (sceneSaveOwner st tag) s)

/-! ### SCENE_SAVE_COMPLETE (R206) -/

/-- The store after the write of a scene ends. -/
def storeWritten (ok : Bool) (sc : Scene) (x : Store) : Store :=
  if ok then { x with saving := none, stored := some sc, valid := true, lastSave := .ok, answer := none }
  else { x with saving := none, stored := none, valid := false, lastSave := .storeFault, answer := none }

/-- The Answer of a write that ended, placed where a link is still kept. -/
def saveAnswer (ok : Bool) (a : Option PendingAnswer) (s : State) : State :=
  match a with
  | some ⟨tag, some st⟩ =>
    let code := if ok then ResultCode.ok else ResultCode.storeFault
    s.setLink st (placeAnswer (.answer 0x14 tag (resultByte code) 0) (s.link st))
  | _ => s

/-- The write ends (R206). -/
def saveEnd (ok : Bool) (s : State) : State :=
  match s.store.saving with
  | none => s
  | some sc => saveAnswer ok s.store.answer { s with store := storeWritten ok sc s.store }

/-- SCENE_SAVE_COMPLETE: R206. -/
def execSceneSaveComplete (ok : Bool) (s : State) : Host.Outcome State Fault Refusal :=
  .next (whenRunning (saveEnd ok) s)

/-! ### GRID_CLEAR (R209) -/

/-- The Grid Engine's part (R27, R28): the meter in force is kept. -/
def clearGrid (g : Grid) : Grid := { Grid.reset with meter := g.meter }

/-- The Lead Arbiter's part (R88): a waiting handover waits for the next grid start. -/
def clearLead (x : Lead) : Lead := { x with handover := x.handover.map fun h => { h with startWait := true } }

/-- A waiting staged part applied to the record at the Clear (R125). -/
def settingsAtClear (ln : Lane) : Settings :=
  match ln.staged with
  | some sp => settledSwing (applyPatch sp.patch ln.settings)
  | none => ln.settings

/-- The lane state after the Clear (R125). -/
def stateAtClear (ln : Lane) : LaneState :=
  match ln.state with
  | .off => .off
  | .arming => .arming
  | .active => if ln.disable.isSome then .off else .arming

/-- The Lane Table's and the Lane Issuer's part (R125, R151). -/
def clearLane (ln : Lane) : Lane :=
  { laneOff ln with settings := settingsAtClear ln, state := stateAtClear ln }

/-- The lane that holds a pin goes OFF at the Clear. -/
def holderGoesOff (s : State) (p : PinId) : Bool :=
  match pinHolder s p with
  | some l => decide (stateAtClear (s.lane l) = .off)
  | none => false

/-- The Pin Driver's part for a pin, given whether its lane goes OFF (R160). -/
def clearPin (goesOff : Bool) (p : Pin) : Pin :=
  if p.function = .lane then
    if goesOff then pinReleased p else { p with level := false, timing := false, activeUntil := none }
  else p

/-- The stop codes a port gets at the Clear: those of the STREAM lanes that target it and whose emitted view was
PLAYING, in order of lane index (R174). -/
def clearCodes (s : State) (p : PortId) : List Byte :=
  s.lanes.toList.filterMap fun ln =>
    if ln.settings.kind = .stream ∧ ln.settings.target = .port p ∧ ln.emittedPlaying then
      some (settingsAtClear ln).codes.stop
    else none

/-- The Stream Port's part for a port (R174). -/
def clearPort (codes : List Byte) (p : Port) : Port :=
  codes.foldl (fun q c => portTransport c q) { p with fifo := [], owedTicks := 0, owedTick := none, held := none }

/-- Every owner's part of a Grid Clear, then its notice (R209; log entry 35). -/
def clearPart (s : State) : State :=
  let s1 : State := { s with
    grid := clearGrid s.grid
    followers := mapEach s.followers fun _ x => { x with phaseError := none }
    lead := clearLead s.lead
    tc := Transport.reset
    lanes := mapEach s.lanes fun _ ln => clearLane ln
    pins := mapEach s.pins fun i p => clearPin (holderGoesOff s i) p
    ports := mapEach s.ports fun i p => clearPort (clearCodes s i) p }
  raiseHouse .cleared (showSource .playing (showSource .holdover s1))

/-- The checks of a Grid Clear, and the Clear (R209). -/
def gridClearOwner (st : Station) (f : List Byte) (s : State) : State × Reply :=
  if !(s.link st).present then answered .noChange 0 s
  else if s.lead.code = 0 then answered .seizeOff 0 s
  else if clearCode f ≠ s.lead.code then answered .badCode 0 (setLatch st 0x15 s)
  else (clearPart s, .answer .ok 0)

/-- GRID_CLEAR: R27, R61, R88, R104, R125, R151, R160, R161, R174, R192, R209. -/
def execGridClear (st : Station) (tag : Byte) (f : List Byte) (s : State) : Host.Outcome State Fault Refusal :=
  .next (takeRequest st 0x15 tag f [4] (gridClearOwner st f) s)

end Sys2Proof.Machine
end

