-- ==== Sys2Proof/Machine/Dispatch.lean ====
section
/-! DEFINITION. Which meaning each command has. -/

namespace Sys2Proof.Machine

def exec (i : Instr) (s : State) : Host.Outcome State Fault Refusal :=
  match i with
  | .presence st tag f => Sys2Proof.Machine.execPresence st tag f s
  | .query st tag f => Sys2Proof.Machine.execQuery st tag f s
  | .takeLead st tag f => Sys2Proof.Machine.execTakeLead st tag f s
  | .yield st tag f => Sys2Proof.Machine.execYield st tag f s
  | .seize st tag f => Sys2Proof.Machine.execSeize st tag f s
  | .seizeCodeSet st tag f => Sys2Proof.Machine.execSeizeCodeSet st tag f s
  | .tempo st tag f => Sys2Proof.Machine.execTempo st tag f s
  | .nudge st tag f => Sys2Proof.Machine.execNudge st tag f s
  | .setMeter st tag f => Sys2Proof.Machine.execSetMeter st tag f s
  | .mark st tag f => Sys2Proof.Machine.execMark st tag f s
  | .inputSet st tag f => Sys2Proof.Machine.execInputSet st tag f s
  | .transport st tag b => Sys2Proof.Machine.execTransport st tag b s
  | .laneSet st tag f => Sys2Proof.Machine.execLaneSet st tag f s
  | .laneEnable st tag f => Sys2Proof.Machine.execLaneEnable st tag f s
  | .laneDisable st tag f => Sys2Proof.Machine.execLaneDisable st tag f s
  | .laneRelease st tag f => Sys2Proof.Machine.execLaneRelease st tag f s
  | .pinSet st tag f => Sys2Proof.Machine.execPinSet st tag f s
  | .portSet st tag f => Sys2Proof.Machine.execPortSet st tag f s
  | .referenceSet st tag f => Sys2Proof.Machine.execReferenceSet st tag f s
  | .sceneSave st tag f => Sys2Proof.Machine.execSceneSave st tag f s
  | .gridClear st tag f => Sys2Proof.Machine.execGridClear st tag f s
  | .unknownKind st kind tag f => Sys2Proof.Machine.execUnknownKind st kind tag f s
  | .sceneSaveComplete stored => Sys2Proof.Machine.execSceneSaveComplete stored s
  | .hardwareReset => Sys2Proof.Machine.execHardwareReset s
  | .rstnRelease straps => Sys2Proof.Machine.execRstnRelease straps s
  | .oscillatorStarted => Sys2Proof.Machine.execOscillatorStarted s
  | .frameEvent o => Sys2Proof.Machine.execFrameEvent o s
  | .handoverEffect => Sys2Proof.Machine.execHandoverEffect s
  | .transportBoundary => Sys2Proof.Machine.execTransportBoundary s
  | .laneActivation lane => Sys2Proof.Machine.execLaneActivation lane s
  | .stagedPartApply lane => Sys2Proof.Machine.execStagedPartApply lane s
  | .pendingDisableEffect lane => Sys2Proof.Machine.execPendingDisableEffect lane s
  | .pinTimerEnd pin => Sys2Proof.Machine.execPinTimerEnd pin s
  | .activeUntilExpiry pin => Sys2Proof.Machine.execActiveUntilExpiry pin s
  | .lastEmissionExpiry lane => Sys2Proof.Machine.execLastEmissionExpiry lane s
  | .lastStampExpiry st => Sys2Proof.Machine.execLastStampExpiry st s
  | .edgeFrameExpiry input => Sys2Proof.Machine.execEdgeFrameExpiry input s
  | .markInputEdge input change => Sys2Proof.Machine.execMarkInputEdge input change s
  | .wckEdge w o => Sys2Proof.Machine.execWckEdge w o s
  | .wckSilence => Sys2Proof.Machine.execWckSilence s
  | .switchToExternal o => Sys2Proof.Machine.execSwitchToExternal o s
  | .switchToInternal o => Sys2Proof.Machine.execSwitchToInternal o s
  | .characterReceived st char => Sys2Proof.Machine.execCharacterReceived st char s
  | .gapDetected st => Sys2Proof.Machine.execGapDetected st s
  | .breakDetected st spaceFrom => Sys2Proof.Machine.execBreakDetected st spaceFrom s
  | .presenceExpiry st => Sys2Proof.Machine.execPresenceExpiry st s
  | .leadLapse st => Sys2Proof.Machine.execLeadLapse st s
  | .followerEmptied st => Sys2Proof.Machine.execFollowerEmptied st s
  | .linkMessageEnd st => Sys2Proof.Machine.execLinkMessageEnd st s
  | .portCharacterEnd port => Sys2Proof.Machine.execPortCharacterEnd port s
  | .lineReturnsToMark st => Sys2Proof.Machine.execLineReturnsToMark st s

end Sys2Proof.Machine
end

