-- ==== Sys2Proof/Safety.lean ====
section
/-! DEFINITION. What counts as a safe state: the ranges and the agreements between items that the manual states for
every block. No run of commands may leave them. -/

namespace Sys2Proof.Machine

/-! ### Takings (R191) -/

/-- The request handler can take this frame from this link now: frames and links have begun, and the frame is the one it
takes next, or no frame waits and this one is handed to it straight (log entry 7). -/
def canTake (st : Station) (kind tag : Byte) (fields : List Byte) (s : State) : Prop :=
  s.phase = .running ∧ (nextFrame s = none ∨ nextFrame s = some (st, kind :: tag :: fields))

/-! ### Frame Reference Unit (R33 to R39) -/

/-- The reference items agree: divisors 1 or 2, one divisor outside EXTERNAL, a run count only while qualifying and
full exactly when the switch to external waits, a pending switch that fits the state, and a requested source that
fits the state. -/
structure FruOk (s : State) : Prop where
  divisor : s.fru.divisor = 1 ∨ s.fru.divisor = 2
  nextDivisor : s.fru.nextDivisor = 1 ∨ s.fru.nextDivisor = 2
  oneDivisor : s.fru.state ≠ .external → s.fru.nextDivisor = s.fru.divisor
  run : s.fru.run ≤ Config.qualifyRun
  runZero : s.fru.state = .internal ∨ s.fru.state = .external ∨ s.fru.switch = .toInternal → s.fru.run = 0
  full : s.fru.switch = .toExternal ↔ s.fru.run = Config.qualifyRun
  idle : s.fru.state = .internal → s.fru.switch = .none
  requestedInternal : s.fru.state = .internal → s.fru.requested = .internal
  requested : isQualifying s.fru.state = true → (s.fru.switch = .toInternal ↔ s.fru.requested = .internal)
  before : s.phase ≠ .running → s.fru.state ≠ .external ∧ s.fru.run = 0 ∧ s.fru.switch = .none ∧ s.fru.count = 0

/-! ### Mark Follower (R43, R45, R47, R49) -/

/-- A tempo in the legal range. -/
def TempoOk (v : Nat) : Prop := Config.tempoMin ≤ v ∧ v ≤ Config.tempoMax

/-- A follower record within R47, its estimate that of its history (R49). -/
structure FollowerOk (x : Follower) : Prop where
  runCount : x.runCount ≤ 65535
  history : x.history.length ≤ Config.historyMax
  intervals : ∀ i ∈ x.history, Config.intervalMin ≤ i ∧ i ≤ Config.intervalMax
  estimate : x.estimate = estimateOf x.history
  noStamp : x.lastStamp = none → x.runCount = 0 ∧ x.history = []
  phaseError : ∀ e, x.phaseError = some e → -2147483648 ≤ e ∧ e ≤ 2147483647

/-- The hold-off of a mark input is in its range (R45). -/
def InputOk (x : InputSetting) : Prop := 480 ≤ x.holdOff ∧ x.holdOff ≤ 12000

/-- Every record in range, and that of an ABSENT station empty once its departure was acted on (R60). -/
structure FollowersOk (s : State) : Prop where
  follower : ∀ i, FollowerOk (s.follower i)
  absent : ∀ i, (s.link i).present = false → (s.link i).emptyReported = false → s.follower i = Follower.empty

/-! ### Grid Engine, Lead Arbiter, Transport Controller -/

/-- Lead terms within their ranges (R63). -/
structure TermsOk (t : Terms) : Prop where
  followGlide : t.followGlide ≤ 32
  deadBand : t.deadBand ≤ 1000
  gain : 1 ≤ t.gain ∧ t.gain ≤ 8
  tempo : ∀ v, t.tempo = some v → TempoOk v

/-- A meter in its range (R12). -/
def MeterOk (m : Nat) : Prop := 1 ≤ m ∧ m ≤ 16

/-- The Grid Engine's items within the ranges of chapter 1, the increments as R4 and R5 give them, and every item at
its initial value while the grid is UNSET (R1). -/
structure GridOk (g : Grid) : Prop where
  meter : MeterOk g.meter
  pendingMeter : ∀ m, g.pendingMeter = some m → MeterOk m
  beatInBar : g.beatInBar < g.meter
  numbering : g.barStart + BitVec.ofNat 32 g.beatInBar = g.pos.beat ∨
    g.barStart = g.pos.beat + 1 ∧ g.beatInBar + 1 = g.meter
  baseInc : g.baseInc = baseIncrement g.base
  appliedInc : g.appliedInc = appliedIncrement g.baseInc g.trim
  unset : g.state = .unset → g = { Grid.reset with meter := g.meter }
  tempo : g.state ≠ .unset → TempoOk g.base
  glide : ∀ x, g.glide = some x → TempoOk x.start ∧ TempoOk x.target ∧ 1 ≤ x.length ∧ x.length ≤ 32 ∧
    x.steps < x.length
  holdover : g.state = .holdover → g.glide = none ∧ g.trim = .none
  before : ∀ p, g.before = some p → p.beat = g.pos.beat

/-- The lead: terms in range, no station in two places, a queue only behind a holder, a handover only to the holder
(R64 to R66, R81). -/
structure LeadOk (x : Lead) : Prop where
  holder : ∀ h, x.holder = some h → TermsOk h.terms
  queue : ∀ e ∈ x.queue, TermsOk e.terms
  empty : x.holder = none → x.queue = []
  stations : ((x.holder.toList ++ x.queue).map LeadEntry.station).Nodup
  handover : ∀ w, x.handover = some w → TermsOk w.terms ∧ w.align = w.terms.align ∧
    x.holder.map LeadEntry.station = some w.station

/-- The transport: a pending record exactly in STARTING and STOPPING, of a kind that fits (R90). -/
structure TransportOk (x : Transport) : Prop where
  pending : x.pending.isSome ↔ x.state = .starting ∨ x.state = .stopping
  starting : ∀ p, x.state = .starting → x.pending = some p → p.kind ≠ .stop
  stopping : ∀ p, x.state = .stopping → x.pending = some p → p.kind = .stop

/-- The house as a whole: the grid state follows the lead (R1, R77), the transport is STOPPED in UNSET (R102), and an
ABSENT station has no standing once its departure was acted on (R84). -/
structure HouseOk (s : State) : Prop where
  grid : GridOk s.grid
  lead : LeadOk s.lead
  transport : TransportOk s.tc
  running : s.grid.state = .running → s.lead.holder.isSome
  holdover : s.grid.state = .holdover → s.lead.holder = none
  unset : s.grid.state = .unset → s.tc.state = .stopped
  before : s.phase ≠ .running → s.grid.state = .unset
  absent : ∀ i, (s.link i).present = false → (s.link i).lapseReported = false →
    ∀ e ∈ s.lead.holder.toList ++ s.lead.queue, e.station ≠ i

/-! ### Lanes (R106, R107, R109, R119, R138, R141) -/

/-- A rate within its limits for a kind (R107, R116). -/
def RateOk (k : LaneKind) (r : Rate) : Prop := limitRate k r = r

/-- A target of the lane's kind, or none (R106). -/
def targetFits : LaneKind → Target → Bool
  | _, .none => true
  | .pin, .pin _ => true
  | .stream, .port _ => true
  | .notice, .station _ => true
  | _, _ => false

/-- The settings of R106 in their ranges, the fields that do not apply at their defaults (R107). -/
structure SettingsOk (x : Settings) : Prop where
  rate : RateOk x.kind x.rate
  swing : 50 ≤ x.swing ∧ x.swing ≤ 75
  noSwing : swingApplies x.rate = false → x.swing = 50
  offset : -4800 ≤ x.offset ∧ x.offset ≤ 4800
  width : 24 ≤ x.width ∧ x.width ≤ 2400
  accent : ∀ a, x.accent = some a → 24 ≤ a ∧ a ≤ 2400
  spacing : 1 ≤ x.spacing ∧ x.spacing ≤ 255
  target : targetFits x.kind x.target = true
  notPin : x.kind ≠ .pin → x.waveform = .pulse ∧ x.width = 480 ∧ x.accent = none ∧ x.polarity = .normal
  notStream : x.kind ≠ .stream → x.codes = ⟨0, 0, 0, 0⟩ ∧ x.barCode = none

/-- A staged part holds stageable settings of the lane's kind, in their ranges (R119). -/
structure PatchOk (k : LaneKind) (p : Patch) : Prop where
  stageable : stageablePart p = p
  fits : fitsKind k p = true
  rate : ∀ r, p.rate = some r → RateOk k r
  swing : ∀ v, p.swing = some v → 50 ≤ v ∧ v ≤ 75
  offset : ∀ v, p.offset = some v → -4800 ≤ v ∧ v ≤ 4800
  width : ∀ v, p.width = some v → 24 ≤ v ∧ v ≤ 2400
  accent : ∀ a, p.accent = some (some a) → 24 ≤ a ∧ a ≤ 2400

/-- What a lane holds in each of its states (R106, R109, R111), its queue in the order of its due frames, no record
earlier than the one before it (R141), and its counts (R142). -/
structure LaneOk (ln : Lane) : Prop where
  settings : SettingsOk ln.settings
  staged : ∀ sp, ln.staged = some sp → PatchOk ln.settings.kind sp.patch
  queue : ln.queue.length ≤ Config.pointQueueMax
  due : ∀ i, (h : i + 1 < ln.queue.length) → earlier ln.queue[i + 1].due ln.queue[i].due = false
  counts : ∀ r ∈ ln.queue, 1 ≤ r.count ∧ r.count ≤ 255
  off : ln.state = .off → ln = laneOff ln
  arming : ln.state = .arming → ln.anchor = none ∧ ln.staged = none ∧ ln.disable = none ∧ ln.nextPoint = none ∧
    ln.queue = [] ∧ ln.playing = false ∧ ln.emittedPlaying = false
  active : ln.state = .active → ln.activation = none ∧ ln.nextPoint.isSome
  anchor : ln.state = .active → (ln.anchor.isSome ↔ ∃ q, ln.settings.rate = .every q)
  target : ln.state ≠ .off → ln.settings.target ≠ .none

structure LanesOk (s : State) : Prop where
  lane : ∀ l, LaneOk (s.lane l)

/-! ### Pins (R153, R155) -/

/-- A lane holds a pin: it is not OFF, and it is a PIN lane that targets it. -/
def holdsPin (s : State) (l : LaneId) (p : PinId) : Prop :=
  (s.lane l).state ≠ .off ∧ (s.lane l).settings.kind = .pin ∧ (s.lane l).settings.target = .pin p

/-- A pin's function is LANE exactly when a lane holds it, no two lanes hold one pin, an indicator has a source and no
other pin has one, and a running timer has its frame. -/
structure PinsOk (s : State) : Prop where
  lane : ∀ p, (s.pin p).function = .lane ↔ ∃ l, holdsPin s l p
  unique : ∀ l m p, holdsPin s l p → holdsPin s m p → l = m
  source : ∀ p, (s.pin p).source.isSome ↔ (s.pin p).function = .indicator
  timer : ∀ p, (s.pin p).timing = true → (s.pin p).activeUntil.isSome

/-! ### Stream ports (R164, R166 to R169) -/

/-- The FIFO's 16 codes, 14 of them tick codes at most, the 255 owed ticks, and how the owed tick code and the held code
agree with them (R164, R166, R167, R169). -/
structure PortOk (p : Port) : Prop where
  fifo : p.fifo.length ≤ Config.fifoMax
  ticks : (p.fifo.filter FifoCode.tick).length ≤ Config.tickMax
  owedTicks : p.owedTicks ≤ 255
  owedTick : p.owedTick.isSome ↔ 0 < p.owedTicks
  held : p.held.isSome → 0 < p.owedTicks
  idle : p.sending = none → p.fifo = [] ∧ p.owedTicks = 0
  pressed : 0 < p.owedTicks → 13 ≤ p.fifo.length

structure PortsOk (s : State) : Prop where
  port : ∀ p, PortOk (s.port p)

/-! ### Station links (R178, R182 to R190) -/

/-- A partial frame within R178. -/
def ReceiverOk : Receiver → Prop
  | .hunt => True
  | .length => True
  | .body len bytes => 2 ≤ len ∧ len ≤ 40 ∧ bytes.length < len
  | .check len bytes _ => 2 ≤ len ∧ len ≤ 40 ∧ bytes.length = len

/-- A link's items within chapter 9: queue sizes, a window in range, a countdown exactly while PRESENT, nothing to send
to an ABSENT station, no departure of a PRESENT one left to act on (R84, R60), at most one unsent House Notice and one
Beat Notice for each lane, saturating counts. -/
structure LinkOk (k : Link) : Prop where
  receiver : ReceiverOk k.receiver
  rxQueue : k.rxQueue.length ≤ Config.rxQueueMax
  bodies : ∀ b ∈ k.rxQueue, 2 ≤ b.length ∧ b.length ≤ 40
  txQueue : k.txQueue.length ≤ Config.txQueueMax
  window : 100 ≤ k.windowMs ∧ k.windowMs ≤ 2000
  countdown : ∀ n, k.countdown = some n → 1 ≤ n ∧ n ≤ 96000
  presence : k.present = k.countdown.isSome
  absent : k.present = false → k.txQueue = [] ∧ k.sending = none ∧ k.answerLost = false
  returned : k.present = true → k.lapseReported = false ∧ k.emptyReported = false
  idle : k.sending = none → k.txQueue = []
  oneHouse : (k.txQueue.filter isHouse).length ≤ 1
  oneBeat : ∀ l, (k.txQueue.filter fun m => (beatOf l m).isSome).length ≤ 1
  counts : k.framing ≤ 255 ∧ k.crc ≤ 255 ∧ k.gap ≤ 255 ∧ k.overrun ≤ 255

structure LinksOk (s : State) : Prop where
  link : ∀ i, LinkOk (s.link i)

/-! ### Scene Store (R204 to R206) -/

/-- A scene that a load can write whole (R126, R204). -/
structure SceneOk (sc : Scene) : Prop where
  meter : MeterOk sc.meter
  settings : ∀ i : Fin 16, SettingsOk sc.lanes[i].settings
  target : ∀ i : Fin 16, sc.lanes[i].off = false → sc.lanes[i].settings.target ≠ .none
  unique : ∀ i j : Fin 16, ∀ p, sc.lanes[i].off = false → sc.lanes[j].off = false →
    sc.lanes[i].settings.kind = .pin → sc.lanes[j].settings.kind = .pin →
    sc.lanes[i].settings.target = .pin p → sc.lanes[j].settings.target = .pin p → i = j
  pins : ∀ i : Fin 8, sc.pins[i].function ≠ .lane
  sources : ∀ i : Fin 8, sc.pins[i].source.isSome ↔ sc.pins[i].function = .indicator
  inputs : ∀ i : Fin 2, InputOk sc.inputs[i]

/-- The store: INVALID while SAVING, a scene behind a VALID mark, an answer pending exactly while SAVING. -/
structure StoreOk (s : State) : Prop where
  saving : s.store.saving.isSome → s.store.valid = false
  valid : s.store.valid = true → s.store.stored.isSome
  answer : s.store.answer.isSome ↔ s.store.saving.isSome
  stored : ∀ sc, s.store.stored = some sc → SceneOk sc
  snapshot : ∀ sc, s.store.saving = some sc → SceneOk sc
  inputs : ∀ i, InputOk (s.input i).setting

/-! ### The whole part -/

/-- A safe state. -/
structure Safe (s : State) : Prop where
  fru : FruOk s
  followers : FollowersOk s
  house : HouseOk s
  lanes : LanesOk s
  pins : PinsOk s
  ports : PortsOk s
  links : LinksOk s
  store : StoreOk s

/-! ### Words of the statements -/

/-- The fields of lead terms as a request carries them (R68, R195). -/
structure Sent where
  mode : LeadMode
  align : Align
  glide : Nat
  dead : Nat
  gain : Nat
  tempo : Nat

/-- Every field fits the bytes it is sent in. -/
def Sent.Fits (x : Sent) : Prop := x.glide < 256 ∧ x.dead < 65536 ∧ x.gain < 256 ∧ x.tempo < 16777216

/-- The bytes of the six fields (section 10.5). -/
def Sent.bytes (x : Sent) : List Byte :=
  modeByte x.mode :: (be1 x.glide ++ (be2 x.dead ++ (be1 x.gain ++ (alignByte x.align :: be3 x.tempo))))

/-- The terms they form, each field clamped (R68). -/
def Sent.terms (x : Sent) : Terms where
  mode := x.mode
  followGlide := min 32 x.glide
  deadBand := min 1000 x.dead
  gain := min 8 (max 1 x.gain)
  align := x.align
  tempo := if x.tempo = 0 then none else some (min 300000 (max 40000 x.tempo))

/-- A field lay outside its range (R68). -/
def Sent.clamped (x : Sent) : Bool :=
  decide (32 < x.glide ∨ 1000 < x.dead ∨ x.gain = 0 ∨ 8 < x.gain ∨
    (x.tempo ≠ 0 ∧ (x.tempo < 40000 ∨ 300000 < x.tempo)))

/-- A grid after a handover of these terms takes effect, `estimate` the estimate of its station (R18, R82, R16). -/
def handedOver (t : Terms) (estimate : Option Nat) (g : Grid) : Grid :=
  match (match t.tempo, t.mode with
    | some v, _ => some v
    | none, .mark => estimate
    | none, .set => none) with
  | none => g
  | some v =>
    if t.followGlide = 0 ∨ v = g.base then
      { g with
        glide := none
        base := v
        baseInc := baseIncrement v
        appliedInc := appliedIncrement (baseIncrement v) g.trim }
    else { g with glide := some ⟨g.base, v, t.followGlide, 0⟩ }

/-- A grid after the change to this holder, or to none, where it does not start: no trim, and without a holder no glide;
from HOLDOVER it runs again, and terms of align NOW reach it at once (R77, R78, R82). -/
def gridAfterChange (new : Option LeadEntry) (estimate : Option Nat) (g : Grid) : Grid :=
  let g1 : Grid := { g with trim := .none, appliedInc := g.baseInc, crossing := .none }
  match g.state, new with
  | .unset, _ => g1
  | _, none => { g1 with state := .holdover, glide := none }
  | _, some e =>
    if e.terms.align = .now then handedOver e.terms estimate { g1 with state := .running } else { g1 with state := .running }

/-- The handover record after that change: it waits for the grid start in UNSET, and for its boundary in a started grid,
unless its align is NOW (R81, R82). -/
def handoverAfterChange (new : Option LeadEntry) (g : Grid) : Option Handover :=
  match new with
  | none => none
  | some e =>
    if g.state = .unset then some ⟨e.station, e.terms.align, e.terms, true⟩
    else if e.terms.align = .now then none
    else some ⟨e.station, e.terms.align, e.terms, false⟩

/-- The tempo at which the change to this holder starts the grid, if it does (R8, R77). -/
def startsAt (new : Option LeadEntry) (g : Grid) : Option Nat :=
  match g.state, new with
  | .unset, some e => e.terms.tempo
  | _, _ => none

/-- A grid that has just started at a set tempo (R8, R10). -/
def startedAt (v : Nat) (g : Grid) : Grid :=
  ⟨.running, ⟨0, 0⟩, v, baseIncrement v, baseIncrement v, none, .none, g.meter, g.pendingMeter, 0, 0, 0, .bar, none⟩

/-- The items a change of holder writes, in the state it is told of, with its notice and indicators (R77). -/
def leadHandedOn (r : Reason) (g : Grid) (x : Lead) (s : State) : State :=
  let s1 : State :=
    match s.lead.holder with
    | some h => s.setFollower h.station { s.follower h.station with phaseError := none }
    | none => s
  raiseHouse r (showSource .holdover (showSource .leadHeld { s1 with grid := g, lead := x }))

/-- The change to this holder, or to none, with this queue, where the grid does not start: what R77 writes and tells. -/
def changedTo (r : Reason) (new : Option LeadEntry) (q : List LeadEntry) (s : State) : State :=
  leadHandedOn r (gridAfterChange new (new.bind fun e => (s.follower e.station).estimate) s.grid)
    { s.lead with holder := new, queue := q, handover := handoverAfterChange new s.grid } s

/-- A pin after the grid start: BEAT and BAR indicators pulse (R10, R161). -/
def pulsedAtStart (count : Frame) (p : Pin) : Pin :=
  if p.function = .indicator ∧ (p.source = some .beat ∨ p.source = some .bar) then
    { p with level := true, timing := true, activeUntil := some (count + 2400) }
  else p

/-- A pin that no lane holds, after its timer end or its expiry on the frame event to this count (R155). -/
def pinTimed (now : Frame) (x : Pin) : Pin :=
  match x.timing, x.activeUntil with
  | true, some a => if (now - a).toNat < 2147483648 then { x with level := false, timing := false } else x
  | false, some a =>
    if 1073741824 ≤ (now - a).toNat ∧ (now - a).toNat < 2147483648 then { x with activeUntil := none } else x
  | _, none => x

/-- A pin after a change to a holder that starts the grid: LEAD_HELD is shown, HOLDOVER is not (R161). -/
def leadShown (p : Pin) : Pin :=
  if p.function = .indicator ∧ p.source = some .leadHeld then { p with level := true }
  else if p.function = .indicator ∧ p.source = some .holdover then { p with level := false }
  else p

/-- What a change of holder takes from the holder that leaves and shows of the one that comes: the last phase error of
the first is removed (R77), and the indicators follow (R161). -/
def passedOn (s : State) : State :=
  { s with
    followers := mapEach s.followers fun i x =>
      if s.lead.holder.map LeadEntry.station = some i then { x with phaseError := none } else x
    pins := mapEach s.pins fun _ p => leadShown p }

/-- What these terms of this holder leave where they start the grid at tempo v (R8, R10, R77, R82). -/
structure StartedTo (new : LeadEntry) (q : List LeadEntry) (v : Nat) (s u : State) : Prop where
  grid : u.grid = startedAt v s.grid
  lead : u.lead = { s.lead with holder := some new, queue := q, handover := none }
  lanes : ∀ l, u.lane l = if (s.lane l).state = .arming then
      { s.lane l with
        state := .active, activation := none, nextPoint := some ⟨0, 0, 0⟩
        anchor := match (s.lane l).settings.rate with
          | .every _ => some 0
          | _ => none }
    else s.lane l
  pins : ∀ p, u.pin p = pulsedAtStart s.fru.count (s.pin p)
  rest : u.fru = s.fru ∧ u.tc = s.tc ∧ u.followers = s.followers ∧ u.inputs = s.inputs ∧ u.ports = s.ports ∧
    u.links = s.links ∧ u.rotation = s.rotation ∧ u.store = s.store ∧ u.straps = s.straps ∧ u.phase = s.phase

/-- The lane items after a disable (R112, R146): settings, owner and last emission frame are kept. -/
def laneAfterDisable (ln : Lane) : Lane :=
  ⟨ln.settings, ln.owner, .off, none, none, none, none, none, [], ln.lastEmission, false, false, none⟩

/-- The bytes of a Lane Set that carries the offset alone (R195, section 10.5). -/
def offsetBytes (l : LaneId) (applyAt flags : Byte) (code : BitVec 16) (v : Int) : List Byte :=
  BitVec.ofNat 8 l.val :: 0x00 :: 0x10 :: applyAt :: flags :: (be2 code.toNat ++ (List.replicate 5 0 ++
    (beSigned2 v ++ List.replicate 15 0)))

/-- A patch of the offset alone. -/
def offsetPatch (v : Int) : Patch :=
  ⟨none, none, none, none, some v, none, none, none, none, none, none, none, none, none⟩

/-- A patch of the rate alone. -/
def ratePatch (r : Rate) : Patch :=
  ⟨none, none, some r, none, none, none, none, none, none, none, none, none, none, none⟩

/-- The bytes of a Lane Set that carries one or two single-byte settings: `mask` names them, and they stand at bytes 7 to
10 of the fields: kind, target, rate form and rate value (R195, section 10.5). -/
def firstBytes (l : LaneId) (mask applyAt flags : Byte) (code : BitVec 16) (kind target form value : Byte) : List Byte :=
  BitVec.ofNat 8 l.val :: 0x00 :: mask :: applyAt :: flags :: (be2 code.toNat ++
    (kind :: target :: form :: value :: List.replicate 18 0))

/-- The fourteen settings of a Lane Set as a request sends them, with its mask, apply-at and KEEP (R116, R195). -/
structure SentSettings where
  mask : BitVec 16
  applyAt : ApplyAt
  keep : Bool
  kind : LaneKind
  target : Target
  rate : Rate
  swing : Nat
  offset : Int
  align : Align
  waveform : Waveform
  width : Nat
  accent : Nat
  polarity : Polarity
  playOnly : Bool
  spacing : Nat
  codes : Codes
  barCode : Option Byte

/-- The mask names this setting (R195). -/
def SentSettings.has (x : SentSettings) (bit : Nat) : Bool := x.mask.getLsbD bit

/-- The kind the lane has after the request. -/
def SentSettings.newKind (x : SentSettings) (old : Settings) : LaneKind := if x.has 0 then x.kind else old.kind

/-- Every field fits the bytes it is sent in, the values are in their lists, and the carried ones apply to the kind the
lane has after the request (R107, R116). -/
def SentSettings.Fits (x : SentSettings) (old : Settings) : Prop :=
  (match x.rate with
    | .perBeat n => 1 ≤ n ∧ n < 256
    | .every n => 1 ≤ n ∧ n < 256
    | .perBar => True) ∧
  x.swing < 256 ∧ -32768 ≤ x.offset ∧ x.offset ≤ 32767 ∧ x.width < 65536 ∧ x.accent < 65536 ∧ x.spacing < 256 ∧
  (x.has 1 → targetFits (x.newKind old) x.target = true) ∧
  (x.newKind old ≠ .pin → ∀ b, 6 ≤ b → b ≤ 9 → x.has b = false) ∧
  (x.newKind old ≠ .stream → x.has 12 = false ∧ x.has 13 = false)

/-- The bytes of the request for lane l, no FORCE (section 10.5). -/
def SentSettings.bytes (x : SentSettings) (l : LaneId) : List Byte :=
  let applyAt : Byte := match x.applyAt with
    | .now => 0
    | .nextBeat => 1
    | .nextBar => 2
  let rate : List Byte := match x.rate with
    | .perBeat n => [0, BitVec.ofNat 8 n]
    | .every n => [1, BitVec.ofNat 8 n]
    | .perBar => [2, 0]
  BitVec.ofNat 8 l.val :: (be2 x.mask.toNat ++ (applyAt :: flagByte x.keep :: 0 :: 0 :: laneKindByte x.kind ::
    targetByte x.target :: (rate ++ (BitVec.ofNat 8 x.swing :: (beSigned2 x.offset ++ (alignByte x.align ::
      waveformByte x.waveform :: (be2 x.width ++ (be2 x.accent ++ (polarityByte x.polarity :: flagByte x.playOnly ::
        BitVec.ofNat 8 x.spacing :: x.codes.tick :: x.codes.start :: x.codes.stop :: x.codes.cont ::
          optional 1 (fun c => [c]) x.barCode)))))))))

/-- The rate the lane has after the request: the carried one or the one held, within the limits of the kind (R107,
R116). -/
def SentSettings.newRate (x : SentSettings) (old : Settings) : Rate :=
  let limit := if x.newKind old = .notice then 4 else 96
  match if x.has 2 then x.rate else old.rate with
  | .perBeat n => .perBeat (min limit (max 1 n))
  | .every n => .every (min 64 (max 1 n))
  | .perBar => .perBar

/-- A carried swing as it is taken: 50 where swing does not apply to the rate (R116). -/
def SentSettings.newSwing (x : SentSettings) (old : Settings) : Nat :=
  if swingApplies (x.newRate old) then min 75 (max 50 x.swing) else 50

/-- A carried accent width as it is taken: 0 is absent (R195). -/
def SentSettings.newAccent (x : SentSettings) : Option Nat :=
  if x.accent = 0 then none else some (min 2400 (max 24 x.accent))

/-- A carried value lies outside its range, or the rate is limited (R116). -/
def SentSettings.Clamped (x : SentSettings) (old : Settings) : Prop :=
  x.newRate old ≠ (if x.has 2 then x.rate else old.rate) ∨
  x.has 3 ∧ x.newSwing old ≠ x.swing ∨
  x.has 4 ∧ (x.offset < -4800 ∨ 4800 < x.offset) ∨
  x.has 7 ∧ (x.width < 24 ∨ 2400 < x.width) ∨
  x.has 8 ∧ x.accent ≠ 0 ∧ (x.accent < 24 ∨ 2400 < x.accent) ∨
  x.has 11 ∧ x.spacing = 0

/-- The record's settings with the carried ones written into it; a new kind leaves no target, and no setting of another
kind (R107, R117). -/
def SentSettings.written (x : SentSettings) (old : Settings) : Settings :=
  let k := x.newKind old
  let same := decide (k = old.kind)
  { kind := k
    target := if x.has 1 then x.target else if same then old.target else .none
    rate := x.newRate old
    swing := if x.has 3 then x.newSwing old else if swingApplies (x.newRate old) then old.swing else 50
    offset := if x.has 4 then min 4800 (max (-4800) x.offset) else old.offset
    align := if x.has 5 then x.align else old.align
    waveform := if x.has 6 then x.waveform else if same ∨ k = .pin then old.waveform else .pulse
    width := if x.has 7 then min 2400 (max 24 x.width) else if same ∨ k = .pin then old.width else 480
    accent := if x.has 8 then x.newAccent else if same ∨ k = .pin then old.accent else none
    polarity := if x.has 9 then x.polarity else if same ∨ k = .pin then old.polarity else .normal
    playOnly := if x.has 10 then x.playOnly else old.playOnly
    spacing := if x.has 11 then max 1 x.spacing else old.spacing
    codes := if x.has 12 then x.codes else if same ∨ k = .stream then old.codes else ⟨0, 0, 0, 0⟩
    barCode := if x.has 13 then x.barCode else if same ∨ k = .stream then old.barCode else none }

/-- The carried stageable settings, as a staged part holds them (R107, R119). -/
def SentSettings.staged (x : SentSettings) (old : Settings) : Patch where
  kind := none
  target := none
  rate := if x.has 2 then some (x.newRate old) else none
  swing := if x.has 3 then some (x.newSwing old) else none
  offset := if x.has 4 then some (min 4800 (max (-4800) x.offset)) else none
  align := none
  waveform := if x.has 6 then some x.waveform else none
  width := if x.has 7 then some (min 2400 (max 24 x.width)) else none
  accent := if x.has 8 then some x.newAccent else none
  polarity := none
  playOnly := if x.has 10 then some x.playOnly else none
  spacing := none
  codes := if x.has 12 then some x.codes else none
  barCode := if x.has 13 then some x.barCode else none

/-- The settings with another rate: swing is 50 where it does not apply to it (R107). -/
def withRate (r : Rate) (x : Settings) : Settings :=
  { x with rate := r, swing := if swingApplies r then x.swing else 50 }

/-- The fraction of point k of a beat of rate PER_BEAT p (R128), moved by the swing where it applies (R129). -/
def fractionOf (x : Settings) (p k : Nat) : BitVec 32 :=
  if p % 2 = 0 ∧ p ≤ 8 ∧ k % 2 = 1 then BitVec.ofNat 32 (4294967296 * (100 * (k - 1) + 2 * x.swing) / (100 * p))
  else BitVec.ofNat 32 (4294967296 * k / p)

/-- n is the lowest point of rate PER_BEAT p at or beyond a position, or, with `strict`, strictly beyond it (R132): the
lowest such point of the position's beat, or point 0 of the next beat where there is none. -/
def PointFrom (strict : Bool) (x : Settings) (p : Nat) (at' : Pos) (n : NextPoint) : Prop :=
  let beyond := fun (k : Nat) => if strict then at'.frac < fractionOf x p k else at'.frac ≤ fractionOf x p k
  n.index < p ∧ n.frac = fractionOf x p n.index ∧
    (n.beat = at'.beat ∧ beyond n.index ∧ (∀ k, k < n.index → ¬ beyond k) ∨
      n.beat = at'.beat + 1 ∧ n.index = 0 ∧ ∀ k, k < p → ¬ beyond k)

/-- n is the lowest point of rate EVERY q and this anchor at or beyond the start of a beat (R130, R132); how far the beat
lies from the anchor is log entry 45. -/
def EveryFrom (q : Nat) (anchor first : Beat) (n : NextPoint) : Prop :=
  ∃ j : Int, (first - anchor).toInt ≤ j * q ∧ j * q < (first - anchor).toInt + q ∧
    n = ⟨anchor + BitVec.ofInt 32 (j * q), 0, 0⟩

/-- n is the first point of the rate strictly beyond a position, or for PER_BAR the first candidate (R132). -/
def FirstBeyond (x : Settings) (anchor : Option Beat) (at' : Pos) (n : NextPoint) : Prop :=
  match x.rate, anchor with
  | .perBeat p, _ => 0 < p → PointFrom true x p at' n
  | .every q, some a => 0 < q → EveryFrom q a (at'.beat + 1) n
  | _, _ => n = ⟨at'.beat + 1, 0, 0⟩

/-- a is the activation point of a lane in ARMING (R110). -/
def ArmedAt (g : Grid) (x : Settings) (a : Option Activation) : Prop :=
  let ref := reference g x.offset
  if g.state = .unset then a = none else match x.align, x.rate with
    | .bar, _ => a = some (.barStart (ref.beat + 1))
    | .beat, _ => a = some (.position (Pos.beatStart (ref.beat + 1)))
    | .now, .every _ => a = some (.position (Pos.beatStart (ref.beat + 1)))
    | .now, .perBar => a = some (.barStart (ref.beat + 1))
    | .now, .perBeat p => 0 < p → ∃ n, PointFrom true x p ref n ∧ a = some (.position (pointPos n))

/-- A boundary of beat d lies beyond the start of beat b (R132). -/
def liesBeyond (d b : Beat) : Prop := (Pos.beatStart d).strictlyBeyond (Pos.beatStart b) = true

/-- The anchor of a rate that takes effect at beat b. -/
def anchorFrom (r : Rate) (b : Beat) : Option Beat :=
  match r with
  | .every _ => some b
  | _ => none

/-- A lane's record at a pin, a port or neither, after a disable took effect, in the state it is told of (R112, R160,
R170). -/
def targetAfterDisable (ln : Lane) (s : State) : State :=
  match ln.settings.kind, ln.settings.target with
  | .pin, .pin p =>
    s.setPin p { s.pin p with function := .level, level := false, timing := false, activeUntil := none }
  | .stream, .port p =>
    if ln.emittedPlaying then s.setPort p (portTransport ln.settings.codes.stop (s.port p)) else s
  | _, _ => s

/-- A lane after its walk on the frame event that led to state t (R136). -/
def walkedOn (t : State) (ln : Lane) : Lane :=
  (walk t.grid t.fru.count Config.walkBound (lastEmissionExpire t.fru.count ln)).lane

/-- The head record of a lane is emitted at this count: it is due, the catch-up spacing has passed since the last emission,
and for a PULSE the catch-up spacing has passed since the end of the pulse that `pins` names (R143). -/
def Emits (count : Frame) (ln : Lane) (r : PointRecord) (pins : PinId → Pin) : Prop :=
  (count - r.due).toNat < 2147483648 ∧
  (∀ e, ln.lastEmission = some e → ln.settings.spacing ≤ (count - e).toNat) ∧
  (∀ p a, ln.settings.kind = .pin → ln.settings.waveform = .pulse → ln.settings.target = .pin p →
    (activeUntilExpire count (pins p)).activeUntil = some a →
    (count - (a + BitVec.ofNat 32 ln.settings.spacing)).toNat < 2147483648)

/-- The view after a point with this mark (R95, R146). -/
def viewOf (old : Bool) (mark : Option TransportKind) : Bool :=
  match mark with
  | none => old
  | some k => decide (k ≠ .stop)

/-- The nominal spacing of a lane's points, in frames (R157). -/
def spacingOf (g : Grid) (r : Rate) : Nat :=
  (match r with
    | .perBeat p => 4294967296 / p
    | .every q => q * 4294967296
    | .perBar => g.meter * 4294967296) / g.appliedInc

/-- The link, kind, TAG and fields of the frame a request command takes (R191, R193). -/
def frameOf : Instr → Option (Station × Byte × Byte × List Byte)
  | .presence st tag f => some (st, 0x01, tag, f)
  | .query st tag f => some (st, 0x02, tag, f)
  | .takeLead st tag f => some (st, 0x03, tag, f)
  | .yield st tag f => some (st, 0x04, tag, f)
  | .seize st tag f => some (st, 0x05, tag, f)
  | .seizeCodeSet st tag f => some (st, 0x06, tag, f)
  | .tempo st tag f => some (st, 0x07, tag, f)
  | .nudge st tag f => some (st, 0x08, tag, f)
  | .setMeter st tag f => some (st, 0x09, tag, f)
  | .mark st tag f => some (st, 0x0A, tag, f)
  | .inputSet st tag f => some (st, 0x0B, tag, f)
  | .transport st tag b => some (st, 0x0C, tag, b.fields)
  | .laneSet st tag f => some (st, 0x0D, tag, f)
  | .laneEnable st tag f => some (st, 0x0E, tag, f)
  | .laneDisable st tag f => some (st, 0x0F, tag, f)
  | .laneRelease st tag f => some (st, 0x10, tag, f)
  | .pinSet st tag f => some (st, 0x11, tag, f)
  | .portSet st tag f => some (st, 0x12, tag, f)
  | .referenceSet st tag f => some (st, 0x13, tag, f)
  | .sceneSave st tag f => some (st, 0x14, tag, f)
  | .gridClear st tag f => some (st, 0x15, tag, f)
  | .unknownKind st kind tag f => some (st, kind, tag, f)
  | _ => none

/-- The body lengths of the station-to-part kinds, the first first (R193). -/
def bodyLengths (kind : Byte) : List Nat :=
  match kind.toNat with
  | 0x01 => [4] | 0x02 => [5] | 0x03 => [11] | 0x04 => [2] | 0x05 => [4, 13] | 0x06 => [6] | 0x07 => [6]
  | 0x08 => [3] | 0x09 => [3] | 0x0A => [5] | 0x0B => [8] | 0x0C => [4] | 0x0D => [31] | 0x0E => [6]
  | 0x0F => [7] | 0x10 => [3] | 0x11 => [8] | 0x12 => [4] | 0x13 => [4] | 0x14 => [2] | 0x15 => [4]
  | _ => []

/-- A lane's next point does not lie before a beat start. -/
def nextPointFrom (ln : Lane) (b : Beat) : Prop :=
  ∀ n, ln.nextPoint = some n → (pointPos n).atOrBeyond (Pos.beatStart b) = true

end Sys2Proof.Machine
end

