-- ==== Sys2Proof/Certificates/Slice0/Obligations.lean ====
section
/-! DEFINITION. The statements for the provers. In each, `afterTaking st s` is the state once the request handler has
taken the frame from link `st`, and `placeReply` puts the Answer or Report that ends the taking into that link's transmit
queue; what an equation does not name is as it was. -/

open Sys2Proof Sys2Proof.Machine

/-! ### The machine -/

/-- The model's choice (log entries 1 and 2): a step carries out the command at the front of the queue and leaves the
commands behind it as they are; an empty queue idles; and no command stops the part, since the manual names no fault that
does. -/
def Obligations.StepRunsTheFrontCommand : Prop :=
  (∀ (c : Instr) (rest : List Instr) (s : State),
    step { s with pending := c :: rest } = exec c { s with pending := rest }) ∧
  (∀ s : State, s.pending = [] → step s = .next s) ∧
  (∀ (c : Instr) (s t : State), exec c s = .next t → t.pending = s.pending) ∧
  (∀ s : State, ∃ t, step s = .next t)

/-- Every item within its range and in agreement with the others at reset. -/
def Obligations.ResetIsSafe : Prop := Safe State.reset

/-- The ranges and agreements of every block are kept by every step. -/
def Obligations.SafeKept : Prop := ∀ s t : State, Safe s → step s = .next t → Safe t

/-- Each block keeps its own ranges and agreements, whatever the others hold: the links as chapter 9 bounds them; R166's
16 codes, 14 tick codes and 255 owed ticks, with what R167 and R169 say of the debt; the follower records within R47, each
estimate that of its history (R49), and that of a departed station empty (R60); the reference items (R33 to R38). That the
codes in a FIFO are told apart as ticks is the model's own mark (log entry 44), and that a departure waits to be acted on
is log entry 16. -/
def Obligations.BlocksKept : Prop :=
  ∀ s t : State, step s = .next t →
    (LinksOk s → LinksOk t) ∧ (PortsOk s → PortsOk t) ∧ (FollowersOk s → FollowersOk t) ∧ (FruOk s → FruOk t)

/-- R29, R3, R1: the frame count moves by one frame event at a time, and by nothing else but a reset and the start of
frames; the position of a started grid moves only by the applied increment, once a frame event; Grid Clear and hardware
reset alone take a started grid to UNSET, and set its position to 0. -/
def Obligations.CountAndPositionMoveByFrameEvents : Prop :=
  ∀ (c : Instr) (s t : State), exec c s = .next t →
    (match c with
    | .frameEvent _ | .wckEdge _ _ | .switchToExternal _ | .switchToInternal _ =>
      t.fru.count = s.fru.count ∨ t.fru.count = s.fru.count + 1
    | .hardwareReset => t.fru.count = 0
    | .oscillatorStarted => t.fru.count = s.fru.count ∨ t.fru.count = 1
    | _ => t.fru.count = s.fru.count) ∧
    (s.grid.state ≠ .unset → s.phase = .running →
      (match c with
      | .frameEvent _ | .wckEdge _ _ | .switchToExternal _ | .switchToInternal _ =>
        t.grid.pos = s.grid.pos ∧ t.fru.count = s.fru.count ∨
          t.grid.pos = s.grid.pos.add s.grid.appliedInc ∧ t.fru.count = s.fru.count + 1
      | .gridClear _ _ _ => t.grid.pos = s.grid.pos ∨ t.grid.state = .unset ∧ t.grid.pos = ⟨0, 0⟩
      | .hardwareReset => t.grid.state = .unset ∧ t.grid.pos = ⟨0, 0⟩
      | _ => t.grid.pos = s.grid.pos) ∧
      (t.grid.state = .unset → c = .hardwareReset ∨ ∃ st tag f, c = .gridClear st tag f))

/-- R102: the lead commands leave the transport and every owed mark as they are. -/
def Obligations.TransportIgnoresTheLead : Prop :=
  ∀ (s t : State), Safe s → ∀ st tag f,
    (exec (.takeLead st tag f) s = .next t ∨ exec (.yield st tag f) s = .next t ∨
      exec (.seize st tag f) s = .next t ∨ exec (.leadLapse st) s = .next t) →
    t.tc = s.tc ∧ ∀ l, (t.lane l).owed = (s.lane l).owed

/-! ### Start-up and the scene (chapter 11) -/

/-- R203 and R210: RSTN low holds every block at its reset values; the stored scene and its mark survive unless a write
was stopped. The reset values the manual does not give are the model's (log entries 3 to 6, 14, 16, 34). -/
def Obligations.HardwareResetHoldsResetValues : Prop :=
  ∀ s : State, ∃ t, exec .hardwareReset s = .next t ∧
    t.phase = .reset ∧ t.fru = Fru.reset ∧ t.grid = Grid.reset ∧ t.lead = Lead.reset ∧ t.tc = Transport.reset ∧
    (∀ i, t.follower i = Follower.empty) ∧ (∀ i, t.input i = MarkInput.reset) ∧ (∀ l, t.lane l = Lane.reset) ∧
    (∀ p, t.pin p = Pin.reset) ∧ (∀ p, t.port p = Port.reset) ∧ (∀ i, t.link i = Link.reset) ∧ t.rotation = 0 ∧
    (s.store.saving = none →
      t.store = { Store.reset with stored := s.store.stored, valid := s.store.valid }) ∧
    (s.store.saving.isSome → t.store.valid = false ∧ t.store.saving = none ∧ t.store.answer = none) ∧
    t.pending = s.pending

/-- R203, R39, R207: the release of RSTN samples the straps, and STR2 sets the reference; then frames begin at count 1.
Without a load every block keeps its values, and with one each lane, input, port, the meter and the seize code come from
the scene, lanes stored as not OFF in ARMING on their pins; any other pin is INACTIVE, but an indicator of a level source
shows that source's state (R161, R175). -/
def Obligations.StartUpBeginsFrames : Prop :=
  (∀ (s : State) (x : Straps), s.phase = .reset →
    exec (.rstnRelease x) s = .next { s with
      phase := .starting
      straps := x
      fru := { s.fru with
        requested := if x.external then .external else .internal
        state := if x.external then .qualifying else .internal } }) ∧
  (∀ s : State, s.phase = .starting →
    (s.straps.load = false →
      exec .oscillatorStarted s = .next { s with
        phase := .running, fru := { s.fru with count := 1 }, store := { s.store with load := .notRequested } }) ∧
    (s.straps.load = true → s.store.valid = false →
      exec .oscillatorStarted s = .next { s with
        phase := .running, fru := { s.fru with count := 1 }, store := { s.store with load := .invalid } }) ∧
    (∀ sc, s.straps.load = true → s.store.valid = true → s.store.stored = some sc → SceneOk sc →
      ∃ t, exec .oscillatorStarted s = .next t ∧
        t.phase = .running ∧ t.fru = { s.fru with count := 1 } ∧ t.store = { s.store with load := .loaded } ∧
        t.grid = { s.grid with meter := sc.meter } ∧ t.lead = { s.lead with code := sc.code } ∧ t.tc = s.tc ∧
        (∀ l : LaneId, t.lane l = { Lane.reset with
          settings := sc.lanes[l].settings, state := if sc.lanes[l].off then .off else .arming }) ∧
        (∀ i : InputId, t.input i = ⟨sc.inputs[i], none, none⟩) ∧
        (∀ p : PortId, t.port p = { s.port p with rate := sc.rates[p] }) ∧
        (∀ p : PinId, (t.pin p).polarity = sc.pins[p].polarity ∧ (t.pin p).timing = false ∧
          (t.pin p).activeUntil = none ∧
          if ∃ l : LaneId, sc.lanes[l].off = false ∧ sc.lanes[l].settings.kind = .pin ∧
              sc.lanes[l].settings.target = .pin p then
            (t.pin p).function = .lane ∧ (t.pin p).level = false ∧ (t.pin p).source = none
          else (t.pin p).function = sc.pins[p].function ∧ (t.pin p).source = sc.pins[p].source ∧
            ((t.pin p).level = true ↔ sc.pins[p].function = .indicator ∧ match sc.pins[p].source with
              | some .leadHeld => s.lead.holder.isSome
              | some .holdover => s.grid.state = .holdover
              | some .externalRef => s.fru.state = .external
              | some .seizeFailed => s.lead.latch.isSome
              | some .playing => s.tc.state = .playing ∨ s.tc.state = .stopping
              | _ => False)) ∧
        (∀ i, t.follower i = s.follower i ∧ t.link i = s.link i) ∧ t.rotation = s.rotation ∧ t.pending = s.pending))

/-- R204, R205: a Scene Save takes its snapshot at the taking and answers nothing yet; it is BUSY while SAVING. R206: the
end of a write, good or failed, with its deferred Answer on the link where that is still kept. -/
def Obligations.SceneSaveTakesAndEnds : Prop :=
  (∀ (s : State) (st : Station) (tag : Byte), canTake st 0x14 tag [] s →
    ((s.link st).present = false →
      exec (.sceneSave st tag []) s = .next (placeReply st 0x14 tag (.answer .noChange 0) (afterTaking st s))) ∧
    ((s.link st).present = true → s.store.saving.isSome →
      exec (.sceneSave st tag []) s = .next (placeReply st 0x14 tag (.answer .busy 0) (afterTaking st s))) ∧
    ((s.link st).present = true → s.store.saving = none →
      ∃ sc, exec (.sceneSave st tag []) s = .next { afterTaking st s with
          store := { s.store with saving := some sc, valid := false, answer := some ⟨tag, some st⟩ } } ∧
        (∀ l : LaneId, sc.lanes[l] = ⟨(s.lane l).settings, decide ((s.lane l).state = .off)⟩) ∧
        (∀ p : PinId, sc.pins[p] = if (s.pin p).function = .lane then ⟨.level, (s.pin p).polarity, none⟩
          else ⟨(s.pin p).function, (s.pin p).polarity, (s.pin p).source⟩) ∧
        (∀ i : InputId, sc.inputs[i] = (s.input i).setting) ∧ (∀ p : PortId, sc.rates[p] = (s.port p).rate) ∧
        sc.meter = s.grid.meter ∧ sc.code = s.lead.code)) ∧
  (∀ (s : State) (sc : Scene) (tag : Byte), s.phase = .running → s.store.saving = some sc →
    (∀ st, s.store.answer = some ⟨tag, some st⟩ →
      exec (.sceneSaveComplete true) s = .next (placeReply st 0x14 tag (.answer .ok 0) { s with
        store := { s.store with saving := none, stored := some sc, valid := true, lastSave := .ok, answer := none } }) ∧
      ∃ lost, exec (.sceneSaveComplete false) s = .next (placeReply st 0x14 tag (.answer .storeFault 0) { s with
        store := { s.store with
          saving := none, stored := lost, valid := false, lastSave := .storeFault, answer := none } })) ∧
    (s.store.answer = some ⟨tag, none⟩ →
      exec (.sceneSaveComplete true) s = .next { s with
        store := { s.store with saving := none, stored := some sc, valid := true, lastSave := .ok, answer := none } } ∧
      ∃ lost, exec (.sceneSaveComplete false) s = .next { s with
        store := { s.store with
          saving := none, stored := lost, valid := false, lastSave := .storeFault, answer := none } }))

/-- A headline: what is saved comes back. A Scene Save, its successful end, a hardware reset and a start with a load give
every lane its settings, the lanes that were not OFF in ARMING, the pins their functions, polarities and
indicator sources, and the inputs, port rates, meter and seize code. -/
def Obligations.SavedSceneComesBack : Prop :=
  ∀ (s : State) (st : Station) (tag : Byte) (x : Straps), Safe s → canTake st 0x14 tag [] s →
    (s.link st).present = true → s.store.saving = none → x.load = true →
    ∃ a b c d e, exec (.sceneSave st tag []) s = .next a ∧ exec (.sceneSaveComplete true) a = .next b ∧
      exec .hardwareReset b = .next c ∧ exec (.rstnRelease x) c = .next d ∧ exec .oscillatorStarted d = .next e ∧
      (∀ l, (e.lane l).settings = (s.lane l).settings ∧
        (e.lane l).state = if (s.lane l).state = .off then .off else .arming) ∧
      (∀ p, (e.pin p).polarity = (s.pin p).polarity ∧ ((e.pin p).function = .lane ↔ (s.pin p).function = .lane) ∧
        ((s.pin p).function ≠ .lane → (e.pin p).function = (s.pin p).function ∧ (e.pin p).source = (s.pin p).source)) ∧
      (∀ i, (e.input i).setting = (s.input i).setting) ∧ (∀ p, (e.port p).rate = (s.port p).rate) ∧
      e.grid.meter = s.grid.meter ∧ e.lead.code = s.lead.code ∧ e.store.load = .loaded ∧ e.store.valid = true

/-- R209 and every owner's part of a Grid Clear: the grid (R27), the follower records (R61), the lead (R88), the transport
(R104), the lanes (R125, R151), the pins and indicators (R160, R161) and the ports with their stop codes (R174), then its
one notice and its Answer; and what refuses it. A stop code read after the staged part is log entry 35. -/
def Obligations.GridClearReturnsToUnset : Prop :=
  ∀ (s : State) (st : Station) (tag : Byte) (code : BitVec 16), Safe s → canTake st 0x15 tag (be2 code.toNat) s →
    let s1 := afterTaking st s
    let ends := fun (u : State) (r : ResultCode) =>
      exec (.gridClear st tag (be2 code.toNat)) s = .next (placeReply st 0x15 tag (.answer r 0) u)
    ((s.link st).present = false → ends s1 .noChange) ∧
    ((s.link st).present = true → s.lead.code = 0 → ends s1 .seizeOff) ∧
    ((s.link st).present = true → s.lead.code ≠ 0 → code ≠ s.lead.code →
      ends (showSource .seizeFailed { s1 with lead := { s.lead with latch := some ⟨st, 0x15, match s.lead.latch with
        | none => 1
        | some l => min 255 (l.count + 1)⟩ } }) .badCode) ∧
    ((s.link st).present = true → s.lead.code ≠ 0 → code = s.lead.code →
      ∃ v, ends (raiseHouse .cleared v) .ok ∧ v.links = s1.links ∧ v.rotation = s1.rotation ∧
      v.grid = { Grid.reset with meter := s.grid.meter } ∧ v.tc = ⟨.stopped, none, 0⟩ ∧
      v.lead = { s.lead with handover := s.lead.handover.map fun h => { h with startWait := true } } ∧
      (∀ i, v.follower i = { s.follower i with phaseError := none }) ∧
      (let goesOff := fun (ln : Lane) => ln.state = .off ∨ ln.state = .active ∧ ln.disable.isSome
      let kept := fun (ln : Lane) => match ln.staged with
        | some sp => settledSwing (applyPatch sp.patch ln.settings)
        | none => ln.settings
      (∀ l, v.lane l = { laneAfterDisable (s.lane l) with
        settings := kept (s.lane l), state := if goesOff (s.lane l) then .off else .arming }) ∧
      (∀ l p, holdsPin s l p → v.pin p = { s.pin p with
        function := if goesOff (s.lane l) then .level else .lane, level := false, timing := false, activeUntil := none }) ∧
      (∀ p, (s.pin p).function = .level → v.pin p = s.pin p) ∧
      (∀ p, (s.pin p).function = .indicator → v.pin p = { s.pin p with
        level := if (s.pin p).source = some .holdover ∨ (s.pin p).source = some .playing then false
          else (s.pin p).level }) ∧
      (∀ p : PortId,
        let x := s.port p
        let stops : List FifoCode := (List.finRange 16).filterMap fun l =>
          if (s.lane l).settings.kind = .stream ∧ (s.lane l).settings.target = .port p ∧ (s.lane l).emittedPlaying then
            some ⟨(kept (s.lane l)).codes.stop, false⟩ else none
        v.port p = (match x.sending, stops with
          | none, c :: rest => ⟨x.rate, some ⟨c.code, x.rate⟩, rest, 0, none, none, x.lost⟩
          | _, _ => ⟨x.rate, x.sending, stops, 0, none, none, x.lost⟩))) ∧
      v.phase = s.phase ∧ v.fru = s.fru ∧ v.inputs = s.inputs ∧ v.store = s.store ∧ v.straps = s.straps)

/-! ### Frames and the reference (chapters 1 and 2) -/

/-- R6: a frame event that crosses no beat adds the applied increment to the fraction, and leaves the rest of the grid,
the lead, the transport, the mark input settings and the scene alone; in UNSET the grid stays as it is. R43, R50: last
stamps and edge frames 2^30 frames back go. R155: where every lane's items agree, the timers of the pins that no lane
holds run out. R180, R183: each link tests its gap, counts down, and at countdown 1 departs (log entry 16). The order of
handling is the model's operand (log entry 9), the half range log entry 24, and in EXTERNAL the command is a good WCK frame
edge (log entry 11). What the grid remembers of its frame event is the model's own (log entries 17 and 41). -/
def Obligations.FrameEventAdvancesTheGrid : Prop :=
  ∀ (s : State) (o : FrameOrder), s.phase = .running → s.fru.switch = .none →
    (s.grid.state = .unset ∨ s.grid.pos.frac.toNat + s.grid.appliedInc < 4294967296) →
    let now := s.fru.count + 1
    let past := fun (a : Frame) => 1073741824 ≤ (now - a).toNat ∧ (now - a).toNat < 2147483648
    ∃ t, exec (.frameEvent o) s = .next t ∧
      t.fru = (if s.fru.state = .external then
          { s.fru with
            count := s.fru.count + 1, periodOpen := true
            place := if s.fru.divisor = 2 then .skipNext else .frameNext }
        else { s.fru with count := s.fru.count + 1 }) ∧
      (s.grid.state = .unset → t.grid = s.grid) ∧
      (s.grid.state ≠ .unset → t.grid = { s.grid with
        pos := ⟨s.grid.pos.beat, s.grid.pos.frac + BitVec.ofNat 32 s.grid.appliedInc⟩
        crossing := .none, before := some s.grid.pos }) ∧
      t.lead = s.lead ∧ t.tc = s.tc ∧ t.straps = s.straps ∧ t.rotation = s.rotation ∧ t.phase = s.phase ∧
      (∀ i, let f := s.follower i
        t.follower i = match f.lastStamp with
          | some a => if past a then ⟨0, none, [], none, none⟩ else f
          | none => f) ∧
      (∀ i, let m := s.input i
        t.input i = match m.lastEdge with
          | some a => if past a then { m with lastEdge := none } else m
          | none => m) ∧
      ((∀ l, LaneOk (s.lane l)) → ∀ p, (∀ l, ¬ holdsPin s l p) → t.pin p = pinTimed now (s.pin p)) ∧
      (∀ i, let k := s.link i
        let u := t.link i
        let late := k.receiver ≠ .hunt ∧ 96 ≤ (now - k.lastByte).toNat
        u.receiver = (if late then .hunt else k.receiver) ∧
        u.gap = (if late then if k.gap < 255 then k.gap + 1 else 255 else k.gap) ∧
        u.lastByte = k.lastByte ∧ u.heldAtSpace = k.heldAtSpace ∧ u.rxQueue = k.rxQueue ∧ u.framing = k.framing ∧
        u.crc = k.crc ∧ u.overrun = k.overrun ∧
        (if k.present = true ∧ k.countdown = some 1 then
          u.present = false ∧ u.countdown = none ∧ u.windowMs = 500 ∧ u.txQueue = [] ∧ u.sending = none ∧
            u.answerLost = false ∧ u.lapseReported = true ∧ u.emptyReported = true ∧
            (∀ a, s.store.answer = some a → a.link = some i → t.store.answer = some { a with link := none })
        else u.present = k.present ∧ u.windowMs = k.windowMs ∧ u.answerLost = k.answerLost ∧
          u.lapseReported = k.lapseReported ∧ u.emptyReported = k.emptyReported ∧
          u.countdown = match k.countdown with
            | some n => if k.present = true ∧ 1 < n then some (n - 1) else some n
            | none => none)) ∧
      t.store.saving = s.store.saving ∧ t.store.stored = s.store.stored ∧ t.store.valid = s.store.valid

/-- R4, R5, R11, R12, R15, R20: the crossing of a frame event with no handover and no transport waiting. -/
def Obligations.BeatCrossingInStages : Prop :=
  ∀ (s : State) (o : FrameOrder), s.phase = .running → s.fru.switch = .none →
    s.grid.state ≠ .unset → s.lead.handover = none → s.tc.pending = none → s.grid.appliedInc < 4294967296 →
    4294967296 ≤ s.grid.pos.frac.toNat + s.grid.appliedInc →
    ∃ t, exec (.frameEvent o) s = .next t ∧
      t.grid.pos = ⟨s.grid.pos.beat + 1, s.grid.pos.frac + BitVec.ofNat 32 s.grid.appliedInc⟩ ∧
      (if s.grid.beatInBar + 1 = s.grid.meter then
        t.grid.crossing = .bar ∧ t.grid.meter = s.grid.pendingMeter.getD s.grid.meter ∧ t.grid.pendingMeter = none ∧
          t.grid.barStart = s.grid.pos.beat + 1 ∧ t.grid.beatInBar = 0 ∧ t.grid.barCount = s.grid.barCount + 1
      else
        t.grid.crossing = .beat ∧ t.grid.meter = s.grid.meter ∧ t.grid.pendingMeter = s.grid.pendingMeter ∧
          t.grid.barStart = s.grid.barStart ∧ t.grid.beatInBar = s.grid.beatInBar + 1 ∧
          t.grid.barCount = s.grid.barCount) ∧
      (match s.grid.glide with
        | none => t.grid.glide = none ∧ t.grid.base = s.grid.base
        | some g =>
          if g.length ≤ g.steps + 1 then t.grid.glide = none ∧ t.grid.base = g.target
          else t.grid.glide = some { g with steps := g.steps + 1 } ∧
            t.grid.base = ((g.start : Int) +
              roundInt (((g.target : Int) - g.start) * ((g.steps + 1 : Nat) : Int)) g.length).toNat) ∧
      t.grid.trim = (match s.grid.trim with
        | .none => .none
        | .armed a => .applied a
        | .applied _ => .none
        | .appliedArmed _ a => .applied a) ∧
      t.grid.baseInc = (if s.grid.glide = none then s.grid.baseInc else baseIncrement t.grid.base) ∧
      t.grid.appliedInc = appliedIncrement t.grid.baseInc t.grid.trim ∧
      t.tc.songBar = (if s.grid.beatInBar + 1 = s.grid.meter ∧ (s.tc.state = .playing ∨ s.tc.state = .stopping)
        then s.tc.songBar + 1 else s.tc.songBar) ∧
      t.lead = s.lead

/-- R11, R12, R13, R15, R18, R20, R82, R97, R100, R201: the crossing of a frame event, whatever waits for it. The beat is
numbered, with a pending meter in force from a bar crossing on; the glide steps; a handover takes effect where the crossing
is its align boundary; the trim advances; the transport changes at its boundary beat; and a new meter and a transport
change each raise their notice, the later of two taking the place of the other. R155, R161: where every lane's items agree,
BEAT pins pulse, BAR pins at a bar crossing, PLAYING pins show a changed transport, and any other pin that no lane holds
keeps its timer. Which of the two notices comes first is the operand of log entry 10, and an estimate that expires on the
frame event is not read (log entry 9). The meter that R13 says Beat Notices show is log entry 48. -/
def Obligations.CrossingServesHandoverAndTransport : Prop :=
  ∀ (s : State) (o : FrameOrder), s.phase = .running → s.fru.switch = .none →
    s.grid.state ≠ .unset → s.grid.appliedInc < 4294967296 →
    4294967296 ≤ s.grid.pos.frac.toNat + s.grid.appliedInc →
    let bar := decide (s.grid.beatInBar + 1 = s.grid.meter)
    let estimate := fun (i : Station) => (followerExpire (s.fru.count + 1) (s.follower i)).estimate
    let song := if bar ∧ (s.tc.state = .playing ∨ s.tc.state = .stopping) then s.tc.songBar + 1 else s.tc.songBar
    ∃ t stepped, exec (.frameEvent o) s = .next t ∧
      t.grid.pos = ⟨s.grid.pos.beat + 1, s.grid.pos.frac + BitVec.ofNat 32 s.grid.appliedInc⟩ ∧
      t.grid.state = s.grid.state ∧
      (if bar then
        t.grid.crossing = .bar ∧ t.grid.meter = s.grid.pendingMeter.getD s.grid.meter ∧ t.grid.pendingMeter = none ∧
          t.grid.barStart = s.grid.pos.beat + 1 ∧ t.grid.beatInBar = 0 ∧ t.grid.barCount = s.grid.barCount + 1
      else
        t.grid.crossing = .beat ∧ t.grid.meter = s.grid.meter ∧ t.grid.pendingMeter = s.grid.pendingMeter ∧
          t.grid.barStart = s.grid.barStart ∧ t.grid.beatInBar = s.grid.beatInBar + 1 ∧
          t.grid.barCount = s.grid.barCount) ∧
      t.grid.trim = (match s.grid.trim with
        | .none => .none
        | .armed a => .applied a
        | .applied _ => .none
        | .appliedArmed _ a => .applied a) ∧
      (match s.grid.glide with
        | none => stepped.glide = none ∧ stepped.base = s.grid.base
        | some g =>
          if g.length ≤ g.steps + 1 then stepped.glide = none ∧ stepped.base = g.target
          else stepped.glide = some { g with steps := g.steps + 1 } ∧
            stepped.base = ((g.start : Int) +
              roundInt (((g.target : Int) - g.start) * ((g.steps + 1 : Nat) : Int)) g.length).toNat) ∧
      (s.lead.handover = none → t.lead = s.lead ∧ t.grid.glide = stepped.glide ∧ t.grid.base = stepped.base) ∧
      (∀ w, s.lead.handover = some w →
        if bar ∨ w.align ≠ .bar then
          t.lead = { s.lead with handover := none } ∧
          t.grid.glide = (handedOver w.terms (estimate w.station) stepped).glide ∧
          t.grid.base = (handedOver w.terms (estimate w.station) stepped).base
        else t.lead = s.lead ∧ t.grid.glide = stepped.glide ∧ t.grid.base = stepped.base) ∧
      (s.grid.baseInc = baseIncrement s.grid.base → t.grid.baseInc = baseIncrement t.grid.base) ∧
      t.grid.appliedInc = appliedIncrement t.grid.baseInc t.grid.trim ∧
      (s.tc.pending = none → t.tc = { s.tc with songBar := song }) ∧
      (∀ p, s.tc.pending = some p → t.tc = if p.boundary = s.grid.pos.beat + 1 then
          (match p.kind with
            | .start => ⟨.playing, none, 0⟩
            | .cont => ⟨.playing, none, song⟩
            | .stop => ⟨.stopped, none, song⟩)
        else { s.tc with songBar := song }) ∧
      ((∀ l, LaneOk (s.lane l)) → ∀ p, (∀ l, ¬ holdsPin s l p) →
        let now := s.fru.count + 1
        let x := s.pin p
        let pulses := x.source = some .beat ∨ x.source = some .bar ∧ bar = true
        let shows := x.source = some .playing ∧ ∃ w, s.tc.pending = some w ∧ w.boundary = s.grid.pos.beat + 1
        (x.function = .indicator → pulses → t.pin p = { x with
          level := true, timing := true, activeUntil := some (now + 2400) }) ∧
        let on := decide (t.tc.state = .playing ∨ t.tc.state = .stopping)
        (x.function = .indicator → shows → t.pin p =
          if p ∈ o.latePins then pinTimed now { x with level := on } else { pinTimed now x with level := on }) ∧
        (¬ (x.function = .indicator ∧ (pulses ∨ shows)) → t.pin p = pinTimed now x)) ∧
      (∀ i, let k := s.link i
        let told := fun (r : Reason) (songBar : BitVec 32) => ∃ n, Message.house n ∈ (t.link i).txQueue ∧ n.reason = r ∧
          n.grid = s.grid.state ∧ n.meter = t.grid.meter ∧ n.transport = t.tc.state ∧ n.songBar = songBar
        let newMeter := bar = true ∧ ∃ m, s.grid.pendingMeter = some m ∧ m ≠ s.grid.meter
        let changes := ∃ p, s.tc.pending = some p ∧ p.boundary = s.grid.pos.beat + 1
        k.present = true → k.countdown ≠ some 1 → k.sending.isSome → k.txQueue.length < 8 →
          (changes → ¬ newMeter → told .transport t.tc.songBar) ∧
          (changes → newMeter → told (if o.transportFirst then .meter else .transport) t.tc.songBar) ∧
          (newMeter → ¬ changes → told .meter (if o.transportFirst then song else s.tc.songBar)))

/-- R18, R82: a waiting handover whose align boundary the latest crossing is moves the grid to the handover tempo, and one
whose boundary it is not waits. R97: the grid in the boundary beat makes the transport PLAYING or STOPPED, with its notice
and indicator. The moments as commands of their own are the model's (log entries 8 and 17). -/
def Obligations.HandoverAndTransportTakeEffect : Prop :=
  (∀ (s : State) (w : Handover), s.phase = .running → s.grid.state ≠ .unset → s.lead.handover = some w →
    (s.grid.crossing = .bar ∨ s.grid.crossing = .beat ∧ w.align ≠ .bar →
      exec .handoverEffect s = .next { s with
        lead := { s.lead with handover := none }
        grid := handedOver w.terms (s.follower w.station).estimate s.grid }) ∧
    (s.grid.crossing = .none ∨ s.grid.crossing = .beat ∧ w.align = .bar → exec .handoverEffect s = .next s)) ∧
  (∀ (s : State) (p : PendingTransport), s.phase = .running → s.grid.state ≠ .unset → s.tc.pending = some p →
    (s.grid.pos.beat = p.boundary →
      exec .transportBoundary s = .next (raiseHouse .transport (showSource .playing { s with
        tc := match p.kind with
          | .start => ⟨.playing, none, 0⟩
          | .cont => ⟨.playing, none, s.tc.songBar⟩
          | .stop => ⟨.stopped, none, s.tc.songBar⟩ }))) ∧
    (s.grid.pos.beat ≠ p.boundary → exec .transportBoundary s = .next s))

/-- R32, R33, R34: a rising edge while qualifying. Lengths are in millionths of the nominal frame period
(log entry 12). -/
def Obligations.EdgesQualifyWck : Prop :=
  ∀ (s : State) (w : WckPeriod) (o : FrameOrder), s.phase = .running → isQualifying s.fru.state = true →
    s.fru.switch ≠ .toInternal →
    (s.fru.periodOpen = false →
      exec (.wckEdge w o) s = .next { s with fru := { s.fru with periodOpen := true } }) ∧
    (s.fru.periodOpen = true → 999000 ≤ w.period * s.fru.divisor → w.period * s.fru.divisor ≤ 1001000 →
      (s.fru.run + 1 < 4800 →
        exec (.wckEdge w o) s = .next { s with fru := { s.fru with run := s.fru.run + 1 } }) ∧
      (s.fru.run + 1 = 4800 →
        exec (.wckEdge w o) s = .next { s with fru := { s.fru with run := 4800, switch := .toExternal } })) ∧
    (s.fru.periodOpen = true → w.period * s.fru.divisor < 999000 ∨ 1001000 < w.period * s.fru.divisor →
      exec (.wckEdge w o) s = .next { s with fru := { s.fru with run := 0, switch := .none } })

/-- R35: a bad period, or silence, in EXTERNAL falls back, with its notice and its indicator (R37); R33: silence while
qualifying, with no switch waiting, only ends the run. -/
def Obligations.WckFailureFallsBack : Prop :=
  ∀ (s : State), s.phase = .running →
    (isQualifying s.fru.state = true → s.fru.switch = .none →
      exec .wckSilence s = .next { s with fru := { s.fru with run := 0, periodOpen := false } }) ∧
    (s.fru.state = .external →
    let f : Fru := { s.fru with
      state := if s.fru.requested = .internal then .internal else .fallback
      run := 0, switch := .none, divisor := s.fru.nextDivisor, periodOpen := false }
    let t := raiseHouse .reference (showSource .externalRef { s with fru := f })
    exec .wckSilence s = .next t ∧
    ∀ w o, s.fru.periodOpen = true → w.period * s.fru.divisor < 999000 ∨ 1001000 < w.period * s.fru.divisor →
      exec (.wckEdge w o) s = .next t)

/-- R29, R32, R34: the rising edges on WCK in EXTERNAL. The first that lies half a nominal frame period or more after the
switch is a WCK frame edge, an earlier one is not; at divisor 2 each edge between two frame edges is none; and a good frame
edge is a frame event. Lengths are in millionths of the nominal frame period (log entry 12). -/
def Obligations.WckEdgesDriveFrames : Prop :=
  ∀ (s : State) (w : WckPeriod) (o : FrameOrder), s.phase = .running → s.fru.state = .external →
    s.fru.periodOpen = false ∨ 999000 ≤ w.period * s.fru.divisor ∧ w.period * s.fru.divisor ≤ 1001000 →
    let opened : Fru := { s.fru with periodOpen := true }
    let framed : Fru := { opened with place := if s.fru.divisor = 2 then .skipNext else .frameNext }
    (s.fru.place = .awaitFirst → w.sinceSwitch < 500000 → exec (.wckEdge w o) s = .next { s with fru := opened }) ∧
    (s.fru.place = .skipNext →
      exec (.wckEdge w o) s = .next { s with fru := { opened with place := .frameNext } }) ∧
    (s.fru.place = .frameNext ∨ s.fru.place = .awaitFirst ∧ 500000 ≤ w.sinceSwitch → s.fru.switch = .none →
      exec (.wckEdge w o) s = exec (.frameEvent o) { s with fru := framed } ∧
      ∃ t, exec (.wckEdge w o) s = .next t ∧ t.fru = { framed with count := s.fru.count + 1 }) ∧
    (s.fru.place = .frameNext ∨ s.fru.place = .awaitFirst ∧ 500000 ≤ w.sinceSwitch → s.fru.switch = .toInternal →
      exec (.wckEdge w o) s = exec (.switchToInternal o) { s with fru := framed })

/-- R34: the internal frame boundary after the run count is full is the last internal frame event, and the reference
becomes EXTERNAL. R36: the frame boundary a pending TO_INTERNAL waited for is a frame event; the divisor becomes the next
divisor, and the reference INTERNAL, or QUALIFYING from EXTERNAL with the source EXTERNAL still requested (R33). R37:
EXTERNAL_REF pins follow, and the REFERENCE notice is raised. That the command is the whole boundary, and that the frame
event comes before the switch and its notice, is the model's choice (log entries 11 and 38). -/
def Obligations.SwitchesTakeEffect : Prop :=
  ∀ (s : State) (o : FrameOrder), s.phase = .running →
    let quiet : State := { s with fru := { s.fru with switch := .none } }
    (isQualifying s.fru.state = true → s.fru.switch = .toExternal →
      ∃ v t, exec (.frameEvent o) quiet = .next v ∧ exec (.switchToExternal o) s = .next t ∧
        t = raiseHouse .reference (showSource .externalRef { v with fru := { s.fru with
          count := s.fru.count + 1, state := .external, run := 0, switch := .none, place := .awaitFirst } }) ∧
        (s.grid.state = .unset → t.grid = s.grid ∧ ∀ l, t.lane l = lastEmissionExpire (s.fru.count + 1) (s.lane l)) ∧
        (∀ p, (t.pin p).function = .indicator → (t.pin p).source = some .externalRef → (t.pin p).level = true) ∧
        (∀ i, (t.link i).present = true → (v.link i).sending.isSome → (v.link i).txQueue.length < 8 →
          ∃ n, .house n ∈ (t.link i).txQueue ∧ n.reason = .reference ∧ n.reference = .external) ∧
        t.straps = s.straps ∧ t.rotation = s.rotation ∧ t.phase = s.phase) ∧
    (s.fru.state ≠ .internal → s.fru.switch = .toInternal →
      let next : RefState := if s.fru.state = .external ∧ s.fru.requested = .external then .qualifying else .internal
      ∃ v t, exec (.frameEvent o) quiet = .next v ∧ exec (.switchToInternal o) s = .next t ∧
        v.fru.count = s.fru.count + 1 ∧
        t = raiseHouse .reference (showSource .externalRef { v with fru := { v.fru with
          state := next, run := 0, switch := .none, divisor := s.fru.nextDivisor, periodOpen := false } }) ∧
        t.fru.nextDivisor = s.fru.nextDivisor ∧ t.fru.requested = s.fru.requested ∧
        (∀ p, (t.pin p).function = .indicator → (t.pin p).source = some .externalRef → (t.pin p).level = false) ∧
        (∀ i, (t.link i).present = true → (v.link i).sending.isSome → (v.link i).txQueue.length < 8 →
          ∃ n, .house n ∈ (t.link i).txQueue ∧ n.reason = .reference ∧ n.reference = next) ∧
        t.straps = s.straps ∧ t.rotation = s.rotation ∧ t.phase = s.phase)

/-- R38: the rows of the Reference Set table, for the holder, with divisor d = 1 for 48 kHz and 2 for 96 kHz; a source or
a rate outside its list is BAD_FIELD. -/
def Obligations.ReferenceSetFollowsItsTable : Prop :=
  (∀ (s : State) (st : Station) (tag a b : Byte), holds s st = true → canTake st 0x13 tag [a, b] s →
    1 < a.toNat ∨ 1 < b.toNat →
    exec (.referenceSet st tag [a, b]) s = .next (placeReply st 0x13 tag (.answer .badField 0) (afterTaking st s))) ∧
  ∀ (s : State) (st : Station) (tag : Byte) (ext fast : Bool), holds s st = true →
    canTake st 0x13 tag [flagByte ext, flagByte fast] s →
    let d : Nat := if fast then 2 else 1
    let src : RefSource := if ext then .external else .internal
    let f : Fru := { s.fru with requested := src }
    let both : Fru := { f with divisor := d, nextDivisor := d }
    let ends := fun (x : Fru) (code : ResultCode) =>
      exec (.referenceSet st tag [flagByte ext, flagByte fast]) s =
        .next (placeReply st 0x13 tag (.answer code 0) { afterTaking st s with fru := x })
    let changed : ResultCode := if d = s.fru.divisor then .noChange else .ok
    let nextChanged : ResultCode := if d = s.fru.nextDivisor then .noChange else .ok
    (s.fru.state = .internal → ext = false → ends both changed) ∧
    (s.fru.state = .internal → ext = true →
      exec (.referenceSet st tag [flagByte ext, flagByte fast]) s =
        .next (placeReply st 0x13 tag (.answer .ok 0) (raiseHouse .reference (showSource .externalRef
          { afterTaking st s with
            fru := { both with state := .qualifying, run := 0, switch := .none, periodOpen := false } })))) ∧
    (isQualifying s.fru.state = true → s.fru.switch ≠ .toInternal → ext = false →
      ends { both with switch := .toInternal, run := 0 } .ok) ∧
    (isQualifying s.fru.state = true → s.fru.switch ≠ .toInternal → ext = true →
      if d = s.fru.divisor then ends f .noChange
      else ends { both with run := 0, switch := .none, periodOpen := false } .ok) ∧
    (isQualifying s.fru.state = true → s.fru.switch = .toInternal → ext = false → ends both changed) ∧
    (isQualifying s.fru.state = true → s.fru.switch = .toInternal → ext = true →
      ends { both with switch := .none, run := 0, periodOpen := false } .ok) ∧
    (s.fru.state = .external → s.fru.switch ≠ .toInternal → ext = false →
      ends { f with switch := .toInternal, nextDivisor := d } .ok) ∧
    (s.fru.state = .external → s.fru.switch ≠ .toInternal → ext = true →
      if d = s.fru.divisor then ends f .noChange else ends { f with switch := .toInternal, nextDivisor := d } .ok) ∧
    (s.fru.state = .external → s.fru.switch = .toInternal → ext = false →
      ends { f with nextDivisor := d } nextChanged) ∧
    (s.fru.state = .external → s.fru.switch = .toInternal → ext = true →
      if d = s.fru.divisor then ends { f with switch := .none, nextDivisor := d } .ok
      else ends { f with nextDivisor := d } .ok)

/-! ### The holder's requests (chapters 1 and 5) -/

/-- R85: a sender that does not hold the lead is refused NOT_LEAD; R193: a wrong length is refused BAD_FIELD with the first
length of its kind, and a KIND that is no station-to-part kind UNKNOWN_KIND; and nothing else changes. R191: a request
whose frame is not the one the request handler takes next is not taken (log entry 7). -/
def Obligations.RefusedRequestsChangeNothing : Prop :=
  (∀ (s : State) (st : Station) (tag : Byte) (f : List Byte) (m : Measured),
    (∀ h, s.lead.holder = some h → h.station ≠ st) →
    let refused := fun (kind : Byte) => (Host.Outcome.next (placeReply st kind tag (.answer .notLead 0) (afterTaking st s)) :
      Host.Outcome State Fault Refusal)
    (canTake st 0x07 tag f s → f.length = 4 → exec (.tempo st tag f) s = refused 0x07) ∧
    (canTake st 0x08 tag f s → f.length = 1 → exec (.nudge st tag f) s = refused 0x08) ∧
    (canTake st 0x09 tag f s → f.length = 1 → exec (.setMeter st tag f) s = refused 0x09) ∧
    (canTake st 0x0C tag f s → f.length = 2 → exec (.transport st tag ⟨f, m⟩) s = refused 0x0C) ∧
    (canTake st 0x13 tag f s → f.length = 2 → exec (.referenceSet st tag f) s = refused 0x13)) ∧
  (∀ (c : Instr) (s : State) (st : Station) (kind tag : Byte) (f : List Byte), frameOf c = some (st, kind, tag, f) →
    (∀ n more, canTake st kind tag f s → bodyLengths kind = n :: more → f.length + 2 ∉ n :: more →
      (∀ k, c ≠ .unknownKind st k tag f) →
      exec c s = .next (placeReply st kind tag (.answer .badField (BitVec.ofNat 8 n)) (afterTaking st s))) ∧
    (canTake st kind tag f s → kind = 0 ∨ 0x15 < kind.toNat →
      exec c s = .next (placeReply st kind tag (.answer .unknownKind 0) (afterTaking st s))) ∧
    (∀ x, s.phase = .running → nextFrame s = some x → x ≠ (st, kind :: tag :: f) → exec c s = .next s))

/-- R23, R16: a Tempo from a SET-mode holder on a RUNNING grid; R23: WRONG_MODE from a MARK-mode holder. -/
def Obligations.TempoChangesTheBase : Prop :=
  ∀ (s : State) (st : Station) (tag : Byte) (target glide : Nat) (t : Terms),
    target < 16777216 → glide < 256 → canTake st 0x07 tag (be3 target ++ be1 glide) s →
    s.lead.holder = some ⟨st, t⟩ → s.grid.state = .running →
    let v := min 300000 (max 40000 target)
    let m := min 32 glide
    (t.mode = .mark → exec (.tempo st tag (be3 target ++ be1 glide)) s =
      .next (placeReply st 0x07 tag (.answer .wrongMode 0) (afterTaking st s))) ∧
    (t.mode = .set → exec (.tempo st tag (be3 target ++ be1 glide)) s =
      .next (placeReply st 0x07 tag
        (.answer (if v ≠ target ∨ m ≠ glide then .clamped
          else if v = s.grid.base ∧ s.grid.glide = none ∧ s.lead.handover = none then .noChange else .ok) 0)
        { afterTaking st s with
          lead := { s.lead with handover := none }
          grid := if m = 0 ∨ v = s.grid.base then
              { s.grid with
                glide := none
                base := v
                baseInc := (2 * (v * 4294967296) + 2880000000) / 5760000000
                appliedInc := appliedIncrement ((2 * (v * 4294967296) + 2880000000) / 5760000000) s.grid.trim }
            else { s.grid with glide := some ⟨s.grid.base, v, m, 0⟩ } }))

/-- R8, R10, R111: a Tempo from the SET-mode holder starts an UNSET grid; the start counts as a crossing of beat 0 and bar
0, every lane in ARMING becomes ACTIVE at beat 0, BEAT and BAR pins pulse, and the answer is OK or CLAMPED. -/
def Obligations.TempoStartsTheGrid : Prop :=
  ∀ (s : State) (st : Station) (tag : Byte) (target glide : Nat) (t : Terms), Safe s →
    target < 16777216 → glide < 256 → canTake st 0x07 tag (be3 target ++ be1 glide) s →
    s.lead.holder = some ⟨st, t⟩ → t.mode = .set → s.grid.state = .unset →
    let v := min 300000 (max 40000 target)
    let inc := (2 * (v * 4294967296) + 2880000000) / 5760000000
    ∃ u, exec (.tempo st tag (be3 target ++ be1 glide)) s = .next (placeReply st 0x07 tag
        (.answer (if v ≠ target ∨ min 32 glide ≠ glide then .clamped else .ok) 0) u) ∧
      u.links = (afterTaking st s).links ∧ u.rotation = (afterTaking st s).rotation ∧ u.phase = s.phase ∧
      u.grid = ⟨.running, ⟨0, 0⟩, v, inc, inc, none, .none, s.grid.meter, none, 0, 0, 0, .bar, none⟩ ∧
      u.lead = { s.lead with handover := none } ∧ u.tc = s.tc ∧ u.fru = s.fru ∧ u.followers = s.followers ∧
      u.inputs = s.inputs ∧ u.ports = s.ports ∧ u.store = s.store ∧ u.straps = s.straps ∧
      (∀ l, (s.lane l).state ≠ .arming → u.lane l = s.lane l) ∧
      (∀ l, (s.lane l).state = .arming → u.lane l = { s.lane l with
        state := .active, activation := none, nextPoint := some ⟨0, 0, 0⟩
        anchor := match (s.lane l).settings.rate with
          | .every _ => some 0
          | _ => none }) ∧
      (∀ p, u.pin p = pulsedAtStart s.fru.count (s.pin p))

/-- R19, R24, R25: a Nudge from the holder arms a trim from −a × 2^24 u with gain 8, and the applied part stays; a Set Meter
from the holder is in force at once in UNSET and waits as the pending meter in a started grid. -/
def Obligations.NudgeAndSetMeter : Prop :=
  ∀ (s : State) (st : Station) (tag v : Byte) (t : Terms), s.lead.holder = some ⟨st, t⟩ →
    let s1 := afterTaking st s
    (canTake st 0x08 tag [v] s →
      let c : Int := min 64 (max (-64) v.toInt)
      let d := roundInt (-c * 16777216 * 8 * s.grid.baseInc) (8 * 4294967296)
      let ends := fun (code : ResultCode) (g : Grid) =>
        exec (.nudge st tag [v]) s = .next (placeReply st 0x08 tag (.answer code 0) { s1 with grid := g })
      (s.grid.state = .unset → ends .notStarted s.grid) ∧
      (s.grid.state ≠ .unset → v = 0 → ends .noChange s.grid) ∧
      (s.grid.state ≠ .unset → v ≠ 0 → match s.grid.trim with
        | .none => ends (if c ≠ v.toInt then .clamped else .ok) { s.grid with trim := .armed d }
        | .armed _ => ends (if c ≠ v.toInt then .clamped else .replaced) { s.grid with trim := .armed d }
        | .applied p => ends (if c ≠ v.toInt then .clamped else .ok) { s.grid with trim := .appliedArmed p d }
        | .appliedArmed p _ => ends (if c ≠ v.toInt then .clamped else .replaced)
            { s.grid with trim := .appliedArmed p d })) ∧
    (canTake st 0x09 tag [v] s →
      let n := v.toNat
      let ends := fun (u : State) (code : ResultCode) =>
        exec (.setMeter st tag [v]) s = .next (placeReply st 0x09 tag (.answer code 0) u)
      (n = 0 ∨ 16 < n → ends s1 .badField) ∧
      (1 ≤ n → n ≤ 16 → s.grid.state = .unset →
        let u : State := { s1 with grid := { s.grid with meter := n, pendingMeter := none } }
        if n = s.grid.meter then ends u .noChange else ends (raiseHouse .meter u) .ok) ∧
      (1 ≤ n → n ≤ 16 → s.grid.state ≠ .unset →
        let u : State := { s1 with grid := { s.grid with pendingMeter := some n } }
        if s.grid.pendingMeter.isSome then ends u .replaced
        else if n = s.grid.meter then ends s1 .noChange else ends u .ok))

/-- R90 to R94: a START or CONTINUE in STOPPED, and a STOP in PLAYING, fix the first boundary strictly beyond P + H, H the
furthest any lane in ARMING or ACTIVE looks ahead, and every such lane owes the mark; PLAYING pins show the new state
(R161), and the notice and the Answer follow the taking. Which position P is, as the request
is taken or before the frame event of its frame period, is the command's operand (R101; log entry 41). -/
def Obligations.TransportFixesABoundary : Prop :=
  ∀ (s : State) (st : Station) (tag : Byte) (k : TransportKind) (q : Quantum) (m : Measured) (t : Terms), Safe s →
    canTake st 0x0C tag [kindByte k, quantumByte q] s → s.lead.holder = some ⟨st, t⟩ →
    s.grid.state ≠ .unset → s.tc.state = .stopped ∧ k ≠ .stop ∨ s.tc.state = .playing ∧ k = .stop →
    let ahead := fun (l : LaneId) (x : Nat) => (s.lane l).state ≠ .off ∧ (s.lane l).settings.offset ≤ 0 ∧
      x = (s.lane l).settings.offset.natAbs * s.grid.appliedInc
    ∃ u b h, exec (.transport st tag ⟨[kindByte k, quantumByte q], m⟩) s = .next u ∧
      u.tc = ⟨if k = .stop then .stopping else .starting, some ⟨k, q, b⟩, s.tc.songBar⟩ ∧
      (∀ l, u.lane l = if (s.lane l).state = .off then s.lane l
        else { s.lane l with owed := some ⟨k, some b⟩ }) ∧
      (∀ l x, ahead l x → x ≤ h) ∧ (h = 0 ∨ ∃ l, ahead l h) ∧
      (∀ far, far = Pos.add (match m, s.grid.before with
          | .beforeFrame, some p => p
          | _, _ => s.grid.pos) h →
        (Pos.beatStart b).strictlyBeyond far = true ∧
        (q = .beat → (Pos.beatStart (b - 1)).strictlyBeyond far = false) ∧
        (q = .bar → isBarStart s.grid b = true ∧ ∀ j : Nat, j < (b - (far.beat + 1)).toNat →
          isBarStart s.grid (far.beat + 1 + BitVec.ofNat 32 j) = false)) ∧
      u.grid = s.grid ∧ u.lead = s.lead ∧ u.fru = s.fru ∧ u.followers = s.followers ∧ u.inputs = s.inputs ∧
      u.ports = s.ports ∧ u.store = s.store ∧ u.straps = s.straps ∧ u.phase = s.phase ∧
      (∀ p, u.pin p = if (s.pin p).function = .indicator ∧ (s.pin p).source = some .playing then
        { s.pin p with level := decide (k = .stop) } else s.pin p) ∧
      ∃ v, v.links = (afterTaking st s).links ∧ v.rotation = (afterTaking st s).rotation ∧
        u = placeReply st 0x0C tag (.answer .ok (BitVec.ofNat 8 (b - s.grid.pos.beat).toNat)) (raiseHouse .transport v)

/-- R98 and R99: a STOP taken while STARTING cancels the start, and only lanes that have started owe a STOP; a START or
CONTINUE taken while STOPPING cancels the stop, and only lanes that have stopped owe a CONTINUE. R90, R91: a request that
asks for what stands changes nothing, one in UNSET is NOT_STARTED, and a kind or quantum outside its list BAD_FIELD. -/
def Obligations.TransportCancelsOrAnswers : Prop :=
  ∀ (s : State) (st : Station) (tag a b : Byte) (m : Measured) (t : Terms), canTake st 0x0C tag [a, b] s →
    s.lead.holder = some ⟨st, t⟩ →
    let s1 := afterTaking st s
    let ends := fun (u : State) (r : ResultCode) =>
      exec (.transport st tag ⟨[a, b], m⟩) s = .next (placeReply st 0x0C tag (.answer r 0) u)
    let cancels := fun (x : TransportState) (owed : Lane → Option Owed) =>
      ends (raiseHouse .transport (showSource .playing { s1 with
        tc := ⟨x, none, s.tc.songBar⟩
        lanes := mapEach s.lanes fun _ ln => if ln.state = .off then ln else { ln with owed := owed ln } })) .ok
    (2 < a.toNat ∨ 1 < b.toNat → ends s1 .badField) ∧
    (a.toNat ≤ 2 → b.toNat ≤ 1 → s.grid.state = .unset → ends s1 .notStarted) ∧
    (a.toNat ≤ 2 → b.toNat ≤ 1 → s.grid.state ≠ .unset →
      (s.tc.state = .stopped → a = 1 → ends s1 .noChange) ∧
      (s.tc.state = .starting → a ≠ 1 → ends s1 .noChange) ∧
      (s.tc.state = .playing → a ≠ 1 → ends s1 .noChange) ∧
      (s.tc.state = .stopping → a = 1 → ends s1 .noChange) ∧
      (∀ p, s.tc.state = .starting → s.tc.pending = some p → a = 1 →
        cancels .stopped fun ln =>
          if ln.playing then some ⟨.stop, none⟩
          else if ln.owed = some ⟨.start, some p.boundary⟩ ∨ ln.owed = some ⟨.cont, some p.boundary⟩ then none
          else ln.owed) ∧
      (∀ p, s.tc.state = .stopping → s.tc.pending = some p → a ≠ 1 →
        cancels .playing fun ln =>
          if ln.playing = false then some ⟨.cont, none⟩
          else if ln.owed = some ⟨.stop, some p.boundary⟩ then none
          else ln.owed))

/-! ### Marks (chapter 3) -/

/-- R41, R48, R49, R59: a Mark from a PRESENT station that does not hold the lead changes its follower record alone, by
the first test of R48 that applies; i is the interval from the last stamp. -/
def Obligations.MarkUpdatesTheRecord : Prop :=
  ∀ (s : State) (st : Station) (tag : Byte) (back : Nat) (down : Bool), back < 65536 →
    canTake st 0x0A tag (be2 back ++ [flagByte down]) s →
    let ends := fun (r : Follower) (code : ResultCode) (detail : Byte) =>
      exec (.mark st tag (be2 back ++ [flagByte down])) s =
        .next (placeReply st 0x0A tag (.answer code detail) ((afterTaking st s).setFollower st r))
    let r := s.follower st
    let stamp := s.fru.count - BitVec.ofNat 32 (min 4800 back)
    let mean := r.history.sum / r.history.length
    let taken := fun (code : ResultCode) => if 4800 < back then ResultCode.clamped else code
    let more := min 65535 (r.runCount + 1)
    ((s.link st).present = false → ends r .noChange 6) ∧
    ((s.link st).present = true → (∀ h, s.lead.holder = some h → h.station ≠ st) →
      (r.lastStamp = none → ends ⟨1, some stamp, [], none, r.phaseError⟩ (taken .ok) 1) ∧
      ∀ a, r.lastStamp = some a →
        let i := (stamp - a).toNat
        (2147483648 ≤ i → ends r .badField 7) ∧
        (72000 < i → i < 2147483648 → ends ⟨1, some stamp, [], none, r.phaseError⟩ (taken .ok) 2) ∧
        (i < 9600 → ends r (taken .noChange) 5) ∧
        (9600 ≤ i → i ≤ 72000 → r.history ≠ [] → mean / 8 < ((i : Int) - mean).natAbs →
          ends ⟨more, some stamp, [i], none, r.phaseError⟩ (taken .ok) 4) ∧
        (9600 ≤ i → i ≤ 72000 → (r.history ≠ [] → ((i : Int) - mean).natAbs ≤ mean / 8) →
          let h := (i :: r.history).take 8
          ends ⟨more, some stamp, h,
            if r.history = [] then none else some ((2 * (2880000000 * h.length) + h.sum) / (2 * h.sum)), r.phaseError⟩
            (taken .ok) 3))

/-- R48, R49, R52 to R57, R14, R17, R19: a Mark of the holder of a RUNNING grid with every outcome of its interval test. One
with the phase role gives a phase error, a downbeat where it carries one, and an armed trim; an ACCEPTED one in MARK mode
with an estimate also moves the tempo, outside the dead band; the transport, the lead and the reference stay. A bar start
one beat beyond the position is log entry 31, and that a downbeat at a beat whose beat-in-bar is 0 already follows the table
of R14 is log entry 46. -/
def Obligations.HolderMarkCorrectsThePhase : Prop :=
  ∀ (s : State) (st : Station) (tag : Byte) (back : Nat) (down : Bool) (t : Terms) (p : Beat) (e : Int), back < 65536 →
    canTake st 0x0A tag (be2 back ++ [flagByte down]) s → (s.link st).present = true →
    s.lead.holder = some ⟨st, t⟩ → s.grid.state = .running → -2147483648 ≤ e → e ≤ 2147483647 →
    s.grid.pos.sub (min 4800 back * s.grid.appliedInc) = ⟨p, BitVec.ofInt 32 e⟩ →
    let r := s.follower st
    let stamp := s.fru.count - BitVec.ofNat 32 (min 4800 back)
    let mean := r.history.sum / r.history.length
    let taken := fun (code : ResultCode) => if 4800 < back then ResultCode.clamped else code
    let more := min 65535 (r.runCount + 1)
    let d := roundInt (e * t.gain * s.grid.baseInc) (8 * 4294967296)
    let m := if 0 ≤ e then p else p + 1
    let k := (s.grid.pos.beat - m).toNat % s.grid.meter
    let corrected : Grid := { s.grid with
      trim := (match s.grid.trim with
        | .none => .armed d
        | .armed _ => .armed d
        | .applied p => .appliedArmed p d
        | .appliedArmed p _ => .appliedArmed p d)
      barStart := if down then if m = s.grid.pos.beat + 1 then m else s.grid.pos.beat - BitVec.ofNat 32 k
        else s.grid.barStart
      beatInBar := if down then if m = s.grid.pos.beat + 1 then s.grid.meter - 1 else k else s.grid.beatInBar }
    let ends := fun (x : Follower) (g : Grid) (code : ResultCode) (detail : Byte) =>
      exec (.mark st tag (be2 back ++ [flagByte down])) s = .next (placeReply st 0x0A tag (.answer code detail)
        (({ afterTaking st s with grid := g } : State).setFollower st x))
    (r.lastStamp = none → ends ⟨1, some stamp, [], none, some e⟩ corrected (taken .ok) 1) ∧
    ∀ a, r.lastStamp = some a →
      let i := (stamp - a).toNat
      (2147483648 ≤ i → ends r s.grid .badField 7) ∧
      (72000 < i → i < 2147483648 → ends ⟨1, some stamp, [], none, some e⟩ corrected (taken .ok) 2) ∧
      (i < 9600 → ends r s.grid (taken .noChange) 5) ∧
      (9600 ≤ i → i ≤ 72000 → r.history ≠ [] → mean / 8 < ((i : Int) - mean).natAbs →
        ends ⟨more, some stamp, [i], none, some e⟩ corrected (taken .ok) 4) ∧
      (9600 ≤ i → i ≤ 72000 → r.history = [] →
        ends ⟨more, some stamp, [i], none, some e⟩ corrected (taken .ok) 3) ∧
      (9600 ≤ i → i ≤ 72000 → r.history ≠ [] → ((i : Int) - mean).natAbs ≤ mean / 8 →
        let h := (i :: r.history).take 8
        let v := (2 * (2880000000 * h.length) + h.sum) / (2 * h.sum)
        ends ⟨more, some stamp, h, some v, some e⟩
          (if t.mode = .set ∨ ((v : Int) - s.grid.base).natAbs ≤ t.deadBand then corrected
            else handedOver { t with tempo := some v } none corrected) (taken .ok) 3)

/-- R9, R10, R48, R49, R54, R58, R82, R111, R161: a Mark of the holder of an UNSET grid, with every outcome of its interval
test. An ACCEPTED one in MARK mode, the record then holding an estimate, starts the grid at it, beat 0 at the mark's stamp;
a waiting handover takes effect on the start; any other mark there changes the record alone. -/
def Obligations.HolderMarkStartsTheGrid : Prop :=
  ∀ (s : State) (st : Station) (tag : Byte) (back : Nat) (down : Bool) (t : Terms), Safe s → back < 65536 →
    canTake st 0x0A tag (be2 back ++ [flagByte down]) s → (s.link st).present = true →
    s.lead.holder = some ⟨st, t⟩ → s.grid.state = .unset →
    let r := s.follower st
    let ago := min 4800 back
    let stamp := s.fru.count - BitVec.ofNat 32 ago
    let mean := r.history.sum / r.history.length
    let taken := fun (code : ResultCode) => if 4800 < back then ResultCode.clamped else code
    let more := min 65535 (r.runCount + 1)
    let ends := fun (x : Follower) (code : ResultCode) (detail : Byte) =>
      exec (.mark st tag (be2 back ++ [flagByte down])) s =
        .next (placeReply st 0x0A tag (.answer code detail) ((afterTaking st s).setFollower st x))
    (r.lastStamp = none → ends ⟨1, some stamp, [], none, r.phaseError⟩ (taken .ok) 1) ∧
    ∀ a, r.lastStamp = some a →
      let i := (stamp - a).toNat
      let h := (i :: r.history).take 8
      let v := (2 * (2880000000 * h.length) + h.sum) / (2 * h.sum)
      (2147483648 ≤ i → ends r .badField 7) ∧
      (72000 < i → i < 2147483648 → ends ⟨1, some stamp, [], none, r.phaseError⟩ (taken .ok) 2) ∧
      (i < 9600 → ends r (taken .noChange) 5) ∧
      (9600 ≤ i → i ≤ 72000 → r.history ≠ [] → mean / 8 < ((i : Int) - mean).natAbs →
        ends ⟨more, some stamp, [i], none, r.phaseError⟩ (taken .ok) 4) ∧
      (9600 ≤ i → i ≤ 72000 → (r.history ≠ [] → ((i : Int) - mean).natAbs ≤ mean / 8) →
        (t.mode = .set ∨ r.history = [] →
          ends ⟨more, some stamp, h, if r.history = [] then none else some v, r.phaseError⟩ (taken .ok) 3) ∧
        (t.mode = .mark → r.history ≠ [] →
          ∃ u, exec (.mark st tag (be2 back ++ [flagByte down])) s =
              .next (placeReply st 0x0A tag (.answer (taken .ok) 3) u) ∧
            (let start : Grid := { startedAt v s.grid with pos := ⟨0, BitVec.ofNat 32 (ago * baseIncrement v)⟩ }
            u.grid = match s.lead.handover with
              | none => start
              | some w => handedOver w.terms (some v) start) ∧
            u.lead = { s.lead with handover := none } ∧
            (∀ j, u.follower j = if j = st then ⟨more, some stamp, h, some v, r.phaseError⟩ else s.follower j) ∧
            (∀ l, u.lane l = if (s.lane l).state = .arming then { s.lane l with
                state := .active, activation := none, nextPoint := some ⟨0, 0, 0⟩
                anchor := anchorFrom (s.lane l).settings.rate 0 } else s.lane l) ∧
            (∀ p, u.pin p = pulsedAtStart s.fru.count (s.pin p)) ∧ u.links = (afterTaking st s).links ∧
            u.rotation = (afterTaking st s).rotation ∧ u.fru = s.fru ∧ u.tc = s.tc ∧ u.inputs = s.inputs ∧
            u.ports = s.ports ∧ u.store = s.store ∧ u.phase = s.phase))

/-- R45: every check of an Input Set, and the setting it writes. -/
def Obligations.InputSetWritesTheSetting : Prop :=
  ∀ (s : State) (st : Station) (tag i b c hi lo fl : Byte), canTake st 0x0B tag [i, b, c, hi, lo, fl] s →
    let ends := fun (u : State) (code : ResultCode) =>
      exec (.inputSet st tag [i, b, c, hi, lo, fl]) s = .next (placeReply st 0x0B tag (.answer code 0) u)
    let s1 := afterTaking st s
    ((s.link st).present = false → ends s1 .noChange) ∧
    ((s.link st).present = true → 2 ≤ i.toNat → ends s1 .badField) ∧
    ((s.link st).present = true → ∀ n : InputId, n.val = i.toNat →
      let m := s.input n
      (∀ o, m.setting.station = some o → o ≠ st → ends s1 .held) ∧
      (m.setting.station = none ∨ m.setting.station = some st →
        (¬ (b = 0xFF ∨ b.toNat < 4) ∨ 3 ≤ c.toNat → ends s1 .badField) ∧
        (∀ (o : Option Station) (e : EdgeKind), b = stationOpt o → c = edgeByte e →
          let sent := hi.toNat * 256 + lo.toNat
          let new : InputSetting := ⟨o, e, min 12000 (max 480 sent), fl.getLsbD 0⟩
          ends (s1.setInput n { m with setting := new })
            (if sent < 480 ∨ 12000 < sent then .clamped else if new = m.setting then .noChange else .ok))))

/-- R42 to R44: an edge that is not detected or that falls within the hold-off changes nothing. A delivered edge is IGNORED
of an ABSENT station, or without the downbeat's holder and RUNNING grid; on a downbeat input of that holder it is a BAR,
which corrects the phase and the bars but takes no interval test; on any other input it does what a Mark of its station
with no time-back and no downbeat does, with every outcome. The bar start after a downbeat is log entries 31 and 46. -/
def Obligations.EdgesBecomeMarks : Prop :=
  ∀ (s : State) (i : InputId) (change : LevelChange), s.phase = .running →
    let m := s.input i
    let wrongWay := m.setting.edge = .rising ∧ change = .highToLow ∨ m.setting.edge = .falling ∧ change = .lowToHigh
    let tooSoon := ∃ a, m.lastEdge = some a ∧ (s.fru.count - a).toNat < m.setting.holdOff
    let tested := fun (o : MarkOutcome) =>
      s.setInput i { m with lastEdge := some s.fru.count, lastOutcome := some o }
    (m.setting.station = none ∨ wrongWay ∨ tooSoon → exec (.markInputEdge i change) s = .next s) ∧
    (∀ st, m.setting.station = some st → ¬ wrongWay → ¬ tooSoon →
      ((s.link st).present = false ∨ m.setting.downbeat = true ∧
          ((∀ h, s.lead.holder = some h → h.station ≠ st) ∨ s.grid.state ≠ .running) →
        exec (.markInputEdge i change) s = .next (tested .ignored)) ∧
      ((s.link st).present = true → m.setting.downbeat = false →
        (∀ h, s.lead.holder = some h → h.station ≠ st) → (s.follower st).lastStamp = none →
        exec (.markInputEdge i change) s = .next ((tested .first).setFollower st
          ⟨1, some s.fru.count, [], none, (s.follower st).phaseError⟩)) ∧
      (∀ t e, (s.link st).present = true → m.setting.downbeat = true → s.lead.holder = some ⟨st, t⟩ →
        s.grid.state = .running → -2147483648 ≤ e → e ≤ 2147483647 → s.grid.pos.frac = BitVec.ofInt 32 e →
        let d := roundInt (e * t.gain * s.grid.baseInc) (8 * 4294967296)
        exec (.markInputEdge i change) s = .next ({ (tested .bar).setFollower st
            { s.follower st with phaseError := some e } with
          grid := { s.grid with
            trim := (match s.grid.trim with
              | .none => .armed d
              | .armed _ => .armed d
              | .applied p => .appliedArmed p d
              | .appliedArmed p _ => .appliedArmed p d)
            barStart := if 0 ≤ e then s.grid.pos.beat else s.grid.pos.beat + 1
            beatInBar := if 0 ≤ e then 0 else s.grid.meter - 1 } })) ∧
      ((s.link st).present = true → m.setting.downbeat = false → ∀ tag, canTake st 0x0A tag [0, 0, 0] s →
        ∃ t u o code v, exec (.markInputEdge i change) s = .next t ∧
          exec (.mark st tag [0, 0, 0]) s = .next u ∧
          u = placeReply st 0x0A tag (.answer code (outcomeByte o)) v ∧
          t.input i = ⟨m.setting, some s.fru.count, some o⟩ ∧ (∀ j, j ≠ i → t.input j = s.input j) ∧
          t.followers = u.followers ∧ t.grid = u.grid ∧ t.lead = u.lead ∧ t.lanes = u.lanes ∧ t.pins = u.pins ∧
          t.tc = u.tc ∧ t.ports = u.ports ∧ t.fru = u.fru ∧ t.store = u.store ∧ t.straps = u.straps))

/-- R43, R50, R60, R145, R155: what runs out, at its frame and not before. That the expiries and the timer end are commands
of their own is log entry 8, that a reported departure waits for FOLLOWER_EMPTIED is log entry 16, and that a frame count
2^31 frames back or more is not past is log entry 24. -/
def Obligations.ItemsExpireAtTheirFrames : Prop :=
  ∀ s : State, s.phase = .running →
    let past := fun (a : Frame) => 1073741824 ≤ (s.fru.count - a).toNat ∧ (s.fru.count - a).toNat < 2147483648
    (∀ st, exec (.followerEmptied st) s = .next (if (s.link st).emptyReported then
      (s.setLink st { s.link st with emptyReported := false }).setFollower st ⟨0, none, [], none, none⟩ else s)) ∧
    (∀ st a, (s.follower st).lastStamp = some a → exec (.lastStampExpiry st) s =
      .next (s.setFollower st (if past a then ⟨0, none, [], none, none⟩ else s.follower st))) ∧
    (∀ i a, (s.input i).lastEdge = some a → exec (.edgeFrameExpiry i) s =
      .next (s.setInput i (if past a then { s.input i with lastEdge := none } else s.input i))) ∧
    (∀ l a, (s.lane l).lastEmission = some a → exec (.lastEmissionExpiry l) s =
      .next (s.setLane l (if 2147483648 ≤ (s.fru.count - a).toNat then { s.lane l with lastEmission := none }
        else s.lane l))) ∧
    (∀ p a, (s.pin p).activeUntil = some a → exec (.activeUntilExpiry p) s =
      .next (s.setPin p (if (s.pin p).timing = false ∧ past a then { s.pin p with activeUntil := none } else s.pin p))) ∧
    (∀ p a, (s.pin p).activeUntil = some a → exec (.pinTimerEnd p) s =
      .next (s.setPin p (if (s.pin p).timing = true ∧ (s.fru.count - a).toNat < 2147483648 then
        { s.pin p with level := false, timing := false } else s.pin p)))

/-! ### The lead (chapter 4) -/

/-- R68, R69, R77, R81, R82: a Take Lead while no station holds the lead. In UNSET without a tempo the grid stays; with one
it starts; from HOLDOVER it runs again, and a handover of align NOW takes effect at once. A mode or align outside its list
is BAD_FIELD, and an ABSENT sender is NO_CHANGE (R67). -/
def Obligations.TakeLeadGrantsTheLead : Prop :=
  ∀ (s : State) (st : Station) (tag : Byte),
    (∀ x : Sent, x.Fits → canTake st 0x03 tag x.bytes s → (s.link st).present = true → s.lead.holder = none →
      let new : LeadEntry := ⟨st, x.terms⟩
      let ends := fun (u : State) => exec (.takeLead st tag x.bytes) s =
        .next (placeReply st 0x03 tag (.answer (if x.clamped then .clamped else .ok) 0) u)
      (startsAt (some new) s.grid = none →
        ends (changedTo .granted (some new) [] (afterTaking st s))) ∧
      (∀ v, Safe s → startsAt (some new) s.grid = some v →
        ∃ u, ends (raiseHouse .granted u) ∧ StartedTo new [] v (passedOn (afterTaking st s)) u)) ∧
    (∀ f : List Byte, f.length = 9 → canTake st 0x03 tag f s →
      let detail : Byte := match s.lead.queue.findIdx? fun e => decide (e.station = st) with
        | some i => BitVec.ofNat 8 (i + 1)
        | none => 0
      let ends := fun (r : ResultCode) (d : Byte) =>
        exec (.takeLead st tag f) s = .next (placeReply st 0x03 tag (.answer r d) (afterTaking st s))
      ((s.link st).present = false → ends .noChange 0) ∧
      ((s.link st).present = true → 1 < (f.getD 0 0).toNat ∨ 2 < (f.getD 5 0).toNat → ends .badField detail))

/-- R70 and R71: from the holder the terms are replaced, with those of a waiting handover, and no notice is raised: in UNSET
a tempo starts the grid, and in a started grid a handover that waited takes effect at once under an align NOW; from
another station its entry joins the queue at the tail, or its terms are replaced in place, with a notice. -/
def Obligations.TakeLeadReplacesOrQueues : Prop :=
  ∀ (s : State) (st : Station) (tag : Byte) (x : Sent) (h : LeadEntry), x.Fits → canTake st 0x03 tag x.bytes s →
    (s.link st).present = true → s.lead.holder = some h →
    let t := x.terms
    (h.station = st →
      let ends := fun (u : State) => exec (.takeLead st tag x.bytes) s =
        .next (placeReply st 0x03 tag (.answer (if x.clamped then .clamped else .ok) 0) u)
      let s1 := afterTaking st s
      let told : Grid := if s.lead.handover.isSome then { s.grid with crossing := .none } else s.grid
      let waits := s.lead.handover.map fun w => { w with align := t.align, terms := t }
      (s.grid.state = .unset ∧ x.tempo = 0 ∨ s.grid.state ≠ .unset ∧ (t.align ≠ .now ∨ s.lead.handover = none) →
        ends { s1 with grid := told, lead := { s.lead with holder := some ⟨st, t⟩, handover := waits } }) ∧
      (∀ w, s.grid.state ≠ .unset → t.align = .now → s.lead.handover = some w →
        ends { s1 with
          grid := handedOver t (s.follower w.station).estimate told
          lead := { s.lead with holder := some ⟨st, t⟩, handover := none } }) ∧
      (∀ v, Safe s → s.grid.state = .unset → t.tempo = some v →
        ∃ u, ends u ∧ StartedTo ⟨st, t⟩ s.lead.queue v s1 u)) ∧
    (h.station ≠ st →
      let ends := fun (q : List LeadEntry) (place : Nat) =>
        exec (.takeLead st tag x.bytes) s = .next (placeReply st 0x03 tag
          (.answer (if x.clamped then .clamped else .queued) (BitVec.ofNat 8 place))
          (raiseHouse .granted { afterTaking st s with lead := { s.lead with queue := q } }))
      ((∀ e ∈ s.lead.queue, e.station ≠ st) → ends (s.lead.queue ++ [⟨st, t⟩]) (s.lead.queue.length + 1)) ∧
      (∀ a e b, s.lead.queue = a ++ e :: b → e.station = st → (∀ y ∈ a ++ b, y.station ≠ st) →
        ends (a ++ ⟨st, t⟩ :: b) (a.length + 1)))

/-- R67, R72, R78, R79: a Yield from a station with no standing, from a queued station, and from the holder, with no queue
and with one whose head is promoted under each align, in UNSET (where its tempo starts the grid, R8) and RUNNING. -/
def Obligations.YieldPassesTheLead : Prop :=
  ∀ (s : State) (st : Station) (tag : Byte), canTake st 0x04 tag [] s →
    let ends := fun (u : State) (code : ResultCode) =>
      exec (.yield st tag []) s = .next (placeReply st 0x04 tag (.answer code 0) u)
    let s1 := afterTaking st s
    let out := (s.lead.queue.filter fun e => decide (e.station ≠ st))
    ((s.link st).present = false → ends s1 .noChange) ∧
    ((s.link st).present = true → (∀ h, s.lead.holder = some h → h.station ≠ st) →
      if ∃ e ∈ s.lead.queue, e.station = st then
        ends (raiseHouse .yielded { s1 with lead := { s.lead with queue := out } }) .ok
      else ends s1 .notLead) ∧
    (∀ t, (s.link st).present = true → s.lead.holder = some ⟨st, t⟩ → s.grid.state ≠ .holdover →
      (s.lead.queue = [] → ends (changedTo .yielded none [] s1) .ok) ∧
      (∀ e q, s.lead.queue = e :: q → startsAt (some e) s.grid = none →
        ends (changedTo .promoted (some e) q s1) .ok) ∧
      (∀ e q v, Safe s → s.lead.queue = e :: q → startsAt (some e) s.grid = some v →
        ∃ u, ends (raiseHouse .promoted u) .ok ∧ StartedTo e q v (passedOn s1) u))

/-- R73, R74, R76, R77: the checks of a Seize, and its action in every grid state and under every align, with the terms it
carries, with those of the sender's entry, or with the default terms. -/
def Obligations.SeizeTakesTheLead : Prop :=
  ∀ (s : State) (st : Station) (tag : Byte) (code : BitVec 16),
    let s1 := afterTaking st s
    let takes := fun (f : List Byte) (t : Terms) (r : ResultCode) =>
      let q := s.lead.queue.filter fun e => decide (e.station ≠ st)
      let ends := fun (u : State) => exec (.seize st tag f) s = .next (placeReply st 0x05 tag (.answer r 0) u)
      (startsAt (some ⟨st, t⟩) s.grid = none → ends (changedTo .seized (some ⟨st, t⟩) q s1)) ∧
      (∀ v, Safe s → startsAt (some ⟨st, t⟩) s.grid = some v →
        ∃ u, ends (raiseHouse .seized u) ∧ StartedTo ⟨st, t⟩ q v (passedOn s1) u)
    (canTake st 0x05 tag (be2 code.toNat) s →
      let ends := fun (u : State) (r : ResultCode) =>
        exec (.seize st tag (be2 code.toNat)) s = .next (placeReply st 0x05 tag (.answer r 0) u)
      ((s.link st).present = false → ends s1 .noChange) ∧
      ((s.link st).present = true → s.lead.code = 0 → ends s1 .seizeOff) ∧
      ((s.link st).present = true → s.lead.code ≠ 0 → code ≠ s.lead.code →
        ends (showSource .seizeFailed { s1 with lead := { s.lead with latch := some ⟨st, 0x05, match s.lead.latch with
          | none => 1
          | some l => min 255 (l.count + 1)⟩ } }) .badCode) ∧
      ((s.link st).present = true → s.lead.code ≠ 0 → code = s.lead.code →
        (∀ t, s.lead.holder = some ⟨st, t⟩ → ends s1 .noChange) ∧
        ((∀ h, s.lead.holder = some h → h.station ≠ st) →
          ((∀ e ∈ s.lead.queue, e.station ≠ st) →
            takes (be2 code.toNat) ⟨.set, 0, 20, 4, .now, none⟩ .ok) ∧
          (∀ a e b, s.lead.queue = a ++ e :: b → e.station = st → (∀ y ∈ a, y.station ≠ st) →
            takes (be2 code.toNat) e.terms .ok)))) ∧
    (∀ x : Sent, x.Fits → canTake st 0x05 tag (be2 code.toNat ++ x.bytes) s → (s.link st).present = true →
      s.lead.code ≠ 0 → code = s.lead.code → (∀ h, s.lead.holder = some h → h.station ≠ st) →
      takes (be2 code.toNat ++ x.bytes) x.terms (if x.clamped then .clamped else .ok)) ∧
    (∀ f : List Byte, f.length = 11 → canTake st 0x05 tag f s → (s.link st).present = true → s.lead.code ≠ 0 →
      (f.getD 0 0).toNat * 256 + (f.getD 1 0).toNat = s.lead.code.toNat →
      (∀ h, s.lead.holder = some h → h.station ≠ st) → 1 < (f.getD 2 0).toNat ∨ 2 < (f.getD 7 0).toNat →
      exec (.seize st tag f) s = .next (placeReply st 0x05 tag (.answer .badField 0) s1))

/-- R75 and R76: the old code is the authority of a Seize Code Set; nothing but the code, or the latch of a BAD_CODE,
changes. -/
def Obligations.SeizeCodeSetChangesTheCode : Prop :=
  ∀ (s : State) (st : Station) (tag : Byte) (old new : BitVec 16),
    canTake st 0x06 tag (be2 old.toNat ++ be2 new.toNat) s →
    let ends := fun (u : State) (r : ResultCode) =>
      exec (.seizeCodeSet st tag (be2 old.toNat ++ be2 new.toNat)) s = .next (placeReply st 0x06 tag (.answer r 0) u)
    let s1 := afterTaking st s
    ((s.link st).present = false → ends s1 .noChange) ∧
    ((s.link st).present = true → old ≠ s.lead.code →
      ends (showSource .seizeFailed { s1 with lead := { s.lead with latch := some ⟨st, 0x06, match s.lead.latch with
        | none => 1
        | some l => min 255 (l.count + 1)⟩ } }) .badCode) ∧
    ((s.link st).present = true → old = s.lead.code → new = s.lead.code → ends s1 .noChange) ∧
    ((s.link st).present = true → old = s.lead.code → new ≠ s.lead.code →
      ends { s1 with lead := { s.lead with code := new } } .ok)

/-- R84: what the Lead Arbiter does with a reported departure, by the station's standing, with the head promoted under each
align and in UNSET (R8, R79). That it acts at a command of its own is log entry 16. -/
def Obligations.LapsePassesTheLead : Prop :=
  ∀ (s : State) (st : Station), s.phase = .running →
    let s1 := s.setLink st { s.link st with lapseReported := false }
    let out := (s.lead.queue.filter fun e => decide (e.station ≠ st))
    let ends := fun (u : State) => exec (.leadLapse st) s = .next u
    ((s.link st).lapseReported = false → ends s) ∧
    ((s.link st).lapseReported = true →
      ((∀ h, s.lead.holder = some h → h.station ≠ st) → ends
        (if ∃ e ∈ s.lead.queue, e.station = st then
          raiseHouse .lapsed { s1 with lead := { s.lead with queue := out } } else s1)) ∧
      (∀ t, s.lead.holder = some ⟨st, t⟩ → s.grid.state ≠ .holdover →
        (s.lead.queue = [] → ends (changedTo .lapsed none [] s1)) ∧
        (∀ e q, s.lead.queue = e :: q → startsAt (some e) s.grid = none → ends (changedTo .promoted (some e) q s1)) ∧
        (∀ e q v, Safe s → s.lead.queue = e :: q → startsAt (some e) s.grid = some v →
          ∃ u, ends (raiseHouse .promoted u) ∧ StartedTo e q v (passedOn s1) u)))

/-! ### The lanes (chapters 6 and 7) -/

/-- R113, R115: a Lane Set, Lane Enable or Lane Disable with any fields, on another station's lane, without FORCE, with no
seize code held, or with a wrong one; the last sets the latch (R76). R123, with the first two checks of R115: a Lane
Release ends its sender's ownership alone. -/
def Obligations.OwnershipGuardsALane : Prop :=
  (∀ (s : State) (st o : Station) (tag : Byte) (l : LaneId),
    (s.link st).present = true → (s.lane l).owner = some o → o ≠ st →
    let s1 := afterTaking st s
    let guards := fun (f : List Byte) (flags : Nat) (kind : Byte) (c : Instr) =>
      let force := (f.getD flags 0).getLsbD 1
      let code : BitVec 16 := f.getD (flags + 1) 0 ++ f.getD (flags + 2) 0
      let ends := fun (u : State) (r : ResultCode) (detail : Nat) =>
        exec c s = .next (placeReply st kind tag (.answer r (BitVec.ofNat 8 detail)) u)
      (f.getD 0 0).toNat = l.val → canTake st kind tag f s →
        (force = false → ends s1 .held o.val) ∧
        (force = true → s.lead.code = 0 → ends s1 .seizeOff l.val) ∧
        (force = true → s.lead.code ≠ 0 → code ≠ s.lead.code →
          ends (showSource .seizeFailed { s1 with
            lead := { s.lead with latch := some ⟨st, kind, match s.lead.latch with
              | none => 1
              | some x => min 255 (x.count + 1)⟩ } }) .badCode l.val)
    (∀ f, f.length = 29 → guards f 4 0x0D (.laneSet st tag f)) ∧
    (∀ f, f.length = 4 → guards f 1 0x0E (.laneEnable st tag f)) ∧
    (∀ f, f.length = 5 → guards f 2 0x0F (.laneDisable st tag f))) ∧
  (∀ (s : State) (st : Station) (tag b : Byte), canTake st 0x10 tag [b] s →
    let ends := fun (u : State) (r : ResultCode) (detail : Byte) =>
      exec (.laneRelease st tag [b]) s = .next (placeReply st 0x10 tag (.answer r detail) u)
    let s1 := afterTaking st s
    ((s.link st).present = false → ends s1 .noChange 0) ∧
    ((s.link st).present = true → 16 ≤ b.toNat → ends s1 .badField 0) ∧
    ((s.link st).present = true → ∀ l : LaneId, l.val = b.toNat →
      match (s.lane l).owner with
      | none => ends s1 .noChange b
      | some o =>
        if o = st then ends (s1.setLane l { s.lane l with owner := none }) .ok b
        else ends s1 .held (BitVec.ofNat 8 o.val)))

/-- R114, R116, R117, R119: a Lane Set of the offset alone, on an OFF lane, and on an ACTIVE one at NOW, NEXT_BEAT or
NEXT_BAR; KEEP makes the sender the owner. That a NEXT_BAR waits as the next beat with a flag is log entry 18, and that the
lane's reference is formed from the state at the taking is log entry 19. -/
def Obligations.LaneSetWritesOrStages : Prop :=
  ∀ (s : State) (st : Station) (tag ap : Byte) (l : LaneId) (keep : Bool) (v : Int),
    -32768 ≤ v → v ≤ 32767 → (s.link st).present = true → (s.lane l).owner = none ∨ (s.lane l).owner = some st →
    canTake st 0x0D tag (offsetBytes l ap (flagByte keep) 0 v) s →
    let ln := s.lane l
    let w : Int := min 4800 (max (-4800) v)
    let owner := if keep then some st else ln.owner
    let ends := fun (x : Lane) (code : ResultCode) =>
      exec (.laneSet st tag (offsetBytes l ap (flagByte keep) 0 v)) s = .next (placeReply st 0x0D tag
        (.answer (if w ≠ v then .clamped else code) (BitVec.ofNat 8 l.val)) ((afterTaking st s).setLane l x))
    (RateOk ln.settings.kind ln.settings.rate → (swingApplies ln.settings.rate = false → ln.settings.swing = 50) →
      ln.state = .off → ap.toNat ≤ 2 →
      ends { ln with settings := { ln.settings with offset := w }, owner := owner }
        (if w = ln.settings.offset ∧ owner = ln.owner then .noChange else .ok)) ∧
    (RateOk ln.settings.kind ln.settings.rate → ln.state = .active → ap = 1 ∨ ap = 2 →
      ends { ln with
          staged := some ⟨offsetPatch w, decide (ap = 2), (reference s.grid ln.settings.offset).beat + 1⟩
          owner := owner }
        (if ln.staged.isSome then .replaced else .ok)) ∧
    (RateOk ln.settings.kind ln.settings.rate → (swingApplies ln.settings.rate = false → ln.settings.swing = 50) →
      ln.state = .active → ap = 0 →
      ends { ln with
          settings := { ln.settings with offset := w }
          staged := none
          anchor := match ln.settings.rate with
            | .every _ => ln.anchor
            | _ => none
          owner := owner }
        (if ln.staged.isSome then .replaced else .ok))

/-- R107, R110, R117 to R120: a Lane Set of the rate alone, within its limits, in every lane state and at every apply-at; a
Lane Set of the offset on a lane in ARMING; and a change of the kind of an OFF lane. Where a lane's rate or offset changes
in ARMING its activation point is formed anew. The reference at the taking is log entry 19, a boundary of NEXT_BAR log
entry 18, the next point set anew log entry 20, and the anchor of a carried rate log entry 42. -/
def Obligations.LaneSetChangesTheRateOrTheKind : Prop :=
  ∀ (s : State) (st : Station) (tag ap : Byte) (l : LaneId) (keep : Bool),
    (s.link st).present = true → (s.lane l).owner = none ∨ (s.lane l).owner = some st → ap.toNat ≤ 2 →
    let ln := s.lane l
    let x := ln.settings
    let owner := if keep then some st else ln.owner
    let ref := reference s.grid x.offset
    let ends := fun (f : List Byte) (y : Lane) (code : ResultCode) =>
      exec (.laneSet st tag f) s = .next (placeReply st 0x0D tag (.answer code (BitVec.ofNat 8 l.val))
        ((afterTaking st s).setLane l { y with owner := owner }))
    SettingsOk x →
    (∀ (r : Rate) (form value : Byte),
      let f := firstBytes l 0x04 ap (flagByte keep) 0 0 0 form value
      canTake st 0x0D tag f s → RateOk x.kind r →
      (match r with
        | .perBeat p => form = 0 ∧ value.toNat = p ∧ p ≠ 0
        | .every q => form = 1 ∧ value.toNat = q ∧ q ≠ 0
        | .perBar => form = 2) →
      (ln.state = .off → ends f { ln with settings := withRate r x }
        (if r = x.rate ∧ owner = ln.owner then .noChange else .ok)) ∧
      (ln.state = .arming → ∃ a, ArmedAt s.grid (withRate r x) a ∧ ends f { ln with
          settings := withRate r x
          activation := if r = x.rate then ln.activation else a }
        (if r = x.rate ∧ owner = ln.owner then .noChange else .ok)) ∧
      (ln.state = .active → ap = 0 →
        ∃ n, FirstBeyond (withRate r x) (anchorFrom r (ref.beat + 1)) ref n ∧ ends f { ln with
          settings := withRate r x
          staged := none
          anchor := anchorFrom r (ref.beat + 1)
          nextPoint := some n }
        (if ln.staged.isSome then .replaced else .ok)) ∧
      (ln.state = .active → ap ≠ 0 → ends f { ln with
          staged := some ⟨ratePatch r, decide (ap = 2), ref.beat + 1⟩ }
        (if ln.staged.isSome then .replaced else .ok))) ∧
    (∀ v : Int, -4800 ≤ v → v ≤ 4800 → ln.state = .arming →
      canTake st 0x0D tag (offsetBytes l ap (flagByte keep) 0 v) s →
      ∃ a, ArmedAt s.grid { x with offset := v } a ∧ ends (offsetBytes l ap (flagByte keep) 0 v) { ln with
          settings := { x with offset := v }
          activation := if v = x.offset then ln.activation else a }
        (if v = x.offset ∧ owner = ln.owner then .noChange else .ok)) ∧
    (∀ k : LaneKind, k ≠ x.kind → ln.state = .off →
      canTake st 0x0D tag (firstBytes l 0x01 ap (flagByte keep) 0 (laneKindByte k) 0 0 0) s →
      let r : Rate := match k, x.rate with
        | .notice, .perBeat p => .perBeat (min 4 p)
        | _, r => r
      ends (firstBytes l 0x01 ap (flagByte keep) 0 (laneKindByte k) 0 0 0) { ln with
          settings := { withRate r x with
            kind := k, target := .none, waveform := .pulse, width := 480, accent := none, polarity := .normal,
            codes := ⟨0, 0, 0, 0⟩, barCode := none } }
        (if r = x.rate then .ok else .clamped))

/-- R114, R115, R116: a kind, target or polarity is refused LANE_ACTIVE on a lane that is not OFF; an apply-at, kind,
target, rate, align, waveform, polarity or bar-code presence outside its list, and a field of another kind, are BAD_FIELD;
an ABSENT sender is NO_CHANGE, and a lane index above 15 BAD_FIELD. R113, R114: the right code and FORCE pass the check of
another's lane, and KEEP then takes it over. -/
def Obligations.LaneSetChecksItsFields : Prop :=
  ∀ (s : State) (st : Station) (tag : Byte) (l : LaneId),
    let ln := s.lane l
    let s1 := afterTaking st s
    let ends := fun (f : List Byte) (u : State) (code : ResultCode) (detail : Byte) =>
      exec (.laneSet st tag f) s = .next (placeReply st 0x0D tag (.answer code detail) u)
    let index : Byte := BitVec.ofNat 8 l.val
    (∀ f, f.length = 29 → canTake st 0x0D tag f s → (s.link st).present = false → ends f s1 .noChange 0) ∧
    (∀ f, f.length = 29 → canTake st 0x0D tag f s → (s.link st).present = true → 15 < (f.getD 0 0).toNat →
      ends f s1 .badField 0) ∧
    ((s.link st).present = true → ln.owner = none ∨ ln.owner = some st →
      ∀ f : List Byte, f.length = 29 → (f.getD 0 0).toNat = l.val → canTake st 0x0D tag f s →
        let byte := fun (n : Nat) => (f.getD n 0).toNat
        let has := fun (n : Nat) => (byte 1 * 256 + byte 2).testBit n = true
        let k : LaneKind := if has 0 then (if byte 7 = 0 then .pin else if byte 7 = 1 then .stream else .notice)
          else ln.settings.kind
        (ln.state ≠ .off → has 0 ∨ has 1 ∨ has 9 → ends f s1 .laneActive index) ∧
        (ln.state = .off ∨ ¬ has 0 ∧ ¬ has 1 ∧ ¬ has 9 →
          2 < byte 3 ∨ has 0 ∧ 2 < byte 7 ∨
            has 1 ∧ byte 8 ≠ 255 ∧ (if k = .pin then 7 < byte 8 else 3 < byte 8) ∨
            has 2 ∧ (2 < byte 9 ∨ byte 9 ≠ 2 ∧ byte 10 = 0) ∨
            has 5 ∧ 2 < byte 14 ∨ has 6 ∧ 3 < byte 15 ∨ has 9 ∧ 1 < byte 20 ∨ has 13 ∧ 1 < byte 27 ∨
            k ≠ .pin ∧ (has 6 ∨ has 7 ∨ has 8 ∨ has 9) ∨ k ≠ .stream ∧ (has 12 ∨ has 13) →
          ends f s1 .badField index)) ∧
    (∀ (o : Station) (ap : Byte) (keep : Bool) (v : Int), (s.link st).present = true → ln.owner = some o → o ≠ st →
      s.lead.code ≠ 0 → ln.state = .off → ap.toNat ≤ 2 → -4800 ≤ v → v ≤ 4800 → SettingsOk ln.settings →
      canTake st 0x0D tag (offsetBytes l ap (if keep then 3 else 2) s.lead.code v) s →
      ends (offsetBytes l ap (if keep then 3 else 2) s.lead.code v)
        (s1.setLane l { ln with
          settings := { ln.settings with offset := v }, owner := if keep then some st else some o })
        (if v = ln.settings.offset ∧ keep = false then .noChange else .ok) index)

/-- R107, R114, R116 to R119: a Lane Set of any of the fourteen settings that passes its checks, each value clamped. On an
OFF or ARMING lane they are written into the record, and a lane in ARMING whose rate, align or offset changed forms its
activation point anew; on an ACTIVE lane align and spacing are written at once, and the others at NOW or as a staged part
that takes the place of one that waits. The reference at the taking is log entry 19, a boundary of NEXT_BAR log entry 18,
the next point set anew log entry 20, and the anchor of a carried rate log entry 42. -/
def Obligations.LaneSetWritesEverySetting : Prop :=
  ∀ (s : State) (st : Station) (tag : Byte) (l : LaneId) (x : SentSettings),
    (s.link st).present = true → (s.lane l).owner = none ∨ (s.lane l).owner = some st → canTake st 0x0D tag (x.bytes l) s →
    LaneOk (s.lane l) → x.Fits (s.lane l).settings →
    (s.lane l).state = .off ∨ x.has 0 = false ∧ x.has 1 = false ∧ x.has 9 = false →
    let ln := s.lane l
    let old := ln.settings
    let new := x.written old
    let owner := if x.keep then some st else ln.owner
    let ref := reference s.grid old.offset
    let stages := x.mask &&& 0x35DC ≠ 0
    let atOnce : Settings := { old with align := new.align, spacing := new.spacing }
    ∃ (code : ResultCode) (a : Option Activation) (n : NextPoint),
      ArmedAt s.grid new a ∧ FirstBeyond new (anchorFrom new.rate (ref.beat + 1)) ref n ∧
      (x.Clamped old → code = .clamped) ∧
      (¬ x.Clamped old → code = match ln.state with
        | .active => if stages then (if ln.staged.isSome then .replaced else .ok)
          else if atOnce = old ∧ owner = ln.owner then .noChange else .ok
        | _ => if new = old ∧ owner = ln.owner then .noChange else .ok) ∧
      exec (.laneSet st tag (x.bytes l)) s = .next (placeReply st 0x0D tag (.answer code (BitVec.ofNat 8 l.val))
        ((afterTaking st s).setLane l { (match ln.state with
          | .off => { ln with settings := new }
          | .arming => { ln with
              settings := new
              activation := if new.rate = old.rate ∧ new.align = old.align ∧ new.offset = old.offset then ln.activation
                else a }
          | .active =>
            if ¬ stages then { ln with settings := atOnce }
            else match x.applyAt with
              | .now => { ln with
                  settings := new
                  staged := none
                  anchor := if x.has 2 then anchorFrom new.rate (ref.beat + 1) else ln.anchor
                  nextPoint := if x.has 2 then some n else ln.nextPoint }
              | .nextBeat => { ln with settings := atOnce, staged := some ⟨x.staged old, false, ref.beat + 1⟩ }
              | .nextBar => { ln with settings := atOnce, staged := some ⟨x.staged old, true, ref.beat + 1⟩ } : Lane)
          with owner := owner }))

/-- R96, R110, R121, R160: a Lane Enable on each state of a lane that its sender may use, and its checks. The activation
point of a NOW lane of rate PER_BEAT is the lowest point of the rate strictly beyond the reference (R132). It is found from
the reference formed at the taking (log entry 19), and a bar start is waited for beat by beat (log entry 18). -/
def Obligations.LaneEnableArmsALane : Prop :=
  ∀ (s : State) (st : Station) (tag flags : Byte) (l : LaneId) (code : BitVec 16),
    (s.link st).present = true → (s.lane l).owner = none ∨ (s.lane l).owner = some st →
    canTake st 0x0E tag (BitVec.ofNat 8 l.val :: flags :: be2 code.toNat) s →
    let ln := s.lane l
    let x := ln.settings
    let s1 := afterTaking st s
    let ends := fun (u : State) (r : ResultCode) (detail : Nat) =>
      exec (.laneEnable st tag (BitVec.ofNat 8 l.val :: flags :: be2 code.toNat)) s =
        .next (placeReply st 0x0E tag (.answer r (BitVec.ofNat 8 detail)) u)
    (x.target = .none → ends s1 .badField l.val) ∧
    (∀ (p : PinId) (m : LaneId), x.kind = .pin → x.target = .pin p → m ≠ l → holdsPin s m p →
      (∀ k : LaneId, k < m → k ≠ l → ¬ holdsPin s k p) → ends s1 .pinTaken m.val) ∧
    (x.target ≠ .none → (∀ p m, x.kind = .pin → x.target = .pin p → m ≠ l → ¬ holdsPin s m p) →
      (ln.state = .off → ∃ a, ArmedAt s.grid x a ∧
        let armed : Lane := { ln with
          state := .arming
          activation := a
          owed := match s.tc.state, s.tc.pending with
            | .starting, some p => some ⟨p.kind, some p.boundary⟩
            | .playing, _ => some ⟨.start, none⟩
            | _, _ => none }
        (∀ p, x.kind = .pin → x.target = .pin p → ends ((s1.setLane l armed).setPin p
          { s.pin p with function := .lane, level := false, source := none, timing := false, activeUntil := none })
          .ok l.val) ∧
        (x.kind ≠ .pin → ends (s1.setLane l armed) .ok l.val)) ∧
      (ln.state = .arming → ends s1 .noChange l.val) ∧
      (ln.state = .active → ln.disable = none → ends s1 .noChange l.val) ∧
      (ln.state = .active → ln.disable.isSome → ends (s1.setLane l { ln with disable := none }) .ok l.val))

/-- R112, R122, R151, R160, R170: every row of the Lane Disable table, and a disable's effect on each kind of target. That a
NEXT_BAR waits as the next beat with a flag is log entry 18, and that the lane's reference is formed from the state at the
taking is log entry 19. -/
def Obligations.LaneDisableFollowsItsTable : Prop :=
  ∀ (s : State) (st : Station) (tag ap flags : Byte) (l : LaneId) (code : BitVec 16),
    (s.link st).present = true → (s.lane l).owner = none ∨ (s.lane l).owner = some st →
    canTake st 0x0F tag (BitVec.ofNat 8 l.val :: ap :: flags :: be2 code.toNat) s →
    let ln := s.lane l
    let s1 := afterTaking st s
    let ends := fun (u : State) (r : ResultCode) =>
      exec (.laneDisable st tag (BitVec.ofNat 8 l.val :: ap :: flags :: be2 code.toNat)) s =
        .next (placeReply st 0x0F tag (.answer r (BitVec.ofNat 8 l.val)) u)
    let off := s1.setLane l (laneAfterDisable ln)
    (3 ≤ ap.toNat → ends s1 .badField) ∧
    (ap.toNat ≤ 2 → ln.state = .off → ends s1 .noChange) ∧
    (ap.toNat ≤ 2 → ln.state = .arming ∨ ln.state = .active ∧ ap = 0 →
      (∀ p, ln.settings.kind = .pin → ln.settings.target = .pin p → ends (off.setPin p
        { s.pin p with function := .level, level := false, timing := false, activeUntil := none }) .ok) ∧
      (∀ p, ln.settings.kind = .stream → ln.settings.target = .port p →
        ends (if ln.emittedPlaying then off.setPort p (portTransport ln.settings.codes.stop (s.port p)) else off) .ok) ∧
      (ln.settings.kind = .notice → ends off .ok)) ∧
    (ap = 1 ∨ ap = 2 → ln.state = .active →
      ends (s1.setLane l { ln with
        disable := some ⟨decide (ap = 2), (reference s.grid ln.settings.offset).beat + 1⟩ })
        (if ln.disable.isSome then .replaced else .ok))

/-- R108, R111, R112, R120, R122, R137, R160, R170: a lane whose reference has reached its activation point, be it a beat
start or a point of rate PER_BEAT inside a beat, the boundary of its staged part, whatever settings that holds, or that of
its pending disable, of beat or bar, on each kind of target; of two boundaries the earlier is taken, and at one beat the
staged part first; a bar boundary at a beat that is no bar start; and a reference before all its items. The moments as
commands of their own are the model's (log entry 8), both of one beat are taken at once (log entry 21), a bar boundary is
tested beat by beat (log entry 18), a carried rate moves the anchor (log entry 42), and the points of an anchor 2^31 beats
back are log entry 45. A bar disable at the beat of a staged part, that beat being no bar start, keeps its boundary (log
entry 49). -/
def Obligations.LaneMomentsAtTheirBoundaries : Prop :=
  ∀ (s : State) (l : LaneId) (b : Beat), s.phase = .running → s.grid.state ≠ .unset →
    let ln := s.lane l
    let ref := reference s.grid ln.settings.offset
    let open' := fun (bar : Bool) => bar = false ∨ isBarStart s.grid b = true
    (ln.state = .arming → RateOk ln.settings.kind ln.settings.rate → ref.atOrBeyond (Pos.beatStart b) = true →
      ln.activation = some (.position (Pos.beatStart b)) ∨
        ln.activation = some (.barStart b) ∧ isBarStart s.grid b = true →
      exec (.laneActivation l) s = .next (s.setLane l { ln with
        state := .active, activation := none, nextPoint := some ⟨b, 0, 0⟩
        anchor := anchorFrom ln.settings.rate b })) ∧
    (∀ (p : Nat) (n : NextPoint), ln.state = .arming → ln.settings.rate = .perBeat p →
      PointFrom false ln.settings p (pointPos n) n → ref.atOrBeyond (pointPos n) = true →
      ln.activation = some (.position (pointPos n)) →
      exec (.laneActivation l) s = .next (s.setLane l { ln with
        state := .active, activation := none, nextPoint := some n, anchor := none })) ∧
    (∀ p bar x, ln.state = .active → ln.staged = some ⟨p, bar, b⟩ → ref.atOrBeyond (Pos.beatStart b) = true →
      nextPointFrom ln b → x = settledSwing (applyPatch p ln.settings) → RateOk x.kind x.rate →
      (open' bar → (∀ d, ln.disable = some d → liesBeyond d.beat b ∨ d.beat = b ∧ ¬ open' d.bar) →
        ∃ n, (match x.rate, p.rate, ln.anchor with
            | .every q, none, some a => EveryFrom q a b n
            | _, _, _ => n = ⟨b, 0, 0⟩) ∧
          exec (.stagedPartApply l) s = .next (s.setLane l { ln with
            settings := x
            staged := none
            anchor := if p.rate.isSome then anchorFrom x.rate b else
              match x.rate with
              | .every _ => ln.anchor
              | _ => none
            nextPoint := some n })) ∧
      (∀ w, open' bar → open' w → ln.disable = some ⟨w, b⟩ →
        exec (.stagedPartApply l) s = .next (targetAfterDisable { ln with settings := x }
          (s.setLane l (laneAfterDisable { ln with settings := x })))) ∧
      ((∀ d, ln.disable = some d → liesBeyond d.beat b ∨ d.beat = b) →
        exec (.pendingDisableEffect l) s = .next s)) ∧
    (∀ bar, ln.state = .active → ln.disable = some ⟨bar, b⟩ →
      (∀ sp, ln.staged = some sp → liesBeyond sp.boundary.beat b) →
      ref.atOrBeyond (Pos.beatStart b) = true → nextPointFrom ln b →
      (open' bar →
        exec (.pendingDisableEffect l) s = .next (targetAfterDisable ln (s.setLane l (laneAfterDisable ln)))) ∧
      exec (.stagedPartApply l) s = .next s) ∧
    (ln.state = .arming → ln.activation = some (.barStart b) → isBarStart s.grid b = false →
      exec (.laneActivation l) s = .next s) ∧
    (∀ p, ln.state = .active → ln.staged = some ⟨p, true, b⟩ → isBarStart s.grid b = false →
      exec (.stagedPartApply l) s = .next s) ∧
    (ln.state = .active → ln.disable = some ⟨true, b⟩ → isBarStart s.grid b = false →
      exec (.pendingDisableEffect l) s = .next s) ∧
    (nextItem ref ln = none →
      exec (.laneActivation l) s = .next s ∧ exec (.stagedPartApply l) s = .next s ∧
        exec (.pendingDisableEffect l) s = .next s)

/-- R94, R95, R128 to R134, R136 to R142: what one step of an ACTIVE lane's walk does with its next point, a staged part
and a pending disable still lying ahead. The lane's reference is the house position ahead by its offset, or the house
position itself for an offset above 0. A point the reference has not reached stays; a reached candidate of rate PER_BAR
that is no bar start is passed; any other is issued: its record joins the queue, its due frame never before the tail's, or
is merged into the tail of a full queue, and it takes the owed mark that it satisfies. The next point is the rate's, its
fraction that of R128, or of R129 where swing applies. The walk then goes on with the lane so changed. -/
def Obligations.WalkIssuesPoints : Prop :=
  ∀ (g : Grid) (count : Frame) (fuel : Nat) (ln : Lane) (n : NextPoint), ln.state = .active → ln.nextPoint = some n →
    let x := ln.settings
    let lead := x.offset.natAbs * g.appliedInc
    let ref : Pos := if 0 < x.offset then g.pos
      else ⟨g.pos.beat + BitVec.ofNat 32 ((g.pos.frac.toNat + lead) / 4294967296), g.pos.frac + BitVec.ofNat 32 lead⟩
    let boundaries : List LaneBoundary := (ln.staged.map Staged.boundary).toList ++ ln.disable.toList
    let passed := x.rate = .perBar ∧ isBarStart g n.beat = false
    let fraction := fun (p k : Nat) => if p % 2 = 0 ∧ p ≤ 8 ∧ k % 2 = 1 then
        BitVec.ofNat 32 (4294967296 * (100 * (k - 1) + 2 * x.swing) / (100 * p))
      else BitVec.ofNat 32 (4294967296 * k / p)
    let next : NextPoint := match x.rate with
      | .perBeat p => if n.index + 1 < p then ⟨n.beat, n.index + 1, fraction p (n.index + 1)⟩ else ⟨n.beat + 1, 0, 0⟩
      | .every q => ⟨n.beat + BitVec.ofNat 32 q, 0, 0⟩
      | .perBar => ⟨n.beat + 1, 0, 0⟩
    let takes := match ln.owed with
      | none => false
      | some ⟨_, none⟩ => true
      | some ⟨_, some b⟩ => (pointPos n).atOrBeyond (Pos.beatStart b)
    let mark := if takes then ln.owed.map Owed.kind else none
    let issued : PointRecord :=
      ⟨if 0 < x.offset then count + BitVec.ofNat 32 x.offset.toNat else count,
        decide (n.frac = 0), decide (n.frac = 0) && isBarStart g n.beat, mark, 1⟩
    let goes := fun (q : List PointRecord) => walk g count (fuel + 1) ln = walk g count fuel { ln with
      nextPoint := some next, queue := q, owed := if takes then none else ln.owed
      playing := viewOf ln.playing mark }
    (ref.atOrBeyond (pointPos n) = false → (∀ d ∈ boundaries, ref.atOrBeyond (Pos.beatStart d.beat) = false) →
      walk g count (fuel + 1) ln = ⟨ln, none⟩) ∧
    (ref.atOrBeyond (pointPos n) = true → (∀ d ∈ boundaries, ref.atOrBeyond (Pos.beatStart d.beat) = false ∨
        (pointPos n).atOrBeyond (Pos.beatStart d.beat) = false) →
      (passed → walk g count (fuel + 1) ln = walk g count fuel { ln with nextPoint := some next }) ∧
      (¬ passed →
        (ln.queue = [] → goes [issued]) ∧
        (∀ q last, ln.queue = q ++ [last] → q.length < 63 →
          goes (q ++ [last, if 1 ≤ (last.due - issued.due).toNat ∧ (last.due - issued.due).toNat ≤ 2147483647 then
            { issued with due := last.due } else issued])) ∧
        (∀ q last, ln.queue = q ++ [last] → 63 ≤ q.length →
          goes (q ++ [⟨last.due, last.beatFlag || issued.beatFlag, last.barFlag || issued.barFlag,
            if mark.isSome then mark else last.mark, if last.count < 255 then last.count + 1 else 255⟩]))))

/-- R108, R110 to R112, R120, R136, R137: what one step of a walk does with the other items that the reference has reached:
an activation point, a beat start or a point of rate PER_BEAT inside a beat, a staged part, and a pending disable; of two
boundaries the earlier is taken, and at one beat the staged part first, then the disable; a bar boundary at a beat that is
no bar start waits for the next beat (log entry 18). A disable that took effect ends the walk and tells the emitted view it
ended; both of one beat are taken there, whatever the staged offset does to the reference (log entry 21); the next point
set anew is the first of the rule's words (log entry 20); a carried rate moves the anchor (log entry 42); and the points of
an anchor 2^31 beats back are log entry 45. A bar disable at the beat of a staged part, that beat being no bar start, keeps
its boundary (log entry 49). -/
def Obligations.WalkServesBoundaries : Prop :=
  ∀ (g : Grid) (count : Frame) (fuel : Nat) (ln : Lane) (b : Beat),
    let ref := reference g ln.settings.offset
    let met := fun (bar : Bool) => bar = false ∨ isBarStart g b = true
    let goes := fun (x : Lane) => walk g count (fuel + 1) ln = walk g count fuel x
    let activated : Lane := { ln with
      state := .active, activation := none, nextPoint := some ⟨b, 0, 0⟩, anchor := anchorFrom ln.settings.rate b }
    let applied := fun (p : Patch) (x : Settings) (n : NextPoint) => ({ ln with
      settings := x
      staged := none
      anchor := if p.rate.isSome then anchorFrom x.rate b else
        match x.rate with
        | .every _ => ln.anchor
        | _ => none
      nextPoint := some n } : Lane)
    (nextItem ref ln = none → walk g count fuel ln = ⟨ln, none⟩) ∧
    (∀ (p : Nat) (n : NextPoint), ln.state = .arming → ln.settings.rate = .perBeat p →
      PointFrom false ln.settings p (pointPos n) n → ref.atOrBeyond (pointPos n) = true →
      ln.activation = some (.position (pointPos n)) →
      goes { ln with state := .active, activation := none, nextPoint := some n, anchor := none }) ∧
    (ref.atOrBeyond (Pos.beatStart b) = true →
      (ln.state = .arming → RateOk ln.settings.kind ln.settings.rate →
        (ln.activation = some (.position (Pos.beatStart b)) → goes activated) ∧
        (ln.activation = some (.barStart b) →
          goes (if isBarStart g b then activated else { ln with activation := some (.barStart (b + 1)) }))) ∧
      (∀ p bar x, ln.state = .active → nextPointFrom ln b → ln.staged = some ⟨p, bar, b⟩ →
        x = settledSwing (applyPatch p ln.settings) → RateOk x.kind x.rate →
        (met bar → (∀ d, ln.disable = some d → liesBeyond d.beat b ∨ d.beat = b ∧ ¬ met d.bar) →
          ∃ n, (match x.rate, p.rate, ln.anchor with
              | .every q, none, some a => EveryFrom q a b n
              | _, _, _ => n = ⟨b, 0, 0⟩) ∧ goes (applied p x n)) ∧
        (∀ w, met bar → met w → ln.disable = some ⟨w, b⟩ →
          walk g count (fuel + 1) ln = ⟨laneAfterDisable { ln with settings := x }, some ln.emittedPlaying⟩) ∧
        (¬ met bar → (∀ d, ln.disable = some d → liesBeyond d.beat b ∨ d.beat = b) →
          goes { ln with staged := some ⟨p, bar, b + 1⟩ })) ∧
      (∀ bar, ln.state = .active → nextPointFrom ln b → ln.disable = some ⟨bar, b⟩ →
        (∀ sp, ln.staged = some sp → liesBeyond sp.boundary.beat b) →
        (met bar → walk g count (fuel + 1) ln = ⟨laneAfterDisable ln, some ln.emittedPlaying⟩) ∧
        (¬ met bar → goes { ln with disable := some ⟨bar, b + 1⟩ })))


/-- R136, R143 to R146, R151: on a frame event every lane walks, and the head of its queue is emitted if it is due, the
catch-up spacing has passed and a PULSE has ended; the record keeps its further points as plain ones. In UNSET no lane
walks or emits. R112, R160, R170: where the walk reached the lane's pending disable, its pin is LEVEL and INACTIVE, and the
port it has to itself is given the stop code if the emitted view was PLAYING. -/
def Obligations.EmissionsArePaced : Prop :=
  ∀ (s t : State) (o : FrameOrder) (l : LaneId), Safe s → s.phase = .running → exec (.frameEvent o) s = .next t →
    (s.grid.state = .unset → t.lane l = lastEmissionExpire t.fru.count (s.lane l)) ∧
    (s.grid.state ≠ .unset →
      let w := walkedOn t (s.lane l)
      (w.queue = [] → t.lane l = w) ∧
      (∀ r rest, w.queue = r :: rest →
        (¬ Emits t.fru.count w r s.pin → t.lane l = w) ∧
        (Emits t.fru.count w r s.pin → t.lane l = { w with
          queue := (if 1 < r.count then [⟨r.due, false, false, none, r.count - 1⟩] else []) ++ rest
          lastEmission := some t.fru.count
          emittedPlaying := viewOf w.emittedPlaying r.mark })) ∧
      ((s.lane l).state ≠ .off → w.state = .off →
        (∀ p, w.settings.kind = .pin → w.settings.target = .pin p →
          t.pin p = ⟨.level, false, (s.pin p).polarity, none, false, none⟩) ∧
        (∀ p, w.settings.kind = .stream → w.settings.target = .port p →
          (∀ m, m ≠ l → (s.lane m).state ≠ .off → (s.lane m).settings.target ≠ .port p) →
          t.port p = if (s.lane l).emittedPlaying then portTransport w.settings.codes.stop (s.port p) else s.port p)))

/-- R155 to R159: what an emission of a PIN lane does at its pin, by waveform; play-only suppresses a plain point while the
emitted view is STOPPED, and RUN heeds marks alone. Whether the pin's timer end comes before or after the emission is the
operand of the frame event (R156; log entry 9). -/
def Obligations.PinEmissionsDriveThePin : Prop :=
  ∀ (s t : State) (o : FrameOrder) (l : LaneId) (p : PinId), Safe s → s.phase = .running → s.grid.state ≠ .unset →
    exec (.frameEvent o) s = .next t →
    let w := walkedOn t (s.lane l)
    let x := w.settings
    x.kind = .pin → x.target = .pin p → ∀ r rest, w.queue = r :: rest → Emits t.fru.count w r s.pin →
    let ends := fun (y : Pin) => timerEnd t.fru.count y
    let late := decide (p ∈ o.latePins)
    let y := if late then activeUntilExpire t.fru.count (s.pin p) else ends (activeUntilExpire t.fru.count (s.pin p))
    let quiet := x.playOnly = true ∧ viewOf w.emittedPlaying r.mark = false ∧ r.mark = none
    let spacing := spacingOf t.grid x.rate
    let width := if r.barFlag then x.accent.getD x.width else x.width
    let pulse := fun (frames : Nat) => ({ y with
      level := true, timing := true, activeUntil := some (t.fru.count + BitVec.ofNat 32 frames) } : Pin)
    let becomes := fun (z : Pin) => t.pin p = if late then ends z else z
    (quiet → becomes y) ∧
    (¬ quiet → x.waveform = .pulse → becomes (pulse (min width (spacing / 2)))) ∧
    (¬ quiet → x.waveform = .gate → becomes (pulse (spacing / 2))) ∧
    (¬ quiet → x.waveform = .toggle → becomes { y with level := !y.level, timing := false }) ∧
    (¬ quiet → x.waveform = .run → r.mark = none → becomes y) ∧
    (∀ k, x.waveform = .run → r.mark = some k → becomes { y with level := decide (k ≠ .stop), timing := false })

/-- R165 to R168, R173, R188, R202: what an emission of a STREAM lane that has its port to itself enqueues: the mark's code,
the bar code, then the tick, each by the port's rule; and the Beat Notice an emission of a NOTICE lane that has its station
to itself places, on a frame event that crosses no beat. That codes in a FIFO are told apart as ticks is log entry 44, and
that a Beat Notice has no meter is log entry 48. -/
def Obligations.StreamAndNoticeEmissions : Prop :=
  (∀ (s t : State) (o : FrameOrder) (l : LaneId), Safe s → s.phase = .running → s.grid.state ≠ .unset →
    exec (.frameEvent o) s = .next t →
    let w := walkedOn t (s.lane l)
    let x := w.settings
    ∀ r rest, w.queue = r :: rest → Emits t.fru.count w r s.pin →
    let on := viewOf w.emittedPlaying r.mark
    let quiet := x.playOnly = true ∧ on = false ∧ r.mark = none
    (∀ p : PortId, x.kind = .stream → x.target = .port p →
      (∀ m, m ≠ l → (s.lane m).state ≠ .off → (s.lane m).settings.target ≠ .port p) →
      let marked : Port := match r.mark with
        | none => s.port p
        | some .start => portTransport x.codes.start (s.port p)
        | some .stop => portTransport x.codes.stop (s.port p)
        | some .cont => portTransport x.codes.cont (s.port p)
      let barred : Port := match r.barFlag, x.barCode with
        | true, some c => portBar c marked
        | _, _ => marked
      t.port p = if quiet then s.port p
        else if x.playOnly = true ∧ on = false then barred else portTick x.codes.tick barred) ∧
    (∀ st : Station, x.kind = .notice → x.target = .station st → s.fru.switch = .none →
      (∀ m, m ≠ l → (s.lane m).state ≠ .off → (s.lane m).settings.target ≠ .station st) →
      s.grid.pos.frac.toNat + s.grid.appliedInc < 4294967296 → (s.link st).countdown ≠ some 1 →
      let notice : BeatNotice := ⟨l, t.grid.pos.beat, t.grid.beatInBar, t.grid.barCount, t.tc.songBar, t.grid.base,
        r.mark, r.beatFlag, r.barFlag, 0⟩
      let k := if quiet ∨ (s.link st).present = false then s.link st else placeBeat notice (s.link st)
      (t.link st).txQueue = k.txQueue ∧ (t.link st).sending = k.sending)) ∧
  (∀ (p : Port) (c : Byte), p.sending.isSome →
    (p.fifo.length ≤ 13 → p.owedTicks = 0 → portTick c p = { p with fifo := p.fifo ++ [⟨c, true⟩] }) ∧
    (13 < p.fifo.length ∨ p.owedTicks ≠ 0 → portTick c p = { p with
      owedTicks := if p.owedTicks < 255 then p.owedTicks + 1 else 255, owedTick := some c }) ∧
    (p.owedTicks = 0 → p.fifo.length ≤ 15 → portTransport c p = { p with fifo := p.fifo ++ [⟨c, false⟩] }) ∧
    (p.owedTicks = 0 → 15 < p.fifo.length → portTransport c p = { p with lost := true }) ∧
    (p.owedTicks ≠ 0 → portTransport c p = { p with held := some c }) ∧
    (p.fifo.length ≤ 15 → portBar c p = { p with fifo := p.fifo ++ [⟨c, false⟩] }) ∧
    (15 < p.fifo.length → portBar c p = p)) ∧
  (∀ (p : Port) (c : Byte), p.sending = none → p.fifo = [] → p.owedTicks = 0 → p.owedTick = none → p.held = none →
    let sent : Port := { p with sending := some ⟨c, p.rate⟩ }
    portTick c p = sent ∧ portTransport c p = sent ∧ portBar c p = sent)

/-! ### Pins and ports (chapter 8) -/

/-- R162: every check of a Pin Set, and the items it writes. -/
def Obligations.PinSetWritesAPin : Prop :=
  ∀ (s : State) (st : Station) (tag i fn lv po src sn : Byte), canTake st 0x11 tag [i, fn, lv, po, src, sn] s →
    let ends := fun (u : State) (r : ResultCode) (detail : Nat) =>
      exec (.pinSet st tag [i, fn, lv, po, src, sn]) s =
        .next (placeReply st 0x11 tag (.answer r (BitVec.ofNat 8 detail)) u)
    let s1 := afterTaking st s
    ((s.link st).present = false → ends s1 .noChange 0) ∧
    ((s.link st).present = true → 8 ≤ i.toNat → ends s1 .badField 0) ∧
    ((s.link st).present = true → ∀ p : PinId, p.val = i.toNat →
      let pin := s.pin p
      (∀ l, pin.function = .lane → holdsPin s l p → (∀ m, m < l → ¬ holdsPin s m p) → ends s1 .pinTaken l.val) ∧
      (pin.function ≠ .lane →
        (1 < po.toNat ∨ fn ≠ 1 ∧ fn ≠ 2 ∨ fn = 1 ∧ 1 < lv.toNat ∨
            fn = 2 ∧ (7 < src.toNat ∨ src = 6 ∧ 3 < sn.toNat) → ends s1 .badField 0) ∧
        (∀ (pol : Polarity) (on : Bool), po = polarityByte pol → fn = 1 → lv = flagByte on →
          if pin.function = .level ∧ pin.level = on ∧ pin.polarity = pol ∧ pin.source = none then ends s1 .noChange p.val
          else ends (s1.setPin p ⟨.level, on, pol, none, false, none⟩) .ok p.val) ∧
        (∀ (pol : Polarity) (x : Source), po = polarityByte pol → fn = 2 → [src, sn] = (match x with
            | .beat => [0, sn] | .bar => [1, sn] | .leadHeld => [2, sn] | .holdover => [3, sn]
            | .externalRef => [4, sn] | .seizeFailed => [5, sn] | .linkActivity k => [6, BitVec.ofNat 8 k.val]
            | .playing => [7, sn]) →
          if pin.function = .indicator ∧ pin.polarity = pol ∧ pin.source = some x then ends s1 .noChange p.val
          else ends (s1.setPin p ⟨.indicator, (match x with
            | .leadHeld => s.lead.holder.isSome
            | .holdover => decide (s.grid.state = .holdover)
            | .externalRef => decide (s.fru.state = .external)
            | .seizeFailed => s.lead.latch.isSome
            | .playing => decide (s.tc.state = .playing ∨ s.tc.state = .stopping)
            | _ => false), pol, some x, false, none⟩) .ok p.val)))

/-- R171: every check of a Port Set, and the rate it writes; a character being sent keeps its rate. -/
def Obligations.PortSetWritesTheRate : Prop :=
  ∀ (s : State) (st : Station) (tag i r : Byte), canTake st 0x12 tag [i, r] s →
    let ends := fun (u : State) (code : ResultCode) (detail : Nat) =>
      exec (.portSet st tag [i, r]) s = .next (placeReply st 0x12 tag (.answer code (BitVec.ofNat 8 detail)) u)
    let s1 := afterTaking st s
    let uses := fun (l : LaneId) (p : PortId) =>
      (s.lane l).state ≠ .off ∧ (s.lane l).settings.kind = .stream ∧ (s.lane l).settings.target = .port p
    ((s.link st).present = false → ends s1 .noChange 0) ∧
    ((s.link st).present = true → 4 ≤ i.toNat → ends s1 .badField 0) ∧
    ((s.link st).present = true → ∀ p : PortId, p.val = i.toNat →
      (∀ l, uses l p → (∀ m, m < l → ¬ uses m p) → ends s1 .portTaken l.val) ∧
      ((∀ l, ¬ uses l p) →
        (4 ≤ r.toNat → ends s1 .badField 0) ∧
        (∀ x, r = portRateByte x →
          if x = (s.port p).rate then ends s1 .noChange p.val
          else ends (s1.setPort p { s.port p with rate := x }) .ok p.val)))

/-- R164, R169, R171: at the end of a character the head code leaves at the port's rate, then an owed tick enters where the
FIFO holds 13 codes or fewer, then, with no tick owed, the held code. -/
def Obligations.CharacterEndLeavesAndDrains : Prop :=
  ∀ (s : State) (p : PortId), s.phase = .running →
    let x := s.port p
    (x.sending = none → exec (.portCharacterEnd p) s = .next s) ∧
    (x.sending.isSome → x.fifo = [] → exec (.portCharacterEnd p) s = .next (s.setPort p { x with sending := none })) ∧
    (∀ c rest, x.sending.isSome → x.fifo = c :: rest →
      (x.owedTicks = 0 → exec (.portCharacterEnd p) s = .next (s.setPort p { x with
        sending := some ⟨c.code, x.rate⟩, fifo := rest ++ x.held.toList.map fun h => ⟨h, false⟩, held := none })) ∧
      (∀ t n, x.owedTicks = n + 1 → x.owedTick = some t → rest.length ≤ 13 →
        exec (.portCharacterEnd p) s = .next (s.setPort p { x with
          sending := some ⟨c.code, x.rate⟩
          fifo := rest ++ [⟨t, true⟩] ++ (if n = 0 then x.held.toList.map fun h => ⟨h, false⟩ else [])
          owedTicks := n
          owedTick := if n = 0 then none else some t
          held := if n = 0 then none else x.held })) ∧
      (0 < x.owedTicks → 13 < rest.length → exec (.portCharacterEnd p) s = .next (s.setPort p { x with
        sending := some ⟨c.code, x.rate⟩, fifo := rest })))

/-! ### Links and requests (chapters 9 and 10) -/

/-- R185, R183: a Presence sets the sender's window, clamped, and reloads its countdown. -/
def Obligations.PresenceSetsTheWindow : Prop :=
  ∀ (s : State) (st : Station) (tag hi lo : Byte), canTake st 0x01 tag [hi, lo] s →
    let sent := hi.toNat * 256 + lo.toNat
    let w := min 2000 (max 100 sent)
    let s1 := afterTaking st s
    ((s.link st).present = false → exec (.presence st tag [hi, lo]) s =
      .next (placeReply st 0x01 tag (.answer .noChange 0) s1)) ∧
    ((s.link st).present = true → exec (.presence st tag [hi, lo]) s =
      .next (placeReply st 0x01 tag (.answer (if w ≠ sent then .clamped else
        if w = (s.link st).windowMs then .noChange else .ok) 0)
        (s1.setLink st { s1.link st with windowMs := w, countdown := some (48 * w) })))

/-- R198 to R200, R196: a Query changes nothing but what its topic clears, and its Report of at most 40 bytes opens with
the topic, the index, the part and the part count, then the contents of R26, R87 with R47, R103, R124 with R150, R172,
R163, R46, R190, R37 or R208. What a report leaves to inference is log entries 26 to 28; that a lane that waits for a bar
start shows the first one under the numbering in force is log entry 18. -/
def Obligations.QueryReports : Prop :=
  ∀ (s : State) (st : Station) (tag a i part : Byte), canTake st 0x02 tag [a, i, part] s →
    let s1 := afterTaking st s
    let refused := fun (r : ResultCode) (detail : Byte) =>
      exec (.query st tag [a, i, part]) s = .next (placeReply st 0x02 tag (.answer r detail) s1)
    let reports := fun (index parts : Byte) (body : List Byte) (u : State) => body.length ≤ 34 ∧
      exec (.query st tag [a, i, part]) s = .next (placeReply st 0x02 tag (.report ([a, index, part, parts] ++ body)) u)
    let terms := fun (t : Terms) => [modeByte t.mode, BitVec.ofNat 8 t.followGlide] ++ be2 t.deadBand ++
      [BitVec.ofNat 8 t.gain, alignByte t.align] ++ be3 (t.tempo.getD 0)
    let entry := fun (e : Option LeadEntry) => match e with
      | some e => stationByte e.station :: terms e.terms
      | none => 0xFF :: List.replicate 9 0
    let latch : List Byte := match s.lead.latch with
      | some x => [1, stationByte x.station, x.kind, BitVec.ofNat 8 x.count]
      | none => [0, 0, 0, 0]
    let record := fun (j : Station) => be2 (s.follower j).runCount ++ be1 (s.follower j).history.length ++
      optional 4 be32 (s.follower j).lastStamp ++ optional 3 be3 (s.follower j).estimate
    let horizonIs := fun (h : Nat) =>
      let ahead := fun (l : LaneId) (x : Nat) => (s.lane l).state ≠ .off ∧ (s.lane l).settings.offset ≤ 0 ∧
        x = (s.lane l).settings.offset.natAbs * s.grid.appliedInc
      (∀ l x, ahead l x → x ≤ h) ∧ (h = 0 ∨ ∃ l, ahead l h)
    let boundary := fun (d : LaneBoundary) => (if d.bar then (2 : Byte) else 1) ::
      be32 (if d.bar then firstBarFrom s.grid d.beat else d.beat)
    let g := s.grid
    let cleared : State := showSource .seizeFailed { s1 with lead := { s.lead with latch := none } }
    ((s.link st).present = false → refused .noChange 0) ∧
    ((s.link st).present = true →
      (9 < a.toNat ∨ a = 3 ∧ 15 < i.toNat ∨ a = 4 ∧ 3 < i.toNat ∨ a = 5 ∧ 7 < i.toNat ∨ a = 6 ∧ 1 < i.toNat →
        refused .badField 0) ∧
      (a = 0 → 2 ≤ part.toNat → refused .badField 2) ∧
      (a = 0 → part = 0 → reports 0 2 ([gridByte g.state] ++ be32 g.pos.beat ++ be32 g.pos.frac ++ be3 g.base ++
        be3 g.baseInc ++ be3 g.appliedInc ++ be1 g.meter ++ be1 (g.pendingMeter.getD 0) ++ be32 g.barStart ++
        be1 g.beatInBar ++ be32 g.barCount) s1) ∧
      (a = 0 → part = 1 → reports 0 2 ((match g.glide with
          | some x => 1 :: (be3 x.start ++ be3 x.target ++ be1 x.length ++ be1 x.steps)
          | none => List.replicate 9 0) ++ (match g.trim with
          | .none => 0 :: List.replicate 6 0
          | .armed d => 1 :: (List.replicate 3 0 ++ beSigned3 d)
          | .applied p => 2 :: (beSigned3 p ++ List.replicate 3 0)
          | .appliedArmed p d => 3 :: (beSigned3 p ++ beSigned3 d))) s1) ∧
      (a = 1 → 4 ≤ part.toNat → refused .badField 4) ∧
      (a = 1 → part = 0 → reports 0 4 (latch ++ entry s.lead.holder ++
        optional 4 beSigned4 (s.lead.holder.bind fun h => (s.follower h.station).phaseError) ++
        (match s.lead.handover with
          | some w => [1, stationByte w.station, alignByte w.align, flagByte w.startWait] ++ terms w.terms
          | none => List.replicate 13 0) ++ [if s.lead.code = 0 then 0 else 1]) cleared) ∧
      (a = 1 → part = 1 → reports 0 4 (latch ++ entry s.lead.queue[0]? ++ entry s.lead.queue[1]? ++
        entry s.lead.queue[2]?) cleared) ∧
      (a = 1 → part = 2 → reports 0 4 (latch ++ record 0 ++ record 1) cleared) ∧
      (a = 1 → part = 3 → reports 0 4 (latch ++ record 2 ++ record 3) cleared) ∧
      (a = 2 → part ≠ 0 → refused .badField 1) ∧
      (a = 2 → part = 0 → ∃ h, horizonIs h ∧ reports 0 1 ([transportByte s.tc.state] ++
        optional 6 (fun p => [kindByte p.kind, quantumByte p.quantum] ++ be32 p.boundary) s.tc.pending ++
        be32 s.tc.songBar ++ be4 h) s1) ∧
      (∀ l : LaneId, a = 3 → l.val = i.toNat →
        let ln := s.lane l
        let x := ln.settings
        (4 ≤ part.toNat → refused .badField 4) ∧
        (part = 0 → reports i 4 ([laneKindByte x.kind, targetByte x.target] ++ rateBytes x.rate ++ be1 x.swing ++
          beSigned2 x.offset ++ [alignByte x.align, waveformByte x.waveform] ++ be2 x.width ++ be2 (x.accent.getD 0) ++
          [polarityByte x.polarity, flagByte x.playOnly] ++ be1 x.spacing ++
          [x.codes.tick, x.codes.start, x.codes.stop, x.codes.cont] ++ optional 1 (fun c => [c]) x.barCode) s1) ∧
        (part = 1 → reports i 4 ([stationOpt ln.owner, laneStateByte ln.state] ++ (match ln.activation with
            | some (.position p) => 1 :: (be32 p.beat ++ be32 p.frac)
            | some (.barStart b) => 1 :: (be32 (firstBarFrom g b) ++ be32 0)
            | none => List.replicate 9 0) ++ optional 4 be32 ln.anchor ++ optional 5 boundary ln.disable) s1) ∧
        (part = 2 → reports i 4 (optional 29 (fun sp : Staged =>
          be2 (patchMask sp.patch) ++ boundary sp.boundary ++ patchBytes sp.patch) ln.staged) s1) ∧
        (part = 3 → reports i 4 (optional 5 (fun n : NextPoint => be32 n.beat ++ be1 n.index) ln.nextPoint ++
          be1 ln.queue.length ++ be2 (ln.queue.map PointRecord.count).sum ++
          optional 4 (fun r : PointRecord => be32 r.due) ln.queue.head? ++ optional 4 be32 ln.lastEmission ++
          [flagByte ln.playing, flagByte ln.emittedPlaying] ++ (match ln.owed with
            | some ⟨k, some b⟩ => [markByte (some k), 1] ++ be32 b
            | some ⟨k, none⟩ => [markByte (some k), 0, 0, 0, 0, 0]
            | none => List.replicate 6 0)) s1)) ∧
      (∀ p : PortId, a = 4 → p.val = i.toNat →
        let x := s.port p
        (part ≠ 0 → refused .badField 1) ∧
        (part = 0 → ∃ users, reports i 1 ([portRateByte x.rate, flagByte x.sending.isSome] ++ be1 x.fifo.length ++
          be1 x.owedTicks ++ optional 1 (fun c => [c]) x.owedTick ++ optional 1 (fun c => [c]) x.held ++
          [flagByte x.lost] ++ be2 users) (s1.setPort p { x with lost := false }) ∧
          ∀ l : LaneId, users.testBit l.val = decide ((s.lane l).state ≠ .off ∧ (s.lane l).settings.kind = .stream ∧
            (s.lane l).settings.target = .port p))) ∧
      (∀ p : PinId, a = 5 → p.val = i.toNat →
        let x := s.pin p
        (part ≠ 0 → refused .badField 1) ∧
        (part = 0 → ∀ (holder : Option LaneId), (∀ l, holder = some l ↔ x.function = .lane ∧ holdsPin s l p) →
          let inverted := (match holder with
            | some l => (s.lane l).settings.polarity
            | none => x.polarity) = .inverted
          reports i 1 ([functionByte x.function, flagByte x.level, polarityByte x.polarity] ++ (match x.source with
            | none => [0xFF, 0xFF]
            | some (.linkActivity k) => [6, stationByte k]
            | some y => [sourceByte y, 0xFF]) ++
            [if inverted then flagByte !x.level else flagByte x.level, flagByte x.timing] ++
            optional 4 be32 x.activeUntil ++ optional 1 (fun l : LaneId => be1 l.val) holder) s1)) ∧
      (∀ j : InputId, a = 6 → j.val = i.toNat →
        let x := s.input j
        (part ≠ 0 → refused .badField 1) ∧
        (part = 0 → reports i 1 ([stationOpt x.setting.station, edgeByte x.setting.edge] ++ be2 x.setting.holdOff ++
          [flagByte x.setting.downbeat] ++ optional 4 be32 x.lastEdge ++ [match x.lastOutcome with
            | some o => outcomeByte o
            | none => 0]) s1)) ∧
      (a = 7 → part ≠ 0 → refused .badField 1) ∧
      (a = 7 → part = 0 → let k := s1.link st
        reports 0 1 ([BitVec.ofNat 8 s.straps.linkRate.val, flagByte (s.link 0).present, flagByte (s.link 1).present,
          flagByte (s.link 2).present, flagByte (s.link 3).present] ++ be2 k.windowMs ++ be3 (k.countdown.getD 0) ++
          be1 k.rxQueue.length ++ be1 k.txQueue.length ++ be1 k.framing ++ be1 k.crc ++ be1 k.gap ++ be1 k.overrun ++
          [flagByte k.answerLost]) (s1.setLink st { k with
            framing := 0, crc := 0, gap := 0, overrun := 0, answerLost := false })) ∧
      (a = 8 → part ≠ 0 → refused .badField 1) ∧
      (a = 8 → part = 0 → reports 0 1 ([refSourceByte s.fru.requested, refByte s.fru.state,
        BitVec.ofNat 8 s.fru.divisor, BitVec.ofNat 8 s.fru.nextDivisor] ++ be2 s.fru.run ++
        [switchByte s.fru.switch] ++ be32 s.fru.count) s1) ∧
      (a = 9 → part ≠ 0 → refused .badField 1) ∧
      (a = 9 → part = 0 → reports 0 1 [BitVec.ofNat 8 s.straps.linkRate.val, flagByte s.straps.external,
        flagByte s.straps.load, flagByte s.store.saving.isSome, flagByte s.store.valid, loadByte s.store.load,
        saveByte s.store.lastSave] s1))

/-- R177, R178, R179, R182, R183: what a character does in each receiver state; a frame that passes the CRC gate makes its
link PRESENT, reloads its countdown, joins the queue where there is room, and pulses its LINK_ACTIVITY pins. R60, R84: a
station that returns holds no lead, no queue entry and an empty record; where its departure still waits to be acted on, it
is acted on first (log entry 16). R181: while the line stands at space after a break no character is taken. -/
def Obligations.CharactersMakeFrames : Prop :=
  (∀ (s : State) (st : Station) (c : LineChar), s.phase = .running → (s.link st).heldAtSpace = true →
    exec (.characterReceived st c) s = .next s) ∧
  ∀ (s : State) (st : Station), s.phase = .running → (s.link st).heldAtSpace = false →
    let k := s.link st
    let k1 : Link := { k with lastByte := s.fru.count }
    let ends := fun (b : Byte) (x : Link) => exec (.characterReceived st (.byte b)) s = .next (s.setLink st x)
    let broken := fun (x : Link) => ({ x with
      framing := if x.framing < 255 then x.framing + 1 else 255, receiver := .hunt } : Link)
    exec (.characterReceived st .framingError) s = .next (s.setLink st (broken k)) ∧
    (∀ b : Byte, k.receiver = .hunt → ends b (if b = 0xD5 then { k1 with receiver := .length } else k1)) ∧
    (∀ b : Byte, k.receiver = .length →
      ends b (if 2 ≤ b.toNat ∧ b.toNat ≤ 40 then { k1 with receiver := .body b.toNat [] } else broken k1)) ∧
    (∀ (b : Byte) n bytes, k.receiver = .body n bytes →
      let next : Receiver := if bytes.length + 1 < n then .body n (bytes ++ [b]) else .check n (bytes ++ [b]) none
      ends b { k1 with receiver := next }) ∧
    (∀ (b : Byte) n bytes, k.receiver = .check n bytes none → ends b { k1 with receiver := .check n bytes (some b) }) ∧
    (∀ (b h : Byte) n bytes, k.receiver = .check n bytes (some h) →
      (crc16 (BitVec.ofNat 8 n :: bytes) ≠ h ++ b →
        ends b { k1 with receiver := .hunt, crc := if k.crc < 255 then k.crc + 1 else 255 }) ∧
      (crc16 (BitVec.ofNat 8 n :: bytes) = h ++ b →
        let taken : Link := { k1 with
          receiver := .hunt
          rxQueue := if k.rxQueue.length < 4 then k.rxQueue ++ [bytes] else k.rxQueue
          overrun := if k.rxQueue.length < 4 then k.overrun else if k.overrun < 255 then k.overrun + 1 else 255
          present := true
          countdown := some (48 * k.windowMs) }
        (k.lapseReported = false → k.emptyReported = false →
          exec (.characterReceived st (.byte b)) s = .next (pulseSource (.linkActivity st) (s.setLink st taken))) ∧
        (∀ u v, k.present = false → exec (.leadLapse st) s = .next u → exec (.followerEmptied st) u = .next v →
          exec (.characterReceived st (.byte b)) s = .next (pulseSource (.linkActivity st)
            (v.setLink st { taken with lapseReported := false, emptyReported := false }))) ∧
        (∀ t, Safe s → exec (.characterReceived st (.byte b)) s = .next t → k.present = false →
          (∀ e ∈ t.lead.holder.toList ++ t.lead.queue, e.station ≠ st) ∧ t.follower st = Follower.empty)))

/-- R180, R181, R183, R184, R186: a gap, a break, the end of a presence window, the line's return to mark, and the end of a
message. A break's operand and the line held at space are log entry 15, a departure reported and acted on by commands of
its own log entry 16, the expiry at countdown 1 as a command of its own log entry 37, and the transmitter IDLE at once at a
departure log entry 39. -/
def Obligations.LinkMoments : Prop :=
  ∀ (s : State) (st : Station), s.phase = .running →
    let k := s.link st
    let departed := fun (x : Link) => ({ x with
      present := false, countdown := none, windowMs := 500, txQueue := [], sending := none, answerLost := false,
      lapseReported := true, emptyReported := true } : Link)
    let storeAfter : Store := { s.store with
      answer := s.store.answer.map fun a => if a.link = some st then { a with link := none } else a }
    (exec (.gapDetected st) s = .next (s.setLink st
      (if k.receiver ≠ .hunt ∧ 96 ≤ (s.fru.count - k.lastByte).toNat then
        { k with receiver := .hunt, gap := if k.gap < 255 then k.gap + 1 else 255 } else k))) ∧
    (∀ a, k.heldAtSpace = true ∨ (s.fru.count - a).toNat < 192 → exec (.breakDetected st a) s = .next s) ∧
    (∀ a, k.heldAtSpace = false → 192 ≤ (s.fru.count - a).toNat → k.present = false →
      exec (.breakDetected st a) s = .next (s.setLink st { k with receiver := .hunt, heldAtSpace := true })) ∧
    (∀ a, k.heldAtSpace = false → 192 ≤ (s.fru.count - a).toNat → k.present = true →
      exec (.breakDetected st a) s = .next { s.setLink st (departed { k with receiver := .hunt, heldAtSpace := true })
        with store := storeAfter }) ∧
    (k.present = true → k.countdown = some 1 → exec (.presenceExpiry st) s =
      .next { s.setLink st (departed k) with store := storeAfter }) ∧
    (k.present = false ∨ k.countdown ≠ some 1 → exec (.presenceExpiry st) s = .next s) ∧
    (exec (.lineReturnsToMark st) s = .next (s.setLink st
      (if k.heldAtSpace then { k with heldAtSpace := false, receiver := .hunt } else k))) ∧
    (k.sending.isSome → k.txQueue = [] → exec (.linkMessageEnd st) s = .next (s.setLink st { k with sending := none })) ∧
    (∀ m q, k.sending.isSome → k.txQueue = m :: q →
      exec (.linkMessageEnd st) s = .next (s.setLink st { k with sending := some m, txQueue := q })) ∧
    (k.sending = none → exec (.linkMessageEnd st) s = .next s)

/-- R186 to R189, R201: what placing a message does to a transmit queue of 8: a House Notice replaces the unsent one, or
displaces the oldest Beat Notice of a full queue; a Beat Notice replaces its lane's unsent one and counts it as skipped, or
is dropped at a full queue; an Answer or Report displaces the oldest notice of a full queue, or sets answer-lost; on an IDLE
transmitter each leaves at once. A House Notice goes to every PRESENT link with the items R201 lists. -/
def Obligations.TransmitQueuesTakeMessages : Prop :=
  (∀ (k : Link) (n : HouseNotice), k.sending.isSome →
    let ends := fun (q : List Message) => placeHouse n k = { k with txQueue := q }
    (∀ a old b, k.txQueue = a ++ .house old :: b → a.all (fun m => !isHouse m) → ends (a ++ .house n :: b)) ∧
    (k.txQueue.all (fun m => !isHouse m) →
      (k.txQueue.length < 8 → ends (k.txQueue ++ [.house n])) ∧
      (∀ a x b, 8 ≤ k.txQueue.length → k.txQueue = a ++ .beat x :: b → a.all (fun m => !isBeat m) →
        ends (a ++ b ++ [.house n])) ∧
      (8 ≤ k.txQueue.length → k.txQueue.all (fun m => !isBeat m) → ends k.txQueue))) ∧
  (∀ (k : Link) (n : BeatNotice), k.sending.isSome →
    let ends := fun (q : List Message) => placeBeat n k = { k with txQueue := q }
    (∀ a old b, k.txQueue = a ++ .beat old :: b → old.lane = n.lane → (∀ x, .beat x ∈ a → x.lane ≠ n.lane) →
      ends (a ++ .beat { n with skipped := if old.skipped < 255 then old.skipped + 1 else 255 } :: b)) ∧
    ((∀ x, .beat x ∈ k.txQueue → x.lane ≠ n.lane) →
      ends (if k.txQueue.length < 8 then k.txQueue ++ [.beat n] else k.txQueue))) ∧
  (∀ (k : Link) (m : Message),
    (k.present = false → placeAnswer m k = k) ∧
    (k.present = true → k.sending.isSome →
      (k.txQueue.length < 8 → placeAnswer m k = { k with txQueue := k.txQueue ++ [m] }) ∧
      (∀ a x b, 8 ≤ k.txQueue.length → k.txQueue = a ++ x :: b → isNotice x → a.all (fun y => !isNotice y) →
        placeAnswer m k = { k with txQueue := a ++ b ++ [m] }) ∧
      (8 ≤ k.txQueue.length → k.txQueue.all (fun y => !isNotice y) →
        placeAnswer m k = { k with answerLost := true }))) ∧
  (∀ (k : Link) (n : HouseNotice) (x : BeatNotice) (m : Message), k.sending = none → k.txQueue = [] →
    placeHouse n k = { k with sending := some (.house n) } ∧ placeBeat x k = { k with sending := some (.beat x) } ∧
    (k.present = true → placeAnswer m k = { k with sending := some m })) ∧
  (∀ (s : State) (r : Reason) (i : Station), (raiseHouse r s).link i =
    if (s.link i).present then placeHouse ⟨r, s.grid.state, s.lead.holder.map LeadEntry.station,
      s.lead.queue.map LeadEntry.station, s.tc.state, s.tc.songBar, s.fru.state, s.grid.meter⟩ (s.link i)
    else s.link i) ∧
  (∀ (s : State) (st i : Station) (kind tag d : Byte) (r : ResultCode),
    (placeReply st kind tag (.answer r d) s).link i =
      if i = st then placeAnswer (.answer kind tag (resultByte r) d) (s.link st) else s.link i)

/-- R182, R191: the request handler takes the oldest frame of the first link, from the rotation pointer on, that has one;
the frame leaves its queue and the pointer becomes the link after; and nothing else of the links changes. -/
def Obligations.RotationTakesTheNextFrame : Prop :=
  (∀ (s : State) (st : Station) (b : List Byte), nextFrame s = some (st, b) ↔
    ∃ j : Nat, j < 4 ∧ st = s.rotation + Fin.ofNat 4 j ∧ (∃ rest, (s.link st).rxQueue = b :: rest) ∧
      ∀ i : Nat, i < j → (s.link (s.rotation + Fin.ofNat 4 i)).rxQueue = []) ∧
  (∀ s : State, nextFrame s = none ↔ ∀ i, (s.link i).rxQueue = []) ∧
  (∀ (s : State) (st : Station), (afterTaking st s).rotation = st + 1 ∧
    ∀ i, (afterTaking st s).link i =
      if i = st then { s.link st with rxQueue := (s.link st).rxQueue.tail } else s.link i)
end

