-- ==== Sys2Proof/Laws/Fields.lean ====
section
/-! SUPPORT. Fields read back as they were written, most significant byte first (R194). -/

namespace Sys2Proof.Machine

theorem f1_cons_zero (b : Byte) (f : List Byte) : f1 (b :: f) 0 = b.toNat := rfl

theorem fByte_cons_succ (b : Byte) (f : List Byte) (i : Nat) : fByte (b :: f) (i + 1) = fByte f i := rfl

theorem f1_cons_succ (b : Byte) (f : List Byte) (i : Nat) : f1 (b :: f) (i + 1) = f1 f i := rfl

theorem f2_cons_succ (b : Byte) (f : List Byte) (i : Nat) : f2 (b :: f) (i + 1) = f2 f i := rfl

theorem f3_cons_succ (b : Byte) (f : List Byte) (i : Nat) : f3 (b :: f) (i + 1) = f3 f i := rfl

/-- A one-byte field. -/
theorem f1_be1 (n : Nat) (h : n < 256) (rest : List Byte) : f1 (be1 n ++ rest) 0 = n := by
  simp [f1, fByte, be1]
  omega

/-- A two-byte field. -/
theorem f2_be2 (n : Nat) (h : n < 65536) (rest : List Byte) : f2 (be2 n ++ rest) 0 = n := by
  simp [f2, f1, fByte, be2]
  omega

/-- A three-byte field. -/
theorem f3_be3 (n : Nat) (h : n < 16777216) (rest : List Byte) : f3 (be3 n ++ rest) 0 = n := by
  simp [f3, f2, f1, fByte, be3]
  omega

/-- A field that ends the body. -/
theorem f1_be1' (n : Nat) (h : n < 256) : f1 (be1 n) 0 = n := by simpa using f1_be1 n h []
theorem f2_be2' (n : Nat) (h : n < 65536) : f2 (be2 n) 0 = n := by simpa using f2_be2 n h []
theorem f3_be3' (n : Nat) (h : n < 16777216) : f3 (be3 n) 0 = n := by simpa using f3_be3 n h []

/-- A 16-bit code. -/
theorem fCode_be2 (c : BitVec 16) (rest : List Byte) : fCode (be2 c.toNat ++ rest) 0 = c := by
  simp [fCode, f2_be2 c.toNat (by omega)]

theorem fCode_cons_succ (b : Byte) (f : List Byte) (i : Nat) : fCode (b :: f) (i + 1) = fCode f i := rfl

/-- A signed two-byte field. -/
theorem fSigned2_beSigned2 (i : Int) (hl : -32768 ≤ i) (hu : i < 32768) (rest : List Byte) :
    fSigned2 (beSigned2 i ++ rest) 0 = i := by
  simp only [fSigned2, beSigned2, fCode_be2]
  rw [BitVec.toInt_ofInt]
  simp only [Int.bmod]
  omega

@[simp] theorem be1_length (n : Nat) : (be1 n).length = 1 := rfl
@[simp] theorem be2_length (n : Nat) : (be2 n).length = 2 := rfl
@[simp] theorem be3_length (n : Nat) : (be3 n).length = 3 := rfl
@[simp] theorem be4_length (n : Nat) : (be4 n).length = 4 := rfl
@[simp] theorem be32_length (w : BitVec 32) : (be32 w).length = 4 := rfl
@[simp] theorem beSigned2_length (i : Int) : (beSigned2 i).length = 2 := rfl
@[simp] theorem beSigned3_length (i : Int) : (beSigned3 i).length = 3 := rfl
@[simp] theorem beSigned4_length (i : Int) : (beSigned4 i).length = 4 := rfl

/-- An optional item has one width, present or absent (R199). -/
theorem optional_length {α : Type} (w : Nat) (enc : α → List Byte) (o : Option α)
    (h : ∀ a, (enc a).length = w) : (optional w enc o).length = w + 1 := by
  cases o <;> simp [optional, h]

end Sys2Proof.Machine
end

