-- ==== Sys2Proof/Laws/State.lean ====
section
/-! SUPPORT. What the element updates of State leave and give: one lemma a field an update, and reading an element back
after an update or after a change of every element. -/

namespace Sys2Proof.Machine

/-! ### Every element changed -/

@[simp] theorem mapEach_get {α β : Type} {n : Nat} (v : Vector α n) (f : Fin n → α → β) (i : Fin n) :
    (mapEach v f)[i] = f i v[i] := by
  simp [mapEach]

@[simp] theorem mapEach_getElem {α β : Type} {n : Nat} (v : Vector α n) (f : Fin n → α → β) (i : Nat) (h : i < n) :
    (mapEach v f)[i] = f ⟨i, h⟩ v[i] := by
  simp [mapEach]

theorem mapEach_id {α : Type} {n : Nat} (v : Vector α n) : mapEach v (fun _ x => x) = v := by
  ext i h
  simp [mapEach]

/-! ### setFollower -/

@[simp] theorem setFollower_phase (s : State) (i : Station) (x : Follower) : (s.setFollower i x).phase = s.phase := rfl
@[simp] theorem setFollower_straps (s : State) (i : Station) (x : Follower) : (s.setFollower i x).straps = s.straps := rfl
@[simp] theorem setFollower_fru (s : State) (i : Station) (x : Follower) : (s.setFollower i x).fru = s.fru := rfl
@[simp] theorem setFollower_grid (s : State) (i : Station) (x : Follower) : (s.setFollower i x).grid = s.grid := rfl
@[simp] theorem setFollower_inputs (s : State) (i : Station) (x : Follower) : (s.setFollower i x).inputs = s.inputs := rfl
@[simp] theorem setFollower_lead (s : State) (i : Station) (x : Follower) : (s.setFollower i x).lead = s.lead := rfl
@[simp] theorem setFollower_tc (s : State) (i : Station) (x : Follower) : (s.setFollower i x).tc = s.tc := rfl
@[simp] theorem setFollower_lanes (s : State) (i : Station) (x : Follower) : (s.setFollower i x).lanes = s.lanes := rfl
@[simp] theorem setFollower_pins (s : State) (i : Station) (x : Follower) : (s.setFollower i x).pins = s.pins := rfl
@[simp] theorem setFollower_ports (s : State) (i : Station) (x : Follower) : (s.setFollower i x).ports = s.ports := rfl
@[simp] theorem setFollower_links (s : State) (i : Station) (x : Follower) : (s.setFollower i x).links = s.links := rfl
@[simp] theorem setFollower_rotation (s : State) (i : Station) (x : Follower) : (s.setFollower i x).rotation = s.rotation := rfl
@[simp] theorem setFollower_store (s : State) (i : Station) (x : Follower) : (s.setFollower i x).store = s.store := rfl
@[simp] theorem setFollower_pending (s : State) (i : Station) (x : Follower) : (s.setFollower i x).pending = s.pending := rfl
@[simp] theorem setFollower_input (s : State) (i : Station) (x : Follower) (j : InputId) : (s.setFollower i x).input j = s.input j := rfl
@[simp] theorem setFollower_lane (s : State) (i : Station) (x : Follower) (j : LaneId) : (s.setFollower i x).lane j = s.lane j := rfl
@[simp] theorem setFollower_pin (s : State) (i : Station) (x : Follower) (j : PinId) : (s.setFollower i x).pin j = s.pin j := rfl
@[simp] theorem setFollower_port (s : State) (i : Station) (x : Follower) (j : PortId) : (s.setFollower i x).port j = s.port j := rfl
@[simp] theorem setFollower_link (s : State) (i : Station) (x : Follower) (j : Station) : (s.setFollower i x).link j = s.link j := rfl
@[simp] theorem setFollower_follower_same (s : State) (i : Station) (x : Follower) : (s.setFollower i x).follower i = x := by
  simp [State.follower, State.setFollower]
theorem setFollower_follower_ne (s : State) (i j : Station) (x : Follower) (h : j ≠ i) : (s.setFollower i x).follower j = s.follower j := by
  have hv : i.val ≠ j.val := fun e => h (Fin.ext e.symm)
  simp [State.follower, State.setFollower, hv]
theorem setFollower_follower (s : State) (i j : Station) (x : Follower) :
    (s.setFollower i x).follower j = if j = i then x else s.follower j := by
  by_cases h : j = i
  · subst h; simp
  · simp [h, setFollower_follower_ne]
@[simp] theorem setFollower_setFollower (s : State) (i : Station) (x y : Follower) :
    (s.setFollower i x).setFollower i y = s.setFollower i y := by
  simp [State.setFollower]
@[simp] theorem setFollower_self (s : State) (i : Station) : s.setFollower i (s.follower i) = s := by
  simp [State.setFollower, State.follower]

/-! ### setInput -/

@[simp] theorem setInput_phase (s : State) (i : InputId) (x : MarkInput) : (s.setInput i x).phase = s.phase := rfl
@[simp] theorem setInput_straps (s : State) (i : InputId) (x : MarkInput) : (s.setInput i x).straps = s.straps := rfl
@[simp] theorem setInput_fru (s : State) (i : InputId) (x : MarkInput) : (s.setInput i x).fru = s.fru := rfl
@[simp] theorem setInput_grid (s : State) (i : InputId) (x : MarkInput) : (s.setInput i x).grid = s.grid := rfl
@[simp] theorem setInput_followers (s : State) (i : InputId) (x : MarkInput) : (s.setInput i x).followers = s.followers := rfl
@[simp] theorem setInput_lead (s : State) (i : InputId) (x : MarkInput) : (s.setInput i x).lead = s.lead := rfl
@[simp] theorem setInput_tc (s : State) (i : InputId) (x : MarkInput) : (s.setInput i x).tc = s.tc := rfl
@[simp] theorem setInput_lanes (s : State) (i : InputId) (x : MarkInput) : (s.setInput i x).lanes = s.lanes := rfl
@[simp] theorem setInput_pins (s : State) (i : InputId) (x : MarkInput) : (s.setInput i x).pins = s.pins := rfl
@[simp] theorem setInput_ports (s : State) (i : InputId) (x : MarkInput) : (s.setInput i x).ports = s.ports := rfl
@[simp] theorem setInput_links (s : State) (i : InputId) (x : MarkInput) : (s.setInput i x).links = s.links := rfl
@[simp] theorem setInput_rotation (s : State) (i : InputId) (x : MarkInput) : (s.setInput i x).rotation = s.rotation := rfl
@[simp] theorem setInput_store (s : State) (i : InputId) (x : MarkInput) : (s.setInput i x).store = s.store := rfl
@[simp] theorem setInput_pending (s : State) (i : InputId) (x : MarkInput) : (s.setInput i x).pending = s.pending := rfl
@[simp] theorem setInput_follower (s : State) (i : InputId) (x : MarkInput) (j : Station) : (s.setInput i x).follower j = s.follower j := rfl
@[simp] theorem setInput_lane (s : State) (i : InputId) (x : MarkInput) (j : LaneId) : (s.setInput i x).lane j = s.lane j := rfl
@[simp] theorem setInput_pin (s : State) (i : InputId) (x : MarkInput) (j : PinId) : (s.setInput i x).pin j = s.pin j := rfl
@[simp] theorem setInput_port (s : State) (i : InputId) (x : MarkInput) (j : PortId) : (s.setInput i x).port j = s.port j := rfl
@[simp] theorem setInput_link (s : State) (i : InputId) (x : MarkInput) (j : Station) : (s.setInput i x).link j = s.link j := rfl
@[simp] theorem setInput_input_same (s : State) (i : InputId) (x : MarkInput) : (s.setInput i x).input i = x := by
  simp [State.input, State.setInput]
theorem setInput_input_ne (s : State) (i j : InputId) (x : MarkInput) (h : j ≠ i) : (s.setInput i x).input j = s.input j := by
  have hv : i.val ≠ j.val := fun e => h (Fin.ext e.symm)
  simp [State.input, State.setInput, hv]
theorem setInput_input (s : State) (i j : InputId) (x : MarkInput) :
    (s.setInput i x).input j = if j = i then x else s.input j := by
  by_cases h : j = i
  · subst h; simp
  · simp [h, setInput_input_ne]
@[simp] theorem setInput_setInput (s : State) (i : InputId) (x y : MarkInput) :
    (s.setInput i x).setInput i y = s.setInput i y := by
  simp [State.setInput]
@[simp] theorem setInput_self (s : State) (i : InputId) : s.setInput i (s.input i) = s := by
  simp [State.setInput, State.input]

/-! ### setLane -/

@[simp] theorem setLane_phase (s : State) (i : LaneId) (x : Lane) : (s.setLane i x).phase = s.phase := rfl
@[simp] theorem setLane_straps (s : State) (i : LaneId) (x : Lane) : (s.setLane i x).straps = s.straps := rfl
@[simp] theorem setLane_fru (s : State) (i : LaneId) (x : Lane) : (s.setLane i x).fru = s.fru := rfl
@[simp] theorem setLane_grid (s : State) (i : LaneId) (x : Lane) : (s.setLane i x).grid = s.grid := rfl
@[simp] theorem setLane_followers (s : State) (i : LaneId) (x : Lane) : (s.setLane i x).followers = s.followers := rfl
@[simp] theorem setLane_inputs (s : State) (i : LaneId) (x : Lane) : (s.setLane i x).inputs = s.inputs := rfl
@[simp] theorem setLane_lead (s : State) (i : LaneId) (x : Lane) : (s.setLane i x).lead = s.lead := rfl
@[simp] theorem setLane_tc (s : State) (i : LaneId) (x : Lane) : (s.setLane i x).tc = s.tc := rfl
@[simp] theorem setLane_pins (s : State) (i : LaneId) (x : Lane) : (s.setLane i x).pins = s.pins := rfl
@[simp] theorem setLane_ports (s : State) (i : LaneId) (x : Lane) : (s.setLane i x).ports = s.ports := rfl
@[simp] theorem setLane_links (s : State) (i : LaneId) (x : Lane) : (s.setLane i x).links = s.links := rfl
@[simp] theorem setLane_rotation (s : State) (i : LaneId) (x : Lane) : (s.setLane i x).rotation = s.rotation := rfl
@[simp] theorem setLane_store (s : State) (i : LaneId) (x : Lane) : (s.setLane i x).store = s.store := rfl
@[simp] theorem setLane_pending (s : State) (i : LaneId) (x : Lane) : (s.setLane i x).pending = s.pending := rfl
@[simp] theorem setLane_follower (s : State) (i : LaneId) (x : Lane) (j : Station) : (s.setLane i x).follower j = s.follower j := rfl
@[simp] theorem setLane_input (s : State) (i : LaneId) (x : Lane) (j : InputId) : (s.setLane i x).input j = s.input j := rfl
@[simp] theorem setLane_pin (s : State) (i : LaneId) (x : Lane) (j : PinId) : (s.setLane i x).pin j = s.pin j := rfl
@[simp] theorem setLane_port (s : State) (i : LaneId) (x : Lane) (j : PortId) : (s.setLane i x).port j = s.port j := rfl
@[simp] theorem setLane_link (s : State) (i : LaneId) (x : Lane) (j : Station) : (s.setLane i x).link j = s.link j := rfl
@[simp] theorem setLane_lane_same (s : State) (i : LaneId) (x : Lane) : (s.setLane i x).lane i = x := by
  simp [State.lane, State.setLane]
theorem setLane_lane_ne (s : State) (i j : LaneId) (x : Lane) (h : j ≠ i) : (s.setLane i x).lane j = s.lane j := by
  have hv : i.val ≠ j.val := fun e => h (Fin.ext e.symm)
  simp [State.lane, State.setLane, hv]
theorem setLane_lane (s : State) (i j : LaneId) (x : Lane) :
    (s.setLane i x).lane j = if j = i then x else s.lane j := by
  by_cases h : j = i
  · subst h; simp
  · simp [h, setLane_lane_ne]
@[simp] theorem setLane_setLane (s : State) (i : LaneId) (x y : Lane) :
    (s.setLane i x).setLane i y = s.setLane i y := by
  simp [State.setLane]
@[simp] theorem setLane_self (s : State) (i : LaneId) : s.setLane i (s.lane i) = s := by
  simp [State.setLane, State.lane]

/-! ### setPin -/

@[simp] theorem setPin_phase (s : State) (i : PinId) (x : Pin) : (s.setPin i x).phase = s.phase := rfl
@[simp] theorem setPin_straps (s : State) (i : PinId) (x : Pin) : (s.setPin i x).straps = s.straps := rfl
@[simp] theorem setPin_fru (s : State) (i : PinId) (x : Pin) : (s.setPin i x).fru = s.fru := rfl
@[simp] theorem setPin_grid (s : State) (i : PinId) (x : Pin) : (s.setPin i x).grid = s.grid := rfl
@[simp] theorem setPin_followers (s : State) (i : PinId) (x : Pin) : (s.setPin i x).followers = s.followers := rfl
@[simp] theorem setPin_inputs (s : State) (i : PinId) (x : Pin) : (s.setPin i x).inputs = s.inputs := rfl
@[simp] theorem setPin_lead (s : State) (i : PinId) (x : Pin) : (s.setPin i x).lead = s.lead := rfl
@[simp] theorem setPin_tc (s : State) (i : PinId) (x : Pin) : (s.setPin i x).tc = s.tc := rfl
@[simp] theorem setPin_lanes (s : State) (i : PinId) (x : Pin) : (s.setPin i x).lanes = s.lanes := rfl
@[simp] theorem setPin_ports (s : State) (i : PinId) (x : Pin) : (s.setPin i x).ports = s.ports := rfl
@[simp] theorem setPin_links (s : State) (i : PinId) (x : Pin) : (s.setPin i x).links = s.links := rfl
@[simp] theorem setPin_rotation (s : State) (i : PinId) (x : Pin) : (s.setPin i x).rotation = s.rotation := rfl
@[simp] theorem setPin_store (s : State) (i : PinId) (x : Pin) : (s.setPin i x).store = s.store := rfl
@[simp] theorem setPin_pending (s : State) (i : PinId) (x : Pin) : (s.setPin i x).pending = s.pending := rfl
@[simp] theorem setPin_follower (s : State) (i : PinId) (x : Pin) (j : Station) : (s.setPin i x).follower j = s.follower j := rfl
@[simp] theorem setPin_input (s : State) (i : PinId) (x : Pin) (j : InputId) : (s.setPin i x).input j = s.input j := rfl
@[simp] theorem setPin_lane (s : State) (i : PinId) (x : Pin) (j : LaneId) : (s.setPin i x).lane j = s.lane j := rfl
@[simp] theorem setPin_port (s : State) (i : PinId) (x : Pin) (j : PortId) : (s.setPin i x).port j = s.port j := rfl
@[simp] theorem setPin_link (s : State) (i : PinId) (x : Pin) (j : Station) : (s.setPin i x).link j = s.link j := rfl
@[simp] theorem setPin_pin_same (s : State) (i : PinId) (x : Pin) : (s.setPin i x).pin i = x := by
  simp [State.pin, State.setPin]
theorem setPin_pin_ne (s : State) (i j : PinId) (x : Pin) (h : j ≠ i) : (s.setPin i x).pin j = s.pin j := by
  have hv : i.val ≠ j.val := fun e => h (Fin.ext e.symm)
  simp [State.pin, State.setPin, hv]
theorem setPin_pin (s : State) (i j : PinId) (x : Pin) :
    (s.setPin i x).pin j = if j = i then x else s.pin j := by
  by_cases h : j = i
  · subst h; simp
  · simp [h, setPin_pin_ne]
@[simp] theorem setPin_setPin (s : State) (i : PinId) (x y : Pin) :
    (s.setPin i x).setPin i y = s.setPin i y := by
  simp [State.setPin]
@[simp] theorem setPin_self (s : State) (i : PinId) : s.setPin i (s.pin i) = s := by
  simp [State.setPin, State.pin]

/-! ### setPort -/

@[simp] theorem setPort_phase (s : State) (i : PortId) (x : Port) : (s.setPort i x).phase = s.phase := rfl
@[simp] theorem setPort_straps (s : State) (i : PortId) (x : Port) : (s.setPort i x).straps = s.straps := rfl
@[simp] theorem setPort_fru (s : State) (i : PortId) (x : Port) : (s.setPort i x).fru = s.fru := rfl
@[simp] theorem setPort_grid (s : State) (i : PortId) (x : Port) : (s.setPort i x).grid = s.grid := rfl
@[simp] theorem setPort_followers (s : State) (i : PortId) (x : Port) : (s.setPort i x).followers = s.followers := rfl
@[simp] theorem setPort_inputs (s : State) (i : PortId) (x : Port) : (s.setPort i x).inputs = s.inputs := rfl
@[simp] theorem setPort_lead (s : State) (i : PortId) (x : Port) : (s.setPort i x).lead = s.lead := rfl
@[simp] theorem setPort_tc (s : State) (i : PortId) (x : Port) : (s.setPort i x).tc = s.tc := rfl
@[simp] theorem setPort_lanes (s : State) (i : PortId) (x : Port) : (s.setPort i x).lanes = s.lanes := rfl
@[simp] theorem setPort_pins (s : State) (i : PortId) (x : Port) : (s.setPort i x).pins = s.pins := rfl
@[simp] theorem setPort_links (s : State) (i : PortId) (x : Port) : (s.setPort i x).links = s.links := rfl
@[simp] theorem setPort_rotation (s : State) (i : PortId) (x : Port) : (s.setPort i x).rotation = s.rotation := rfl
@[simp] theorem setPort_store (s : State) (i : PortId) (x : Port) : (s.setPort i x).store = s.store := rfl
@[simp] theorem setPort_pending (s : State) (i : PortId) (x : Port) : (s.setPort i x).pending = s.pending := rfl
@[simp] theorem setPort_follower (s : State) (i : PortId) (x : Port) (j : Station) : (s.setPort i x).follower j = s.follower j := rfl
@[simp] theorem setPort_input (s : State) (i : PortId) (x : Port) (j : InputId) : (s.setPort i x).input j = s.input j := rfl
@[simp] theorem setPort_lane (s : State) (i : PortId) (x : Port) (j : LaneId) : (s.setPort i x).lane j = s.lane j := rfl
@[simp] theorem setPort_pin (s : State) (i : PortId) (x : Port) (j : PinId) : (s.setPort i x).pin j = s.pin j := rfl
@[simp] theorem setPort_link (s : State) (i : PortId) (x : Port) (j : Station) : (s.setPort i x).link j = s.link j := rfl
@[simp] theorem setPort_port_same (s : State) (i : PortId) (x : Port) : (s.setPort i x).port i = x := by
  simp [State.port, State.setPort]
theorem setPort_port_ne (s : State) (i j : PortId) (x : Port) (h : j ≠ i) : (s.setPort i x).port j = s.port j := by
  have hv : i.val ≠ j.val := fun e => h (Fin.ext e.symm)
  simp [State.port, State.setPort, hv]
theorem setPort_port (s : State) (i j : PortId) (x : Port) :
    (s.setPort i x).port j = if j = i then x else s.port j := by
  by_cases h : j = i
  · subst h; simp
  · simp [h, setPort_port_ne]
@[simp] theorem setPort_setPort (s : State) (i : PortId) (x y : Port) :
    (s.setPort i x).setPort i y = s.setPort i y := by
  simp [State.setPort]
@[simp] theorem setPort_self (s : State) (i : PortId) : s.setPort i (s.port i) = s := by
  simp [State.setPort, State.port]

/-! ### setLink -/

@[simp] theorem setLink_phase (s : State) (i : Station) (x : Link) : (s.setLink i x).phase = s.phase := rfl
@[simp] theorem setLink_straps (s : State) (i : Station) (x : Link) : (s.setLink i x).straps = s.straps := rfl
@[simp] theorem setLink_fru (s : State) (i : Station) (x : Link) : (s.setLink i x).fru = s.fru := rfl
@[simp] theorem setLink_grid (s : State) (i : Station) (x : Link) : (s.setLink i x).grid = s.grid := rfl
@[simp] theorem setLink_followers (s : State) (i : Station) (x : Link) : (s.setLink i x).followers = s.followers := rfl
@[simp] theorem setLink_inputs (s : State) (i : Station) (x : Link) : (s.setLink i x).inputs = s.inputs := rfl
@[simp] theorem setLink_lead (s : State) (i : Station) (x : Link) : (s.setLink i x).lead = s.lead := rfl
@[simp] theorem setLink_tc (s : State) (i : Station) (x : Link) : (s.setLink i x).tc = s.tc := rfl
@[simp] theorem setLink_lanes (s : State) (i : Station) (x : Link) : (s.setLink i x).lanes = s.lanes := rfl
@[simp] theorem setLink_pins (s : State) (i : Station) (x : Link) : (s.setLink i x).pins = s.pins := rfl
@[simp] theorem setLink_ports (s : State) (i : Station) (x : Link) : (s.setLink i x).ports = s.ports := rfl
@[simp] theorem setLink_rotation (s : State) (i : Station) (x : Link) : (s.setLink i x).rotation = s.rotation := rfl
@[simp] theorem setLink_store (s : State) (i : Station) (x : Link) : (s.setLink i x).store = s.store := rfl
@[simp] theorem setLink_pending (s : State) (i : Station) (x : Link) : (s.setLink i x).pending = s.pending := rfl
@[simp] theorem setLink_follower (s : State) (i : Station) (x : Link) (j : Station) : (s.setLink i x).follower j = s.follower j := rfl
@[simp] theorem setLink_input (s : State) (i : Station) (x : Link) (j : InputId) : (s.setLink i x).input j = s.input j := rfl
@[simp] theorem setLink_lane (s : State) (i : Station) (x : Link) (j : LaneId) : (s.setLink i x).lane j = s.lane j := rfl
@[simp] theorem setLink_pin (s : State) (i : Station) (x : Link) (j : PinId) : (s.setLink i x).pin j = s.pin j := rfl
@[simp] theorem setLink_port (s : State) (i : Station) (x : Link) (j : PortId) : (s.setLink i x).port j = s.port j := rfl
@[simp] theorem setLink_link_same (s : State) (i : Station) (x : Link) : (s.setLink i x).link i = x := by
  simp [State.link, State.setLink]
theorem setLink_link_ne (s : State) (i j : Station) (x : Link) (h : j ≠ i) : (s.setLink i x).link j = s.link j := by
  have hv : i.val ≠ j.val := fun e => h (Fin.ext e.symm)
  simp [State.link, State.setLink, hv]
theorem setLink_link (s : State) (i j : Station) (x : Link) :
    (s.setLink i x).link j = if j = i then x else s.link j := by
  by_cases h : j = i
  · subst h; simp
  · simp [h, setLink_link_ne]
@[simp] theorem setLink_setLink (s : State) (i : Station) (x y : Link) :
    (s.setLink i x).setLink i y = s.setLink i y := by
  simp [State.setLink]
@[simp] theorem setLink_self (s : State) (i : Station) : s.setLink i (s.link i) = s := by
  simp [State.setLink, State.link]

end Sys2Proof.Machine
end

