-- ==== Sys2Proof/Laws/Ops.lean ====
section
/-! SUPPORT. What the shared operations can do: the fields each leaves alone, what it does to the one it changes, and
the taking of a request in one equation. -/

namespace Sys2Proof.Machine

/-! ### Notices and indicators -/

@[simp] theorem raiseHouse_phase (r : Reason) (s : State) : (raiseHouse r s).phase = s.phase := rfl
@[simp] theorem raiseHouse_straps (r : Reason) (s : State) : (raiseHouse r s).straps = s.straps := rfl
@[simp] theorem raiseHouse_fru (r : Reason) (s : State) : (raiseHouse r s).fru = s.fru := rfl
@[simp] theorem raiseHouse_grid (r : Reason) (s : State) : (raiseHouse r s).grid = s.grid := rfl
@[simp] theorem raiseHouse_followers (r : Reason) (s : State) : (raiseHouse r s).followers = s.followers := rfl
@[simp] theorem raiseHouse_inputs (r : Reason) (s : State) : (raiseHouse r s).inputs = s.inputs := rfl
@[simp] theorem raiseHouse_lead (r : Reason) (s : State) : (raiseHouse r s).lead = s.lead := rfl
@[simp] theorem raiseHouse_tc (r : Reason) (s : State) : (raiseHouse r s).tc = s.tc := rfl
@[simp] theorem raiseHouse_lanes (r : Reason) (s : State) : (raiseHouse r s).lanes = s.lanes := rfl
@[simp] theorem raiseHouse_pins (r : Reason) (s : State) : (raiseHouse r s).pins = s.pins := rfl
@[simp] theorem raiseHouse_ports (r : Reason) (s : State) : (raiseHouse r s).ports = s.ports := rfl
@[simp] theorem raiseHouse_rotation (r : Reason) (s : State) : (raiseHouse r s).rotation = s.rotation := rfl
@[simp] theorem raiseHouse_store (r : Reason) (s : State) : (raiseHouse r s).store = s.store := rfl
@[simp] theorem raiseHouse_pending (r : Reason) (s : State) : (raiseHouse r s).pending = s.pending := rfl
@[simp] theorem raiseHouse_follower (r : Reason) (s : State) (i : Station) : (raiseHouse r s).follower i = s.follower i := by
  simp [State.follower]
@[simp] theorem raiseHouse_input (r : Reason) (s : State) (i : InputId) : (raiseHouse r s).input i = s.input i := by
  simp [State.input]
@[simp] theorem raiseHouse_lane (r : Reason) (s : State) (i : LaneId) : (raiseHouse r s).lane i = s.lane i := by
  simp [State.lane]
@[simp] theorem raiseHouse_pin (r : Reason) (s : State) (i : PinId) : (raiseHouse r s).pin i = s.pin i := by
  simp [State.pin]
@[simp] theorem raiseHouse_port (r : Reason) (s : State) (i : PortId) : (raiseHouse r s).port i = s.port i := by
  simp [State.port]

/-- A House Notice reaches the PRESENT links alone (R187). -/
@[simp] theorem raiseHouse_link (r : Reason) (s : State) (i : Station) :
    (raiseHouse r s).link i = if (s.link i).present then placeHouse (houseNotice r s) (s.link i) else s.link i := by
  exact mapEach_get _ _ _

@[simp] theorem showSource_phase (x : Source) (s : State) : (showSource x s).phase = s.phase := by unfold showSource; split <;> rfl
@[simp] theorem showSource_straps (x : Source) (s : State) : (showSource x s).straps = s.straps := by unfold showSource; split <;> rfl
@[simp] theorem showSource_fru (x : Source) (s : State) : (showSource x s).fru = s.fru := by unfold showSource; split <;> rfl
@[simp] theorem showSource_grid (x : Source) (s : State) : (showSource x s).grid = s.grid := by unfold showSource; split <;> rfl
@[simp] theorem showSource_followers (x : Source) (s : State) : (showSource x s).followers = s.followers := by unfold showSource; split <;> rfl
@[simp] theorem showSource_inputs (x : Source) (s : State) : (showSource x s).inputs = s.inputs := by unfold showSource; split <;> rfl
@[simp] theorem showSource_lead (x : Source) (s : State) : (showSource x s).lead = s.lead := by unfold showSource; split <;> rfl
@[simp] theorem showSource_tc (x : Source) (s : State) : (showSource x s).tc = s.tc := by unfold showSource; split <;> rfl
@[simp] theorem showSource_lanes (x : Source) (s : State) : (showSource x s).lanes = s.lanes := by unfold showSource; split <;> rfl
@[simp] theorem showSource_ports (x : Source) (s : State) : (showSource x s).ports = s.ports := by unfold showSource; split <;> rfl
@[simp] theorem showSource_links (x : Source) (s : State) : (showSource x s).links = s.links := by unfold showSource; split <;> rfl
@[simp] theorem showSource_rotation (x : Source) (s : State) : (showSource x s).rotation = s.rotation := by unfold showSource; split <;> rfl
@[simp] theorem showSource_store (x : Source) (s : State) : (showSource x s).store = s.store := by unfold showSource; split <;> rfl
@[simp] theorem showSource_pending (x : Source) (s : State) : (showSource x s).pending = s.pending := by unfold showSource; split <;> rfl
@[simp] theorem showSource_follower (x : Source) (s : State) (i : Station) : (showSource x s).follower i = s.follower i := by
  simp [State.follower]
@[simp] theorem showSource_input (x : Source) (s : State) (i : InputId) : (showSource x s).input i = s.input i := by
  simp [State.input]
@[simp] theorem showSource_lane (x : Source) (s : State) (i : LaneId) : (showSource x s).lane i = s.lane i := by
  simp [State.lane]
@[simp] theorem showSource_port (x : Source) (s : State) (i : PortId) : (showSource x s).port i = s.port i := by
  simp [State.port]
@[simp] theorem showSource_link (x : Source) (s : State) (i : Station) : (showSource x s).link i = s.link i := by
  simp [State.link]

/-- A level source's pins take its state (R161). -/
theorem showSource_pin (x : Source) (s : State) (i : PinId) :
    (showSource x s).pin i = match levelOf s x with
      | none => s.pin i
      | some on => if (s.pin i).function = .indicator ∧ (s.pin i).source = some x then { s.pin i with level := on }
        else s.pin i := by
  unfold showSource
  cases levelOf s x
  · rfl
  · exact mapEach_get _ _ _

@[simp] theorem pulseSource_phase (x : Source) (s : State) : (pulseSource x s).phase = s.phase := rfl
@[simp] theorem pulseSource_straps (x : Source) (s : State) : (pulseSource x s).straps = s.straps := rfl
@[simp] theorem pulseSource_fru (x : Source) (s : State) : (pulseSource x s).fru = s.fru := rfl
@[simp] theorem pulseSource_grid (x : Source) (s : State) : (pulseSource x s).grid = s.grid := rfl
@[simp] theorem pulseSource_followers (x : Source) (s : State) : (pulseSource x s).followers = s.followers := rfl
@[simp] theorem pulseSource_inputs (x : Source) (s : State) : (pulseSource x s).inputs = s.inputs := rfl
@[simp] theorem pulseSource_lead (x : Source) (s : State) : (pulseSource x s).lead = s.lead := rfl
@[simp] theorem pulseSource_tc (x : Source) (s : State) : (pulseSource x s).tc = s.tc := rfl
@[simp] theorem pulseSource_lanes (x : Source) (s : State) : (pulseSource x s).lanes = s.lanes := rfl
@[simp] theorem pulseSource_ports (x : Source) (s : State) : (pulseSource x s).ports = s.ports := rfl
@[simp] theorem pulseSource_links (x : Source) (s : State) : (pulseSource x s).links = s.links := rfl
@[simp] theorem pulseSource_rotation (x : Source) (s : State) : (pulseSource x s).rotation = s.rotation := rfl
@[simp] theorem pulseSource_store (x : Source) (s : State) : (pulseSource x s).store = s.store := rfl
@[simp] theorem pulseSource_pending (x : Source) (s : State) : (pulseSource x s).pending = s.pending := rfl
@[simp] theorem pulseSource_follower (x : Source) (s : State) (i : Station) : (pulseSource x s).follower i = s.follower i := by
  simp [State.follower]
@[simp] theorem pulseSource_input (x : Source) (s : State) (i : InputId) : (pulseSource x s).input i = s.input i := by
  simp [State.input]
@[simp] theorem pulseSource_lane (x : Source) (s : State) (i : LaneId) : (pulseSource x s).lane i = s.lane i := by
  simp [State.lane]
@[simp] theorem pulseSource_port (x : Source) (s : State) (i : PortId) : (pulseSource x s).port i = s.port i := by
  simp [State.port]
@[simp] theorem pulseSource_link (x : Source) (s : State) (i : Station) : (pulseSource x s).link i = s.link i := by
  simp [State.link]

/-- A pulse source's pins start or restart their pulses (R161). -/
theorem pulseSource_pin (x : Source) (s : State) (i : PinId) :
    (pulseSource x s).pin i =
      if (s.pin i).function = .indicator ∧ (s.pin i).source = some x then activate s.fru.count Config.indicatorFrames (s.pin i)
      else s.pin i := by
  exact mapEach_get _ _ _

/-! ### The transmit queue -/

@[simp] theorem txStart_present (k : Link) : (txStart k).present = k.present := by
  unfold txStart; split <;> rfl

@[simp] theorem placeAnswer_present (m : Message) (k : Link) : (placeAnswer m k).present = k.present := by
  unfold placeAnswer; repeat' split
  all_goals simp

@[simp] theorem placeHouse_present (n : HouseNotice) (k : Link) : (placeHouse n k).present = k.present := by
  unfold placeHouse; repeat' split
  all_goals simp

@[simp] theorem placeBeat_present (n : BeatNotice) (k : Link) : (placeBeat n k).present = k.present := by
  unfold placeBeat; repeat' split
  all_goals simp

/-- An Answer for an ABSENT link is discarded (R189). -/
theorem placeAnswer_absent (m : Message) (k : Link) (h : k.present = false) : placeAnswer m k = k := by
  simp [placeAnswer, h]

/-! ### The taking of a request (R191, R193, R196) -/

@[simp] theorem afterTaking_phase (st : Station) (s : State) : (afterTaking st s).phase = s.phase := rfl
@[simp] theorem afterTaking_straps (st : Station) (s : State) : (afterTaking st s).straps = s.straps := rfl
@[simp] theorem afterTaking_fru (st : Station) (s : State) : (afterTaking st s).fru = s.fru := rfl
@[simp] theorem afterTaking_grid (st : Station) (s : State) : (afterTaking st s).grid = s.grid := rfl
@[simp] theorem afterTaking_followers (st : Station) (s : State) : (afterTaking st s).followers = s.followers := rfl
@[simp] theorem afterTaking_inputs (st : Station) (s : State) : (afterTaking st s).inputs = s.inputs := rfl
@[simp] theorem afterTaking_lead (st : Station) (s : State) : (afterTaking st s).lead = s.lead := rfl
@[simp] theorem afterTaking_tc (st : Station) (s : State) : (afterTaking st s).tc = s.tc := rfl
@[simp] theorem afterTaking_lanes (st : Station) (s : State) : (afterTaking st s).lanes = s.lanes := rfl
@[simp] theorem afterTaking_pins (st : Station) (s : State) : (afterTaking st s).pins = s.pins := rfl
@[simp] theorem afterTaking_ports (st : Station) (s : State) : (afterTaking st s).ports = s.ports := rfl
@[simp] theorem afterTaking_store (st : Station) (s : State) : (afterTaking st s).store = s.store := rfl
@[simp] theorem afterTaking_pending (st : Station) (s : State) : (afterTaking st s).pending = s.pending := rfl
@[simp] theorem afterTaking_follower (st : Station) (s : State) (i : Station) : (afterTaking st s).follower i = s.follower i := by
  simp [State.follower]
@[simp] theorem afterTaking_input (st : Station) (s : State) (i : InputId) : (afterTaking st s).input i = s.input i := by
  simp [State.input]
@[simp] theorem afterTaking_lane (st : Station) (s : State) (i : LaneId) : (afterTaking st s).lane i = s.lane i := by
  simp [State.lane]
@[simp] theorem afterTaking_pin (st : Station) (s : State) (i : PinId) : (afterTaking st s).pin i = s.pin i := by
  simp [State.pin]
@[simp] theorem afterTaking_port (st : Station) (s : State) (i : PortId) : (afterTaking st s).port i = s.port i := by
  simp [State.port]

@[simp] theorem afterTaking_present (st : Station) (s : State) (i : Station) :
    ((afterTaking st s).link i).present = (s.link i).present := by
  have h : (afterTaking st s).link i =
      (s.setLink st { s.link st with rxQueue := (s.link st).rxQueue.tail }).link i := rfl
  rw [h, setLink_link]
  split
  · subst_vars; rfl
  · rfl

@[simp] theorem afterTaking_holds (st st' : Station) (s : State) : holds (afterTaking st s) st' = holds s st' := rfl

@[simp] theorem afterTaking_holderTerms (st st' : Station) (s : State) :
    holderTerms (afterTaking st s) st' = holderTerms s st' := rfl

@[simp] theorem placeReply_phase (st : Station) (kind tag : Byte) (r : Reply) (s : State) : (placeReply st kind tag r s).phase = s.phase := by unfold placeReply; cases r <;> rfl
@[simp] theorem placeReply_straps (st : Station) (kind tag : Byte) (r : Reply) (s : State) : (placeReply st kind tag r s).straps = s.straps := by unfold placeReply; cases r <;> rfl
@[simp] theorem placeReply_fru (st : Station) (kind tag : Byte) (r : Reply) (s : State) : (placeReply st kind tag r s).fru = s.fru := by unfold placeReply; cases r <;> rfl
@[simp] theorem placeReply_grid (st : Station) (kind tag : Byte) (r : Reply) (s : State) : (placeReply st kind tag r s).grid = s.grid := by unfold placeReply; cases r <;> rfl
@[simp] theorem placeReply_followers (st : Station) (kind tag : Byte) (r : Reply) (s : State) : (placeReply st kind tag r s).followers = s.followers := by unfold placeReply; cases r <;> rfl
@[simp] theorem placeReply_inputs (st : Station) (kind tag : Byte) (r : Reply) (s : State) : (placeReply st kind tag r s).inputs = s.inputs := by unfold placeReply; cases r <;> rfl
@[simp] theorem placeReply_lead (st : Station) (kind tag : Byte) (r : Reply) (s : State) : (placeReply st kind tag r s).lead = s.lead := by unfold placeReply; cases r <;> rfl
@[simp] theorem placeReply_tc (st : Station) (kind tag : Byte) (r : Reply) (s : State) : (placeReply st kind tag r s).tc = s.tc := by unfold placeReply; cases r <;> rfl
@[simp] theorem placeReply_lanes (st : Station) (kind tag : Byte) (r : Reply) (s : State) : (placeReply st kind tag r s).lanes = s.lanes := by unfold placeReply; cases r <;> rfl
@[simp] theorem placeReply_pins (st : Station) (kind tag : Byte) (r : Reply) (s : State) : (placeReply st kind tag r s).pins = s.pins := by unfold placeReply; cases r <;> rfl
@[simp] theorem placeReply_ports (st : Station) (kind tag : Byte) (r : Reply) (s : State) : (placeReply st kind tag r s).ports = s.ports := by unfold placeReply; cases r <;> rfl
@[simp] theorem placeReply_rotation (st : Station) (kind tag : Byte) (r : Reply) (s : State) : (placeReply st kind tag r s).rotation = s.rotation := by unfold placeReply; cases r <;> rfl
@[simp] theorem placeReply_store (st : Station) (kind tag : Byte) (r : Reply) (s : State) : (placeReply st kind tag r s).store = s.store := by unfold placeReply; cases r <;> rfl
@[simp] theorem placeReply_pending (st : Station) (kind tag : Byte) (r : Reply) (s : State) : (placeReply st kind tag r s).pending = s.pending := by unfold placeReply; cases r <;> rfl
@[simp] theorem placeReply_follower (st : Station) (kind tag : Byte) (r : Reply) (s : State) (i : Station) : (placeReply st kind tag r s).follower i = s.follower i := by
  simp [State.follower]
@[simp] theorem placeReply_input (st : Station) (kind tag : Byte) (r : Reply) (s : State) (i : InputId) : (placeReply st kind tag r s).input i = s.input i := by
  simp [State.input]
@[simp] theorem placeReply_lane (st : Station) (kind tag : Byte) (r : Reply) (s : State) (i : LaneId) : (placeReply st kind tag r s).lane i = s.lane i := by
  simp [State.lane]
@[simp] theorem placeReply_pin (st : Station) (kind tag : Byte) (r : Reply) (s : State) (i : PinId) : (placeReply st kind tag r s).pin i = s.pin i := by
  simp [State.pin]
@[simp] theorem placeReply_port (st : Station) (kind tag : Byte) (r : Reply) (s : State) (i : PortId) : (placeReply st kind tag r s).port i = s.port i := by
  simp [State.port]

/-- The taking of a request that passes the common checks: the owner's part, then its reply (R193, R196). -/
theorem takeRequest_taken {st : Station} {kind tag : Byte} {f : List Byte} {lengths : List Nat}
    {owner : State → State × Reply} {s : State} (h : canTake st kind tag f s) (hl : f.length + 2 ∈ lengths) :
    takeRequest st kind tag f lengths owner s =
      placeReply st kind tag (owner (afterTaking st s)).2 (owner (afterTaking st s)).1 := by
  obtain ⟨hp, hn | hn⟩ := h <;> simp [takeRequest, whenRunning, hp, takeFrame, hn, hl]

/-- A frame whose length is not listed for its kind is refused BAD_FIELD, with the first length as the detail (R193). -/
theorem takeRequest_length {st : Station} {kind tag : Byte} {f : List Byte} {lengths : List Nat}
    {owner : State → State × Reply} {s : State} (h : canTake st kind tag f s) (hl : f.length + 2 ∉ lengths) :
    takeRequest st kind tag f lengths owner s =
      placeReply st kind tag (.answer .badField (BitVec.ofNat 8 (lengths.headD 0))) (afterTaking st s) := by
  obtain ⟨hp, hn | hn⟩ := h <;> simp [takeRequest, whenRunning, hp, takeFrame, hn, hl]

/-! ### Departures, queue positions and the position measured from -/

/-- Where no departure waits to be acted on, settling it changes nothing (R60, R84; log entry 16). -/
theorem settleDeparture_settled {st : Station} {s : State} (hl : (s.link st).lapseReported = false)
    (he : (s.link st).emptyReported = false) : settleDeparture st s = s := by
  simp [settleDeparture, leadLapse, emptyFollower, hl, he]

/-- A station with no entry in the lead queue has no position in it (R68). -/
theorem queueDetail_outside {st : Station} {q : List LeadEntry} (h : ∀ e ∈ q, e.station ≠ st) : queueDetail st q = 0 := by
  have hn : entryOf st q = none := by simpa [entryOf] using h
  simp [queueDetail, hn]

/-- An ABSENT sender of a Take Lead is told NO_CHANGE with detail 0, and the Lead Arbiter does nothing (R67). -/
theorem takeLeadOwner_absent {st : Station} {f : List Byte} {s : State} (h : (s.link st).present = false) :
    takeLeadOwner st f s = (s, .answer .noChange 0) := by
  simp [takeLeadOwner, h, answered]

/-! ### What a change of holder passes on (R77, R161) -/

@[simp] theorem passedOn_grid (s : State) : (passedOn s).grid = s.grid := rfl
@[simp] theorem passedOn_lead (s : State) : (passedOn s).lead = s.lead := rfl
@[simp] theorem passedOn_fru (s : State) : (passedOn s).fru = s.fru := rfl
@[simp] theorem passedOn_lane (s : State) (l : LaneId) : (passedOn s).lane l = s.lane l := rfl
@[simp] theorem passedOn_link (s : State) (i : Station) : (passedOn s).link i = s.link i := rfl
@[simp] theorem passedOn_pin (s : State) (p : PinId) : (passedOn s).pin p = leadShown (s.pin p) := mapEach_get _ _ _
@[simp] theorem passedOn_follower (s : State) (i : Station) : (passedOn s).follower i =
    if s.lead.holder.map LeadEntry.station = some i then { s.follower i with phaseError := none } else s.follower i :=
  mapEach_get _ _ _

@[simp] theorem measuredPos_present (g : Grid) : measuredPos .present g = g.pos := rfl
@[simp] theorem measuredPos_beforeFrame (g : Grid) : measuredPos .beforeFrame g = g.before.getD g.pos := rfl

/-! ### What enters a port -/

/-- A tick code enters where the FIFO holds 13 codes or fewer and none is owed, and is owed elsewhere (R166). -/
theorem portTick_enters {c : Byte} {p : Port} (h : p.fifo.length ≤ 13) (ho : p.owedTicks = 0) :
    portTick c p = portEnter ⟨c, true⟩ p := if_pos ⟨h, ho⟩
theorem portTick_owed {c : Byte} {p : Port} (h : 13 < p.fifo.length ∨ p.owedTicks ≠ 0) :
    portTick c p = { p with owedTicks := satInc 255 p.owedTicks, owedTick := some c } :=
  if_neg fun ⟨a, b⟩ => h.elim (Nat.not_lt.2 a) (fun c => c b)

/-- A code enters the FIFO of a port that is sending (R164). -/
theorem portEnter_sending {c : FifoCode} {p : Port} (h : p.sending.isSome) :
    portEnter c p = { p with fifo := p.fifo ++ [c] } := by
  cases hs : p.sending <;> simp_all [portEnter]

/-- Before frames and links have begun no moment but start-up's comes (log entry 3). -/
theorem whenRunning_running {f : State → State} {s : State} (h : s.phase = .running) : whenRunning f s = f s := by
  simp [whenRunning, h]

end Sys2Proof.Machine
end

