-- ==== Sys2Proof/WellFormed.lean ====
section
/-! DEFINITION. Which terms of Instr spell a command the outside world can send. -/

namespace Sys2Proof

/-- A frame's body is KIND, TAG and at most 38 bytes more: LEN is 2 to 40 (R178). -/
def fieldsWf (fields : List Byte) : Bool := decide (fields.length ≤ 38)

/-- The station-to-part kinds are 0x01 to 0x15 (R193). -/
def knownKind (kind : Byte) : Bool := decide (1 ≤ kind.toNat ∧ kind.toNat ≤ 21)

/-- An order names no lane and no pin twice (log entry 9). -/
def FrameOrder.wf (o : FrameOrder) : Bool := decide (o.lanes.Nodup ∧ o.latePins.Nodup)

/-- Two rising edges lie some time apart. -/
def WckPeriod.wf (w : WckPeriod) : Bool := decide (0 < w.period)

/-- The check of a command's operands. -/
def Instr.wf : Instr → Bool
  | .presence _ _ f | .query _ _ f | .takeLead _ _ f | .yield _ _ f | .seize _ _ f | .seizeCodeSet _ _ f
  | .tempo _ _ f | .nudge _ _ f | .setMeter _ _ f | .mark _ _ f | .inputSet _ _ f
  | .laneSet _ _ f | .laneEnable _ _ f | .laneDisable _ _ f | .laneRelease _ _ f | .pinSet _ _ f
  | .portSet _ _ f | .referenceSet _ _ f | .sceneSave _ _ f | .gridClear _ _ f => fieldsWf f
  | .transport _ _ b => fieldsWf b.fields
  | .unknownKind _ k _ f => !knownKind k && fieldsWf f
  | .frameEvent o | .switchToExternal o | .switchToInternal o => o.wf
  | .wckEdge w o => w.wf && o.wf
  | .sceneSaveComplete _ | .hardwareReset | .rstnRelease _ | .oscillatorStarted | .handoverEffect
  | .transportBoundary | .laneActivation _ | .stagedPartApply _ | .pendingDisableEffect _ | .pinTimerEnd _
  | .activeUntilExpiry _ | .lastEmissionExpiry _ | .lastStampExpiry _ | .edgeFrameExpiry _
  | .markInputEdge _ _ | .wckSilence | .characterReceived _ _ | .gapDetected _ | .breakDetected _ _
  | .presenceExpiry _ | .leadLapse _ | .followerEmptied _ | .linkMessageEnd _ | .portCharacterEnd _
  | .lineReturnsToMark _ => true

end Sys2Proof
end

