-- ==== Sys2Proof/Tests/Slice0.lean ====
section
/-! SUPPORT. Tests of single commands, their expected results taken from the manual's worked examples and tables, the
smoke tests of WellFormed, and for each statement with hypotheses a state and operands that meet them. -/

namespace Sys2Proof.Machine.Tests

/-! ### Small states -/

/-- A PRESENT link with nothing waiting. -/
def linkUp : Link := { Link.reset with present := true, countdown := some 24000 }

/-- Frames have begun, every link is PRESENT, nothing else has happened. -/
def up : State := { State.reset with
  phase := .running
  fru := { Fru.reset with count := 1000000 }
  links := Vector.replicate 4 linkUp }

/-- A grid at 120 BPM in beat 5,000, the bar of the worked holder mark (chapter 3). -/
def grid120 : Grid :=
  ⟨.running, ⟨5000, 35791400⟩, 120000, 178957, 178957, none, .none, 4, none, 4997, 3, 9, .none, none⟩

/-- Station S0 leads in SET mode with the default terms. -/
def house : State := { up with
  grid := grid120
  lead := { Lead.reset with holder := some ⟨0, Terms.default⟩ } }

/-- Station S2 leads in MARK mode, its record as the worked holder mark has it. -/
def marked : State := { house with
  fru := { Fru.reset with count := 1024200 }
  lead := { Lead.reset with holder := some ⟨2, ⟨.mark, 4, 20, 4, .now, none⟩⟩ }
  followers := (Vector.replicate 4 Follower.empty).set 2
    ⟨4, some 1000000, [24000, 24000, 24000], some 120000, none⟩ }

/-- A lane's settings with a target. -/
def onPin (p : PinId) : Settings := { Settings.default with target := .pin p }

/-- A state with one lane replaced. -/
def withLane4 (ln : Lane) (s : State) : State := s.setLane 4 ln

/-- A command answers a next state of which p holds. -/
def gives (c : Instr) (s : State) (p : State → Bool) : Bool :=
  match exec c s with
  | .next t => p t
  | _ => false

/-- The last message placed for a station, sent at once where nothing waits. -/
def lastFor (st : Station) (s : State) : Option Message := ((s.link st).sending.toList ++ (s.link st).txQueue).getLast?

/-- Any request can be taken where frames have begun and no frame waits. -/
theorem takes {s : State} (h : s.phase = .running ∧ nextFrame s = none) (st : Station) (k t : Byte) (f : List Byte) :
    canTake st k t f s := ⟨h.1, .inl h.2⟩

/-! ### WellFormed refuses what it checks -/

theorem test_wf_refuses_long_fields : Instr.wf (.mark 0 1 (List.replicate 39 0)) = false := by decide
theorem test_wf_accepts_longest_fields : Instr.wf (.mark 0 1 (List.replicate 38 0)) = true := by decide
theorem test_wf_refuses_long_transport : Instr.wf (.transport 0 1 ⟨List.replicate 39 0, .present⟩) = false := by decide
theorem test_wf_refuses_known_kind : Instr.wf (.unknownKind 0 0x15 1 []) = false := by decide
theorem test_wf_accepts_unknown_kind : Instr.wf (.unknownKind 0 0x16 1 []) = true := by decide
theorem test_wf_refuses_repeated_lane : Instr.wf (.frameEvent ⟨[1, 1], [], false⟩) = false := by decide
theorem test_wf_refuses_repeated_pin : Instr.wf (.frameEvent ⟨[], [2, 2], false⟩) = false := by decide
theorem test_wf_refuses_period_zero : Instr.wf (.wckEdge ⟨0, 0⟩ FrameOrder.plain) = false := by decide
theorem test_wf_accepts_plain_frame : Instr.wf (.frameEvent FrameOrder.plain) = true := by decide

/-- No row of the table gives bits, so no word spells a command. -/
theorem test_no_word_spells_a_command : decodeTableWord 32 0x14 = none := by decide

/-! ### Worked examples of the manual -/

/-- Section 1.3: at 120 BPM the base increment is 178,957 u. -/
theorem test_base_increment_120 : baseIncrement 120000 = 178957 := by decide

/-- R179: over 0x31 to 0x39 the register ends at 0x29B1. -/
theorem test_crc_check_value : crc16 [0x31, 0x32, 0x33, 0x34, 0x35, 0x36, 0x37, 0x38, 0x39] = 0x29B1 := by
  decide +kernel

/-- Worked holder mark: the glide, the trim, the numbering and the phase error of one mark. -/
theorem test_mark_of_the_holder : gives (.mark 2 1 (be2 300 ++ [1])) marked (fun t =>
    decide (t.grid.glide = some ⟨120000, 120125, 4, 0⟩ ∧ t.grid.trim = .armed (-373) ∧ t.grid.barStart = 5000 ∧
      t.grid.beatInBar = 0 ∧ (t.follower 2).phaseError = some (-17895700))) = true := by decide +kernel

/-- Worked holder mark: the record and the answer. -/
theorem test_mark_record_and_answer : gives (.mark 2 1 (be2 300 ++ [1])) marked (fun t =>
    decide ((t.follower 2).history = [23900, 24000, 24000, 24000] ∧ (t.follower 2).estimate = some 120125 ∧
      lastFor 2 t = some (.answer 0x0A 1 0x00 3))) = true := by decide +kernel

/-- Worked interval sequence: the late tap at 599,495. -/
theorem test_late_tap_is_an_outlier :
    markOutcome 599495 ⟨4, some 571995, [23985, 24010, 24000], some 120008, none⟩ = .outlier := by decide

/-- Worked hold-off: the edge at 2,000,150 is discarded. -/
theorem test_edge_within_the_hold_off : gives (.markInputEdge 0 .lowToHigh)
    ({ up with fru := { up.fru with count := 2000150 } }.setInput 0
      ⟨⟨some 3, .rising, 4800, false⟩, some 2000000, some .accepted⟩)
    (fun t => decide ((t.input 0).lastEdge = some 2000000)) = true := by decide +kernel

/-- Worked hold-off: the edge at 2,004,900 is delivered, and is a BOUNCE. -/
theorem test_edge_delivered_as_bounce : gives (.markInputEdge 0 .lowToHigh)
    (({ up with fru := { up.fru with count := 2004900 } }.setInput 0
      ⟨⟨some 3, .rising, 4800, false⟩, some 2000000, some .accepted⟩).setFollower 3
        ⟨2, some 2000000, [24000, 24000], some 120000, none⟩)
    (fun t => decide ((t.input 0).lastOutcome = some .bounce ∧ (t.follower 3).lastStamp = some 2000000)) = true := by
  decide +kernel

/-- Worked request and answer: S3 joins behind S2, its follow-glide clamped. -/
theorem test_take_lead_clamped_and_queued : gives (.takeLead 3 0x41 [1, 40, 0, 20, 4, 0, 0, 0, 0])
    { up with lead := ⟨some ⟨1, Terms.default⟩, [⟨2, Terms.default⟩], none, 0, none⟩ }
    (fun t => decide (lastFor 3 t = some (.answer 0x03 0x41 0x02 2) ∧ t.lead.queue.map LeadEntry.station = [2, 3])) =
    true := by decide +kernel

/-- Worked ownership sequence: S1 without FORCE is refused HELD with detail 3. -/
theorem test_lane_set_on_an_owned_lane : gives (.laneSet 1 7 (offsetBytes 4 2 0 0 (-3600)))
    (withLane4 { Lane.reset with owner := some 3 } up)
    (fun t => decide (lastFor 1 t = some (.answer 0x0D 7 0x14 3) ∧ (t.lane 4).settings.offset = 0)) = true := by
  decide +kernel

/-- Worked ownership sequence: a wrong code sets the latch with S0, Lane Disable and count 1. -/
theorem test_forced_disable_with_a_wrong_code : gives (.laneDisable 0 8 ([4, 0, 2] ++ be2 2704))
    { withLane4 { Lane.reset with owner := some 3, state := .arming, settings := onPin 2 } up with
      lead := { Lead.reset with code := 2741 } }
    (fun t => decide (t.lead.latch = some ⟨0, 0x0F, 1⟩ ∧ (t.lane 4).state = .arming)) = true := by decide +kernel

/-- R121: an enabled PIN lane takes its pin and waits for its activation point. -/
theorem test_lane_enable_takes_the_pin : gives (.laneEnable 3 9 [4, 0, 0, 0])
    (withLane4 { Lane.reset with settings := onPin 2 } house)
    (fun t => decide ((t.lane 4).state = .arming ∧ (t.lane 4).activation = some (.barStart 5001) ∧
      (t.pin 2).function = .lane)) = true := by decide +kernel

/-- Worked ownership sequence: the owner releases L4. -/
theorem test_lane_release : gives (.laneRelease 0 1 [4]) (withLane4 { Lane.reset with owner := some 0 } up)
    (fun t => decide ((t.lane 4).owner = none ∧ lastFor 0 t = some (.answer 0x10 1 0x00 4))) = true := by decide +kernel

/-- R24: a Nudge of 0 is answered NO_CHANGE and arms nothing. -/
theorem test_nudge_of_zero : gives (.nudge 0 1 [0]) house (fun t => decide (t.grid.trim = .none)) = true := by
  decide +kernel

/-- R23: a Tempo above the range is clamped to 300,000 mBPM. -/
theorem test_tempo_clamped : gives (.tempo 0 1 (be3 400000 ++ be1 0)) house (fun t =>
    decide (t.grid.base = 300000 ∧ lastFor 0 t = some (.answer 0x07 1 0x02 0))) = true := by decide +kernel

/-- R12: the frame event that completes beat 3 of a 4-beat bar is a bar crossing. -/
theorem test_bar_crossing : gives (.frameEvent FrameOrder.plain)
    { house with grid := { grid120 with pos := ⟨5000, 4294967295⟩ } }
    (fun t => decide (t.grid.pos = ⟨5001, 178956⟩ ∧ t.grid.beatInBar = 0 ∧ t.grid.barCount = 10 ∧
      t.grid.barStart = 5001)) = true := by decide +kernel

/-- R31: a frame event in UNSET only counts. -/
theorem test_frame_event_in_unset : gives (.frameEvent FrameOrder.plain) up (fun t =>
    decide (t.fru.count = 1000001 ∧ t.grid = up.grid)) = true := by decide +kernel

/-- R166: with 14 codes in the FIFO a tick is owed; R164 and R169: at the next leaving it enters. -/
theorem test_owed_tick_drains : gives (.portCharacterEnd 2)
    (up.setPort 2 (portTick 0xA1 ⟨.r31250, some ⟨0, .r31250⟩, List.replicate 14 ⟨0xA1, true⟩, 0, none, none, false⟩))
    (fun t => decide ((t.port 2).owedTicks = 0 ∧ (t.port 2).fifo.length = 14)) = true := by decide +kernel

/-- R185: a window of 50 ms is clamped to 100 ms and the countdown is 4,800 frames. -/
theorem test_presence_clamped : gives (.presence 1 5 (be2 50)) up (fun t =>
    decide ((t.link 1).countdown = some 4800 ∧ lastFor 1 t = some (.answer 0x01 5 0x02 0))) = true := by decide +kernel

/-- R68: a Take Lead refused BAD_FIELD from a station in the queue has its queue position in the detail. -/
theorem test_bad_terms_from_the_queue : gives (.takeLead 2 5 [2, 0, 0, 0, 4, 0, 0, 0, 0])
    { up with lead := ⟨some ⟨1, Terms.default⟩, [⟨3, Terms.default⟩, ⟨2, Terms.default⟩], none, 0, none⟩ }
    (fun t => decide (lastFor 2 t = some (.answer 0x03 5 0x19 2))) = true := by decide +kernel

/-- R67: an ABSENT sender's detail is 0, whatever entry of it still stands. -/
theorem test_absent_take_lead : (takeLeadOwner 2 (List.replicate 9 0)
    { State.reset with lead := ⟨some ⟨1, Terms.default⟩, [⟨2, Terms.default⟩], none, 0, none⟩ }).2 =
      .answer .noChange 0 := by decide

/-- R84: a station whose link is PRESENT again before its departure was acted on holds no lead; R77: the house is left. -/
theorem test_returned_station_holds_no_lead : gives
    (.characterReceived 0 (.byte ((crc16 [2, 0x04, 0x01]).extractLsb' 0 8)))
    (house.setLink 0 { Link.reset with
      lapseReported := true, receiver := .check 2 [0x04, 0x01] (some ((crc16 [2, 0x04, 0x01]).extractLsb' 8 8)) })
    (fun t => decide ((t.link 0).present = true ∧ t.lead.holder = none ∧ t.grid.state = .holdover)) = true := by
  decide +kernel

/-- R101: measured before the frame event of its frame period, P + H does not yet reach beat 5,001, which it has passed
after it. -/
theorem test_boundary_measured_before_the_frame : gives (.transport 0 1 ⟨[kindByte .start, quantumByte .beat], .beforeFrame⟩)
    (withLane4 { Lane.reset with state := .arming, settings := { onPin 2 with offset := -4800 } }
      { house with grid := { grid120 with pos := ⟨5000, 3436152652⟩, before := some ⟨5000, 3435973695⟩ } })
    (fun t => decide (t.tc.pending = some ⟨.start, .beat, 5001⟩)) = true := by decide +kernel
theorem test_boundary_measured_after_the_frame : gives (.transport 0 1 ⟨[kindByte .start, quantumByte .beat], .present⟩)
    (withLane4 { Lane.reset with state := .arming, settings := { onPin 2 with offset := -4800 } }
      { house with grid := { grid120 with pos := ⟨5000, 3436152652⟩, before := some ⟨5000, 3435973695⟩ } })
    (fun t => decide (t.tc.pending = some ⟨.start, .beat, 5002⟩)) = true := by decide +kernel

/-- R193: a part-to-station kind is refused UNKNOWN_KIND with the kind as received. -/
theorem test_unknown_kind : gives (.unknownKind 2 0x80 9 []) up (fun t =>
    decide (lastFor 2 t = some (.answer 0x80 9 0x1B 0))) = true := by decide +kernel

/-- R183: the frame event at countdown 1 makes the link ABSENT with its default window. -/
theorem test_presence_expires : gives (.presenceExpiry 3) (up.setLink 3 { linkUp with countdown := some 1, windowMs := 900 })
    (fun t => decide ((t.link 3).present = false ∧ (t.link 3).windowMs = 500)) = true := by decide +kernel

/-! ### States that meet the statements' hypotheses -/

theorem house_follower (i : Station) : house.follower i = Follower.empty := by revert i; decide
theorem house_lane (l : LaneId) : house.lane l = Lane.reset := by revert l; decide
theorem house_pin (p : PinId) : house.pin p = Pin.reset := by revert p; decide
theorem house_port (p : PortId) : house.port p = Port.reset := by revert p; decide
theorem house_link (i : Station) : house.link i = linkUp := by revert i; decide
theorem house_input (i : InputId) : house.input i = MarkInput.reset := by revert i; decide
theorem house_off (l : LaneId) : ¬ (house.lane l).state ≠ .off := by rw [house_lane]; decide
theorem default_ok : SettingsOk Settings.default := by constructor <;> first | decide | rfl
theorem empty_ok : FollowerOk Follower.empty := by constructor <;> decide

/-- The house with other items of the Grid Engine, the followers, the Lead Arbiter and the Transport Controller is safe
where those are. -/
theorem safe_of {g : Grid} {f : Vector Follower 4} {x : Lead} {y : Transport} {c : Frame}
    (hf : ∀ i, FollowerOk (State.follower { house with followers := f } i)) (hg : GridOk g) (hx : LeadOk x)
    (hy : TransportOk y) (h1 : g.state = .running → x.holder.isSome) (h2 : g.state = .holdover → x.holder = none)
    (h3 : g.state = .unset → y.state = .stopped) :
    Safe { house with grid := g, followers := f, lead := x, tc := y, fru := { house.fru with count := c } } := by
  have hr : FruOk house := by constructor <;> decide
  have down : ∀ i : Station, (house.link i).present = false → False := by intro i; rw [house_link]; decide
  constructor
  · exact ⟨hr.1, hr.2, hr.3, hr.4, hr.5, hr.6, hr.7, hr.8, hr.9, fun h => absurd rfl h⟩
  · exact ⟨hf, fun i h => (down i h).elim⟩
  · exact ⟨hg, hx, hy, h1, h2, h3, fun h => absurd rfl h, fun i h => (down i h).elim⟩
  · constructor
    intro l; change LaneOk (house.lane l); rw [house_lane]
    constructor
    · exact default_ok
    all_goals first | decide | (intro _ h; simp [Lane.reset] at h) | (intro h; exact absurd h (by decide))
  · constructor
    · intro p
      change (house.pin p).function = .lane ↔ ∃ l, holdsPin house l p
      rw [house_pin]; constructor
      · intro h; exact absurd h (by decide)
      · rintro ⟨l, h, _⟩; exact absurd h (house_off l)
    · exact fun l m p h => absurd h.1 (house_off l)
    · intro p; change (house.pin p).source.isSome ↔ _; rw [house_pin]; change _ ↔ (house.pin p).function = _
      rw [house_pin]; decide
    · intro p; change (house.pin p).timing = true → (house.pin p).activeUntil.isSome; rw [house_pin]; decide
  · constructor; intro p; change PortOk (house.port p); rw [house_port]; constructor <;> decide
  · constructor; intro i; change LinkOk (house.link i); rw [house_link]
    constructor <;> first | decide | trivial
  · have hs : StoreOk house := by
      constructor <;> first | decide | (intro sc h; simp [house, up, State.reset, Store.reset] at h) |
        (intro i; rw [house_input]; exact ⟨by decide, by decide⟩)
    exact ⟨hs.1, hs.2, hs.3, hs.4, hs.5, hs.6⟩

/-- L4 ACTIVE or ARMING on a pin of its own. -/
theorem safe_pinLane {s : State} (h : Safe s) (hl : s.lanes = house.lanes) (hp : s.pins = house.pins) {ln : Lane}
    {p : PinId} {q : Pin} (ho : LaneOk ln) (hs : ln.state ≠ .off) (hk : ln.settings.kind = .pin)
    (ht : ln.settings.target = .pin p) (hf : q.function = .lane) (hq : q.source = none)
    (hm : q.timing = true → q.activeUntil.isSome) : Safe ((s.setLane 4 ln).setPin p q) := by
  have off : ∀ l, (s.lane l).state = .off := by
    intro l; have := house_lane l; unfold State.lane at *; rw [hl, this]; decide
  have pin : ∀ x, s.pin x = Pin.reset := by intro x; have := house_pin x; unfold State.pin at *; rw [hp, this]
  have held : ∀ l x, holdsPin ((s.setLane 4 ln).setPin p q) l x → l = 4 ∧ x = p := by
    intro l x ⟨h1, _, h3⟩
    rw [setPin_lane, setLane_lane] at h1 h3
    split at h1
    · rename_i e; rw [if_pos e, ht] at h3; exact ⟨e, by cases h3; rfl⟩
    · exact absurd (off l) h1
  refine ⟨⟨h.fru.1, h.fru.2, h.fru.3, h.fru.4, h.fru.5, h.fru.6, h.fru.7, h.fru.8, h.fru.9, h.fru.10⟩,
    ⟨h.followers.1, h.followers.2⟩, ⟨h.house.1, h.house.2, h.house.3, h.house.4, h.house.5, h.house.6, h.house.7,
    h.house.8⟩, ⟨?_⟩, ⟨?_, ?_, ?_, ?_⟩, ⟨h.ports.1⟩, ⟨h.links.1⟩, ⟨h.store.1, h.store.2, h.store.3, h.store.4, h.store.5,
    h.store.6⟩⟩
  · intro l; rw [setPin_lane, setLane_lane]; split
    · exact ho
    · exact h.lanes.1 l
  · intro x; rw [setPin_pin]; split
    · rename_i e; subst e
      exact ⟨fun _ => ⟨4, by simpa [holdsPin] using ⟨hs, hk, ht⟩⟩, fun _ => hf⟩
    · rename_i e; rw [setLane_pin, pin]
      exact ⟨fun c => absurd c (by decide), fun ⟨l, c⟩ => absurd (held l x c).2 e⟩
  · intro l m x a b; rw [(held l x a).1, (held m x b).1]
  · intro x; rw [setPin_pin]; split
    · rw [hq, hf]; decide
    · rw [setLane_pin, pin]; decide
  · intro x; rw [setPin_pin]; split
    · exact hm
    · rw [setLane_pin, pin]; decide

/-- L4 on a target that is no pin. -/
theorem safe_otherLane {s : State} (h : Safe s) (hl : s.lanes = house.lanes) {ln : Lane} (ho : LaneOk ln)
    (hk : ln.settings.kind ≠ .pin) : Safe (s.setLane 4 ln) := by
  have off : ∀ l, (s.lane l).state = .off := by
    intro l; have := house_lane l; unfold State.lane at *; rw [hl, this]; decide
  have none : ∀ l x, ¬ holdsPin (s.setLane 4 ln) l x := by
    intro l x ⟨h1, h2, _⟩
    rw [setLane_lane] at h1 h2
    split at h1
    · rename_i e; rw [if_pos e] at h2; exact hk h2
    · exact h1 (off l)
  refine ⟨⟨h.fru.1, h.fru.2, h.fru.3, h.fru.4, h.fru.5, h.fru.6, h.fru.7, h.fru.8, h.fru.9, h.fru.10⟩,
    ⟨h.followers.1, h.followers.2⟩, ⟨h.house.1, h.house.2, h.house.3, h.house.4, h.house.5, h.house.6, h.house.7,
    h.house.8⟩, ⟨?_⟩, ⟨?_, ?_, h.pins.3, h.pins.4⟩, ⟨h.ports.1⟩, ⟨h.links.1⟩, ⟨h.store.1, h.store.2, h.store.3, h.store.4,
    h.store.5, h.store.6⟩⟩
  · intro l; rw [setLane_lane]; split
    · exact ho
    · exact h.lanes.1 l
  · intro x
    exact ⟨fun c => by obtain ⟨l, hh⟩ := (h.pins.1 x).1 c; exact absurd (off l) hh.1, fun ⟨l, c⟩ => absurd c (none l x)⟩
  · intro l m x a; exact absurd a (none l x)

/-! The grids, leads and transports of the small states. -/

theorem terms_ok (t : Terms) (h : t.followGlide ≤ 32 ∧ t.deadBand ≤ 1000 ∧ 1 ≤ t.gain ∧ t.gain ≤ 8)
    (ht : ∀ v, t.tempo = some v → TempoOk v) : TermsOk t := ⟨h.1, h.2.1, h.2.2, ht⟩
theorem terms_plain (t : Terms) (h : t.followGlide ≤ 32 ∧ t.deadBand ≤ 1000 ∧ 1 ≤ t.gain ∧ t.gain ≤ 8)
    (ht : t.tempo = none) : TermsOk t := terms_ok t h (by rw [ht]; intro v hv; cases hv)
theorem grid120_ok : GridOk grid120 := by
  constructor <;> first | decide | exact ⟨by decide, by decide⟩ | exact fun _ => ⟨by decide, by decide⟩ |
    (intro x h; simp [grid120] at h)
/-- The grid at another fraction, with the meter of the next bar and the position before its latest frame event. -/
theorem gridAt_ok (f : BitVec 32) (p : Option (BitVec 32)) (m : Option Nat) (hm : ∀ n, m = some n → MeterOk n) :
    GridOk { grid120 with pos := ⟨5000, f⟩, pendingMeter := m, before := p.map fun x => ⟨5000, x⟩ } := by
  refine ⟨grid120_ok.1, hm, grid120_ok.3, grid120_ok.4, grid120_ok.5, grid120_ok.6, fun h => (by cases h),
    grid120_ok.8, grid120_ok.9, fun h => (by cases h), ?_⟩
  intro x hx
  cases p with
  | none => cases hx
  | some a => cases hx; rfl
theorem gridReset_ok : GridOk Grid.reset := by
  constructor <;> first | decide | exact ⟨by decide, by decide⟩ | (intro h; exact absurd h (by decide)) |
    (intro x h; simp [Grid.reset] at h)
/-- A lead with these terms of its holder S0 or S2, and at most S2 behind it. -/
theorem lead_ok {st : Station} {t : Terms} {q : List LeadEntry} {c : BitVec 16} (ht : TermsOk t)
    (hq : ∀ e ∈ q, TermsOk e.terms) (hn : (st :: q.map LeadEntry.station).Nodup) : LeadOk ⟨some ⟨st, t⟩, q, none, c, none⟩ := by
  refine ⟨?_, hq, fun h => (by cases h), by simpa using hn, fun w h => (by cases h)⟩
  rintro h hh; cases hh; exact ht
theorem noLead_ok : LeadOk Lead.reset := by
  refine ⟨fun h hh => (by cases hh), fun e he => (by cases he), fun _ => rfl, by decide, fun w hw => (by cases hw)⟩
theorem stopped_ok : TransportOk Transport.reset := by
  constructor <;> first | decide | (intro p h; exact absurd h (by decide))
theorem default_terms : TermsOk Terms.default := terms_plain _ (by decide) rfl
theorem house_followers : ∀ i, FollowerOk (State.follower { house with followers := house.followers } i) := by
  intro i; rw [show State.follower { house with followers := house.followers } i = house.follower i from rfl,
    house_follower]; exact empty_ok

/-- A safe state with a RUNNING grid and a holder. -/
theorem safe_house : Safe house :=
  safe_of (c := 1000000) house_followers grid120_ok (lead_ok default_terms (fun e he => by cases he) (by decide)) stopped_ok (fun _ => rfl)
    (fun h => absurd h (by decide)) (fun h => absurd h (by decide))

theorem takes_house (st : Station) (k t : Byte) (f : List Byte) : canTake st k t f house := takes (by decide) st k t f
theorem takes_up (st : Station) (k t : Byte) (f : List Byte) : canTake st k t f up := takes (by decide) st k t f

/-- The house with another grid state, and with no holder where it is HOLDOVER. -/
def held : State := { up with grid := { grid120 with state := .holdover } }
/-- The holder S0 in UNSET. -/
def unset0 : State := { house with grid := Grid.reset }
/-- Every link ABSENT, one frame waiting at none. -/
def away : State := { up with links := Vector.replicate 4 Link.reset }
/-- The lead with a code, and S2 queued with terms of align BAR. -/
def barTerms : Terms := { Terms.default with align := .bar }
def coded : State := { house with lead := ⟨some ⟨0, Terms.default⟩, [⟨2, barTerms⟩], none, 2741, none⟩ }
/-- The same in UNSET, the terms of S2 with a tempo. -/
def brisk : Terms := { Terms.default with tempo := some 118000 }
def unsetCoded : State := { unset0 with lead := ⟨some ⟨0, Terms.default⟩, [⟨2, brisk⟩], none, 2741, none⟩ }
/-- The reference in each of its states. -/
def refState (st : RefState) (sw : Switch) (run : Nat) (isOpen : Bool) : State :=
  { house with fru := { house.fru with state := st, switch := sw, run := run, periodOpen := isOpen, requested := .external } }

theorem brisk_ok : TermsOk brisk := terms_ok _ (by decide) (by intro v h; cases h; exact ⟨by decide, by decide⟩)
theorem safe_unset0 : Safe unset0 :=
  safe_of (c := 1000000) house_followers gridReset_ok (lead_ok default_terms (fun e he => by cases he) (by decide)) stopped_ok
    (fun h => absurd h (by decide)) (fun h => absurd h (by decide)) (fun _ => rfl)
theorem safe_up : Safe up :=
  safe_of (c := 1000000) house_followers gridReset_ok noLead_ok stopped_ok
    (fun h => absurd h (by decide)) (fun h => absurd h (by decide)) (fun _ => rfl)
theorem safe_coded : Safe coded :=
  safe_of (c := 1000000) house_followers grid120_ok
    (lead_ok default_terms (by intro e he; simp at he; subst he; exact terms_plain _ (by decide) rfl) (by decide)) stopped_ok
    (fun _ => rfl) (fun h => absurd h (by decide)) (fun h => absurd h (by decide))
theorem safe_unsetCoded : Safe unsetCoded :=
  safe_of (c := 1000000) house_followers gridReset_ok
    (lead_ok default_terms (by intro e he; simp at he; subst he; exact brisk_ok) (by decide)) stopped_ok
    (fun h => absurd h (by decide)) (fun h => absurd h (by decide)) (fun _ => rfl)

theorem not_holder (st : Station) (h : st ≠ 0) : ∀ x, house.lead.holder = some x → x.station ≠ st := by
  intro x hx; obtain rfl : ⟨0, Terms.default⟩ = x := by simpa [house] using hx
  exact fun e => h e.symm
theorem coded_holder (st : Station) (h : st ≠ 0) : ∀ x, coded.lead.holder = some x → x.station ≠ st := by
  intro x hx; obtain rfl : ⟨0, Terms.default⟩ = x := by simpa [coded] using hx
  exact fun e => h e.symm
theorem no_holder (st : Station) : ∀ x, up.lead.holder = some x → x.station ≠ st := by
  intro x hx; simp [up, State.reset, Lead.reset] at hx

/-- A command that gives a state of which p holds. -/
theorem of_gives {c : Instr} {s : State} {p : State → Bool} (h : gives c s p = true) :
    ∃ t, exec c s = .next t ∧ p t = true := by
  unfold gives at h
  cases e : exec c s with
  | next t => exact ⟨t, rfl, by simpa [e] using h⟩
  | fault f => simp [e] at h
  | refused r => simp [e] at h

/-! ### Witnesses: the machine -/

theorem witness_StepRunsTheFrontCommand :
    State.reset.pending = [] ∧ exec .wckSilence State.reset = .next State.reset := ⟨rfl, rfl⟩
theorem witness_SafeKept : Safe house ∧ step house = .next house := ⟨safe_house, rfl⟩
theorem witness_BlocksKept : step house = .next house ∧ LinksOk house ∧ PortsOk house ∧ FollowersOk house ∧ FruOk house :=
  ⟨rfl, safe_house.links, safe_house.ports, safe_house.followers, safe_house.fru⟩
theorem witness_CountAndPositionMoveByFrameEvents :
    exec (.frameEvent FrameOrder.plain) State.reset = .next State.reset ∧ exec .handoverEffect house = .next house ∧
    house.grid.state ≠ .unset ∧ house.phase = .running ∧
    ∃ t, exec .hardwareReset house = .next t ∧ t.grid.state = .unset :=
  ⟨rfl, rfl, by decide, by decide, _, rfl, by decide⟩
theorem witness_TransportIgnoresTheLead : Safe house ∧ exec (.leadLapse 1) house = .next house :=
  ⟨safe_house, rfl⟩

/-! ### Witnesses: start-up and the scene -/

/-- A scene of the reset values. -/
def scene0 : Scene :=
  ⟨Vector.replicate 16 ⟨Settings.default, true⟩, Vector.replicate 8 ⟨.level, .normal, none⟩,
    Vector.replicate 2 MarkInput.reset.setting, Vector.replicate 4 .r31250, 4, 0⟩

theorem sceneOk0 : SceneOk scene0 := by
  have hl : ∀ i : Fin 16, scene0.lanes[i] = ⟨Settings.default, true⟩ := by decide
  have hp : ∀ i : Fin 8, scene0.pins[i] = ⟨.level, .normal, none⟩ := by decide
  have hi : ∀ i : Fin 2, scene0.inputs[i] = MarkInput.reset.setting := by decide
  constructor
  · exact ⟨by decide, by decide⟩
  · intro i; rw [hl]; constructor <;> first | decide | rfl
  · intro i h; rw [hl] at h; exact absurd h (by decide)
  · intro i j p h; rw [hl] at h; exact absurd h (by decide)
  · intro i; rw [hp]; decide
  · intro i; rw [hp]; decide
  · intro i; rw [hi]; exact ⟨by decide, by decide⟩

/-- The SS writing a scene, its Answer waiting for S1. -/
def savingNow (link : Option Station) : State :=
  { house with store := ⟨some scene0, none, false, .notRequested, .none, some ⟨7, link⟩⟩ }

theorem witness_HardwareResetHoldsResetValues : house.store.saving = none ∧ (savingNow (some 1)).store.saving.isSome := by
  decide
theorem witness_StartUpBeginsFrames : State.reset.phase = .reset ∧
    ({ State.reset with phase := .starting } : State).phase = .starting ∧
    ({ State.reset with phase := .starting } : State).straps.load = false ∧
    ({ State.reset with phase := .starting, straps := ⟨0, false, true⟩ } : State).store.valid = false ∧
    SceneOk scene0 ∧ ({ State.reset with
      phase := .starting, straps := ⟨3, true, true⟩, store := { Store.reset with stored := some scene0, valid := true } } :
      State).store.stored = some scene0 := ⟨rfl, rfl, rfl, rfl, sceneOk0, rfl⟩
/-- A stored scene with an indicator pin of each kind of source. -/
def lampScene : Scene := { scene0 with
  pins := (scene0.pins.set 1 ⟨.indicator, .normal, some .externalRef⟩).set 2 ⟨.indicator, .normal, some .bar⟩ }
theorem lampScene_ok : SceneOk lampScene := by
  obtain ⟨h1, h2, h3, h4, _, _, h7⟩ := sceneOk0
  exact ⟨h1, h2, h3, h4, by decide, by decide, h7⟩
theorem witness_StartUpBeginsFrames_indicators : SceneOk lampScene ∧
    lampScene.pins[(1 : PinId)].function = .indicator ∧ lampScene.pins[(1 : PinId)].source = some .externalRef ∧
    lampScene.pins[(2 : PinId)].source = some .bar ∧ (∀ l : LaneId, lampScene.lanes[l].off = true) ∧
    ({ State.reset with
      phase := .starting, straps := ⟨0, true, true⟩, store := { Store.reset with stored := some lampScene, valid := true } } :
      State).store.stored = some lampScene :=
  ⟨lampScene_ok, by decide, by decide, by decide, by decide, rfl⟩
theorem witness_SceneSaveTakesAndEnds : canTake 1 0x14 7 [] house ∧ (house.link 1).present = true ∧
    house.store.saving = none ∧ canTake 1 0x14 7 [] (savingNow none) ∧ (savingNow none).store.saving.isSome ∧
    canTake 1 0x14 7 [] away ∧ (away.link 1).present = false ∧ (savingNow (some 1)).phase = .running ∧
    (savingNow (some 1)).store.saving = some scene0 ∧ (savingNow (some 1)).store.answer = some ⟨7, some 1⟩ ∧
    (savingNow none).store.answer = some ⟨7, none⟩ := by
  with_reducible and_intros
  all_goals first | exact takes_house _ _ _ _ | exact takes (by decide) _ _ _ _ | decide
theorem witness_SavedSceneComesBack : Safe house ∧ canTake 1 0x14 7 [] house ∧ (house.link 1).present = true ∧
    house.store.saving = none ∧ (⟨0, false, true⟩ : Straps).load = true :=
  ⟨safe_house, takes_house _ _ _ _, by decide, by decide, rfl⟩
/-- A pin that shows PLAYING, and no lane holds it. -/
def lamp : State := house.setPin 1 { Pin.reset with function := .indicator, source := some .playing }
theorem safe_lamp : Safe lamp := by
  obtain ⟨h1, h2, h3, h4, h5, h6, h7, h8⟩ := safe_house
  have none : ∀ l p, ¬ holdsPin lamp l p := fun l _ h => house_off l h.1
  refine ⟨⟨h1.1, h1.2, h1.3, h1.4, h1.5, h1.6, h1.7, h1.8, h1.9, h1.10⟩, ⟨h2.1, h2.2⟩,
    ⟨h3.1, h3.2, h3.3, h3.4, h3.5, h3.6, h3.7, h3.8⟩, ⟨h4.1⟩, ⟨fun p => ?_, fun l _ p h => absurd h (none l p), ?_, ?_⟩,
    ⟨h6.1⟩, ⟨h7.1⟩, ⟨h8.1, h8.2, h8.3, h8.4, h8.5, h8.6⟩⟩
  · have hp : (lamp.pin p).function ≠ .lane := by revert p; decide
    exact ⟨fun h => absurd h hp, fun ⟨l, h⟩ => absurd h (none l p)⟩
  · decide
  · decide
theorem witness_SavedSceneComesBack_indicator : Safe lamp ∧ canTake 1 0x14 7 [] lamp ∧ (lamp.link 1).present = true ∧
    lamp.store.saving = none ∧ (lamp.pin 1).function ≠ .lane ∧ (lamp.pin 1).source = some .playing :=
  ⟨safe_lamp, takes (by decide) _ _ _ _, by decide, by decide, by decide, by decide⟩
/-- S1 departed, so that its link is ABSENT. -/
def without1 : State := up.setLink 1 Link.reset
/-- A safe state with another record at one link. -/
theorem safe_link {s : State} (h : Safe s) {st : Station} {k : Link} (hk : LinkOk k)
    (hl : k.present = false → k.lapseReported = false → ∀ e ∈ s.lead.holder.toList ++ s.lead.queue, e.station ≠ st)
    (hf : k.present = false → k.emptyReported = false → s.follower st = Follower.empty) : Safe (s.setLink st k) := by
  obtain ⟨h1, h2, h3, h4, h5, h6, h7, h8⟩ := h
  refine ⟨⟨h1.1, h1.2, h1.3, h1.4, h1.5, h1.6, h1.7, h1.8, h1.9, h1.10⟩, ⟨h2.1, ?_⟩,
    ⟨h3.1, h3.2, h3.3, h3.4, h3.5, h3.6, h3.7, ?_⟩, ⟨h4.1⟩, ⟨h5.1, h5.2, h5.3, h5.4⟩, ⟨h6.1⟩, ⟨?_⟩,
    ⟨h8.1, h8.2, h8.3, h8.4, h8.5, h8.6⟩⟩
  · intro i; rw [setLink_link]; split
    · rename_i e; subst e; exact hf
    · exact h2.2 i
  · intro i; rw [setLink_link]; split
    · rename_i e; subst e; exact hl
    · exact h3.8 i
  · intro i; rw [setLink_link]; split
    · exact hk
    · exact h7.1 i
theorem safe_without1 : Safe without1 :=
  safe_link safe_up (by constructor <;> first | decide | trivial)
    (fun _ _ e he => by simp [up, State.reset, Lead.reset] at he) (fun _ _ => house_follower 1)
theorem witness_GridClearReturnsToUnset : Safe without1 ∧ canTake 1 0x15 7 (be2 (0 : BitVec 16).toNat) without1 ∧
    (without1.link 1).present = false ∧ Safe house ∧ canTake 1 0x15 7 (be2 (2741 : BitVec 16).toNat) house ∧
    (house.link 1).present = true ∧ house.lead.code = 0 ∧ Safe coded ∧
    canTake 1 0x15 7 (be2 (2741 : BitVec 16).toNat) coded ∧ coded.lead.code = 2741 ∧ (coded.link 1).present = true ∧
    canTake 1 0x15 7 (be2 (2740 : BitVec 16).toNat) coded ∧ (2740 : BitVec 16) ≠ coded.lead.code := by
  with_reducible and_intros
  all_goals first
    | exact safe_without1
    | exact takes (by decide) _ _ _ _
    | exact safe_house
    | exact takes_house _ _ _ _
    | exact safe_coded
    | decide

/-! ### Witnesses: frames and the reference -/

/-- The house in EXTERNAL, no switch waiting. -/
def onWck : State := { house with fru := { house.fru with requested := .external, state := .external } }
theorem witness_FrameEventAdvancesTheGrid : house.phase = .running ∧
    house.fru.switch = .none ∧ house.grid.pos.frac.toNat + house.grid.appliedInc < 4294967296 ∧
    up.phase = .running ∧ up.fru.switch = .none ∧ up.grid.state = .unset ∧
    onWck.phase = .running ∧ onWck.fru.switch = .none ∧ onWck.fru.state = .external ∧
    onWck.grid.pos.frac.toNat + onWck.grid.appliedInc < 4294967296 := by decide
/-- The house at a fraction of beat 5,000. -/
def houseAt (f : BitVec 32) : State := { house with grid := { grid120 with pos := ⟨5000, f⟩ } }
/-- The last fraction that crosses no beat. -/
theorem witness_FrameEventAdvancesTheGrid_boundary : (houseAt 4294788338).phase = .running ∧
    (houseAt 4294788338).fru.switch = .none ∧
    (houseAt 4294788338).grid.pos.frac.toNat + (houseAt 4294788338).grid.appliedInc + 1 = 4294967296 := by decide
/-- The next frame finds a stamp and an edge frame 2^30 frames back, a pin at the end of its timer and one whose end is
2^30 frames back, a gap of 96 frames at S1, and S2 at countdown 1 with a Save Answer to come. -/
def fraying : State :=
  let old : Frame := 1000001 - 1073741824
  let s : State := { (house.setFollower 1 ⟨1, some old, [], none, none⟩).setInput 0 ⟨⟨some 3, .rising, 4800, false⟩, some old, none⟩ with
    store := ⟨some scene0, none, false, .notRequested, .none, some ⟨7, some 2⟩⟩ }
  (((s.setPin 2 { Pin.reset with level := true, timing := true, activeUntil := some 1000001 }).setPin 3
    { Pin.reset with activeUntil := some old }).setLink 1 { linkUp with
      receiver := .length, lastByte := 1000001 - 96, gap := 255 }).setLink 2 { linkUp with countdown := some 1 }
theorem witness_FrameEventAdvancesTheGrid_expiries : fraying.phase = .running ∧ fraying.fru.switch = .none ∧
    fraying.grid.pos.frac.toNat + fraying.grid.appliedInc < 4294967296 ∧ (∀ l, LaneOk (fraying.lane l)) ∧
    (∀ l p, ¬ holdsPin fraying l p) ∧
    (fraying.follower 1).lastStamp = some (fraying.fru.count + 1 - 1073741824) ∧
    (fraying.input 0).lastEdge = some (fraying.fru.count + 1 - 1073741824) ∧ (fraying.pin 2).timing = true ∧
    (fraying.pin 2).activeUntil = some (fraying.fru.count + 1) ∧ (fraying.pin 3).timing = false ∧
    (fraying.pin 3).activeUntil = some (fraying.fru.count + 1 - 1073741824) ∧ (fraying.link 1).receiver ≠ .hunt ∧
    (fraying.fru.count + 1 - (fraying.link 1).lastByte).toNat = 96 ∧ (fraying.link 2).present = true ∧
    (fraying.link 2).countdown = some 1 ∧ fraying.store.answer = some ⟨7, some 2⟩ := by
  with_reducible and_intros
  all_goals first | exact safe_house.lanes.1 | exact fun l _ h => house_off l h.1 | decide
/-- The first fraction that crosses one. -/
theorem witness_BeatCrossingInStages : (houseAt 4294788339).phase = .running ∧
    (houseAt 4294788339).fru.switch = .none ∧ (houseAt 4294788339).grid.state ≠ .unset ∧
    (houseAt 4294788339).lead.handover = none ∧ (houseAt 4294788339).tc.pending = none ∧
    (houseAt 4294788339).grid.appliedInc < 4294967296 ∧
    (houseAt 4294788339).grid.pos.frac.toNat + (houseAt 4294788339).grid.appliedInc = 4294967296 := by decide

/-- A waiting handover to S2 after a crossing. -/
def handing (c : Crossing) (w : Handover) : State :=
  { house with grid := { grid120 with crossing := c }, lead := ⟨some ⟨2, w.terms⟩, [], some w, 0, none⟩ }
/-- About to cross a bar, a handover, a transport and a meter waiting, S1 being sent to. -/
def allAtOnce : State := { (houseAt 4294788339).setLink 1 { linkUp with sending := some (.report []) } with
  grid := { grid120 with pos := ⟨5000, 4294788339⟩, pendingMeter := some 3 }
  lead := ⟨some ⟨2, barTerms⟩, [], some ⟨2, .bar, barTerms, false⟩, 0, none⟩
  tc := ⟨.starting, some ⟨.start, .bar, 5001⟩, 0⟩ }
theorem witness_CrossingServesHandoverAndTransport : allAtOnce.phase = .running ∧ allAtOnce.fru.switch = .none ∧
    allAtOnce.grid.state ≠ .unset ∧ allAtOnce.grid.appliedInc < 4294967296 ∧
    allAtOnce.grid.pos.frac.toNat + allAtOnce.grid.appliedInc = 4294967296 ∧
    allAtOnce.grid.beatInBar + 1 = allAtOnce.grid.meter ∧
    allAtOnce.lead.handover = some ⟨2, .bar, barTerms, false⟩ ∧
    allAtOnce.tc.pending = some ⟨.start, .bar, allAtOnce.grid.pos.beat + 1⟩ ∧ allAtOnce.grid.pendingMeter = some 3 ∧
    (allAtOnce.link 1).present = true ∧ (allAtOnce.link 1).countdown ≠ some 1 ∧ (allAtOnce.link 1).sending.isSome ∧
    (allAtOnce.link 1).txQueue.length < 8 ∧ (houseAt 4294788339).lead.handover = none ∧
    (houseAt 4294788339).tc.pending = none ∧ allAtOnce.grid.baseInc = baseIncrement allAtOnce.grid.base := by decide
/-- A meter that takes effect while PLAYING; a beat that is no bar start, a trim applied and another armed, with a handover
of each align waiting. -/
def meterOnly : State := { allAtOnce with lead := Lead.reset, tc := ⟨.playing, none, 3⟩ }
def midBar (a : Align) : State := { allAtOnce with
  grid := { allAtOnce.grid with barStart := 4999, beatInBar := 1, trim := .appliedArmed 3 (-4) }
  lead := ⟨some ⟨2, { barTerms with align := a }⟩, [], some ⟨2, a, { barTerms with align := a }, false⟩, 0, none⟩ }
theorem witness_CrossingServesHandoverAndTransport_cases : meterOnly.phase = .running ∧ meterOnly.fru.switch = .none ∧
    4294967296 ≤ meterOnly.grid.pos.frac.toNat + meterOnly.grid.appliedInc ∧ meterOnly.tc.state = .playing ∧
    meterOnly.tc.pending = none ∧ meterOnly.lead.handover = none ∧
    meterOnly.grid.beatInBar + 1 = meterOnly.grid.meter ∧ meterOnly.grid.pendingMeter = some 3 ∧ meterOnly.grid.meter ≠ 3 ∧
    (meterOnly.link 1).present = true ∧ (meterOnly.link 1).sending.isSome ∧
    (midBar .beat).grid.beatInBar + 1 ≠ (midBar .beat).grid.meter ∧ (midBar .beat).grid.appliedInc < 4294967296 ∧
    4294967296 ≤ (midBar .beat).grid.pos.frac.toNat + (midBar .beat).grid.appliedInc ∧
    ((midBar .beat).lead.handover.map Handover.align) = some .beat ∧
    ((midBar .bar).lead.handover.map Handover.align) = some .bar := by decide
/-- The same crossing with an indicator of each source that it touches. -/
def lamps : State := ((allAtOnce.setPin 1 { Pin.reset with function := .indicator, source := some .beat }).setPin 2
  { Pin.reset with function := .indicator, source := some .bar }).setPin 3
  { Pin.reset with function := .indicator, source := some .playing }
theorem witness_CrossingServesHandoverAndTransport_pins : (∀ l, LaneOk (lamps.lane l)) ∧ (∀ l p, ¬ holdsPin lamps l p) ∧
    (lamps.pin 1).source = some .beat ∧ (lamps.pin 2).source = some .bar ∧ (lamps.pin 3).source = some .playing ∧
    (lamps.pin 3).function = .indicator ∧ lamps.grid.beatInBar + 1 = lamps.grid.meter ∧
    4294967296 ≤ lamps.grid.pos.frac.toNat + lamps.grid.appliedInc ∧
    lamps.tc.pending.map PendingTransport.boundary = some (lamps.grid.pos.beat + 1) := by
  with_reducible and_intros
  all_goals first | exact safe_house.lanes.1 | exact fun l _ h => house_off l h.1 | decide
/-- A start pending at beat 5,005, owed by no lane. -/
def starting : State := { house with tc := ⟨.starting, some ⟨.start, .bar, 5005⟩, 0⟩ }
theorem witness_HandoverAndTransportTakeEffect :
    (handing .bar ⟨2, .bar, barTerms, false⟩).phase = .running ∧
    (handing .bar ⟨2, .bar, barTerms, false⟩).grid.state ≠ .unset ∧
    (handing .bar ⟨2, .bar, barTerms, false⟩).grid.crossing = .bar ∧
    (handing .beat ⟨2, .beat, { barTerms with align := .beat }, false⟩).grid.crossing = .beat ∧
    (handing .beat ⟨2, .bar, barTerms, false⟩).lead.handover = some ⟨2, .bar, barTerms, false⟩ ∧
    (handing .none ⟨2, .beat, barTerms, false⟩).grid.crossing = .none ∧
    starting.phase = .running ∧ starting.grid.state ≠ .unset ∧ starting.tc.pending = some ⟨.start, .bar, 5005⟩ ∧
    starting.grid.pos.beat ≠ 5005 ∧
    ({ starting with grid := { grid120 with pos := ⟨5005, 0⟩ } } : State).grid.pos.beat = 5005 := by decide

theorem witness_EdgesQualifyWck :
    isQualifying (refState .qualifying .none 0 false).fru.state = true ∧
    (refState .qualifying .none 0 false).fru.switch ≠ .toInternal ∧
    (refState .qualifying .none 4798 true).fru.run + 1 < 4800 ∧
    (refState .fallback .none 4799 true).fru.run + 1 = 4800 ∧ (refState .fallback .none 4799 true).phase = .running := by
  decide
theorem witness_WckFailureFallsBack : (refState .external .none 0 true).fru.state = .external ∧
    (refState .external .none 0 true).fru.periodOpen = true ∧ (998999 : Nat) * 1 < 999000 ∧ 1001000 < 1001001 * 1 ∧
    isQualifying (refState .qualifying .none 5 true).fru.state = true ∧
    (refState .qualifying .none 5 true).fru.switch = .none := by decide
/-- EXTERNAL with its next edge of this kind, at this divisor. -/
def edging (p : WckPlace) (d : Nat) (isOpen : Bool) (sw : Switch) : State := { house with fru := { house.fru with
  state := .external, requested := .external, divisor := d, nextDivisor := d, place := p, periodOpen := isOpen, switch := sw } }
theorem witness_WckEdgesDriveFrames : (edging .awaitFirst 1 false .none).phase = .running ∧
    (edging .awaitFirst 1 false .none).fru.periodOpen = false ∧ (edging .awaitFirst 1 false .none).fru.place = .awaitFirst ∧
    (499999 : Nat) < 500000 ∧ (edging .skipNext 2 true .none).fru.place = .skipNext ∧
    (edging .skipNext 2 true .none).fru.divisor = 2 ∧ 499500 * 2 = 999000 ∧ 500500 * 2 = 1001000 ∧
    (edging .frameNext 1 true .none).fru.place = .frameNext ∧ (edging .frameNext 1 true .none).fru.switch = .none ∧
    (edging .frameNext 1 true .toInternal).fru.switch = .toInternal := by decide
theorem witness_SwitchesTakeEffect : (refState .qualifying .toExternal 4800 true).phase = .running ∧
    isQualifying (refState .qualifying .toExternal 4800 true).fru.state = true ∧
    (refState .qualifying .toExternal 4800 true).fru.switch = .toExternal ∧
    (refState .external .toInternal 0 true).phase = .running ∧
    (refState .external .toInternal 0 true).fru.state ≠ .internal ∧
    (refState .external .toInternal 0 true).fru.switch = .toInternal := by decide
/-- The house while S1 is being sent to, a pin showing the reference. -/
def switching (st : RefState) (run : Nat) : State :=
  ((refState st .none run true).setLink 1 { linkUp with sending := some (.report []) }).setPin 1
    { Pin.reset with function := .indicator, source := some .externalRef }
/-- After the frame event of the boundary S1 has room for the notice. -/
theorem witness_SwitchesTakeEffect_notice (st : RefState) (run : Nat)
    (h : st = .qualifying ∧ run = 4800 ∨ st = .external ∧ run = 0) :
    ∃ v, exec (.frameEvent FrameOrder.plain) (switching st run) = .next v ∧ (decide ((v.link 1).present = true ∧
      (v.link 1).sending.isSome ∧ (v.link 1).txQueue.length < 8 ∧ (v.pin 1).function = .indicator ∧
      (v.pin 1).source = some .externalRef)) = true := by
  apply of_gives (p := fun v => decide ((v.link 1).present = true ∧ (v.link 1).sending.isSome ∧
    (v.link 1).txQueue.length < 8 ∧ (v.pin 1).function = .indicator ∧ (v.pin 1).source = some .externalRef))
  rcases h with ⟨rfl, rfl⟩ | ⟨rfl, rfl⟩ <;> decide +kernel
theorem witness_ReferenceSetFollowsItsTable : holds house 0 = true ∧
    canTake 0 0x13 1 [flagByte true, flagByte false] house ∧ house.fru.state = .internal ∧
    isQualifying (refState .qualifying .none 5 true).fru.state = true ∧
    (refState .qualifying .toInternal 0 true).fru.switch = .toInternal ∧
    (refState .external .none 0 true).fru.state = .external ∧
    (refState .external .toInternal 0 true).fru.switch = .toInternal ∧
    canTake 0 0x13 1 [2, 0] house ∧ canTake 0 0x13 1 [1, 2] house ∧ 1 < (2 : Byte).toNat := by
  with_reducible and_intros
  all_goals first | exact takes_house _ _ _ _ | decide

/-! ### Witnesses: the holder's requests -/

/-- A Yield waiting at S1. -/
def waiting : State := up.setLink 1 { linkUp with rxQueue := [[0x04, 9]] }
theorem witness_RefusedRequestsChangeNothing : (∀ h, house.lead.holder = some h → h.station ≠ 1) ∧
    canTake 1 0x07 1 [1, 2, 3, 4] house ∧ canTake 1 0x08 1 [1] house ∧ canTake 1 0x09 1 [4] house ∧
    canTake 1 0x0C 1 [0, 1] house ∧ canTake 1 0x13 1 [0, 0] house ∧
    frameOf (.unknownKind 1 0x16 1 []) = some (1, 0x16, 1, []) ∧ canTake 1 0x16 1 [] up ∧ 0x15 < (0x16 : Byte).toNat ∧
    frameOf (.unknownKind 1 0 1 []) = some (1, 0, 1, []) ∧ canTake 1 0 1 [] up ∧
    frameOf (.seize 1 1 [1, 2, 3]) = some (1, 0x05, 1, [1, 2, 3]) ∧ canTake 1 0x05 1 [1, 2, 3] up ∧
    bodyLengths 0x05 = [4, 13] ∧ ([1, 2, 3] : List Byte).length + 2 ∉ [4, 13] ∧ waiting.phase = .running ∧
    nextFrame waiting = some (1, [0x04, 9]) ∧ ((1 : Station), ([0x04, 9] : List Byte)) ≠ (1, [0x04, 8]) := by
  with_reducible and_intros
  all_goals first
    | exact not_holder 1 (by decide)
    | exact takes_house _ _ _ _
    | exact takes_up _ _ _ _
    | decide
theorem witness_TempoChangesTheBase : canTake 0 0x07 1 (be3 300001 ++ be1 33) house ∧ (300001 : Nat) < 16777216 ∧
    house.lead.holder = some ⟨0, Terms.default⟩ ∧ house.grid.state = .running ∧ Terms.default.mode = .set ∧
    canTake 2 0x07 1 (be3 300001 ++ be1 33) marked ∧
    marked.lead.holder = some ⟨2, ⟨.mark, 4, 20, 4, .now, none⟩⟩ ∧ marked.grid.state = .running := by
  with_reducible and_intros
  all_goals first | exact takes_house _ _ _ _ | exact takes (by decide) _ _ _ _ | decide
theorem witness_TempoStartsTheGrid : Safe unset0 ∧ canTake 0 0x07 1 (be3 120000 ++ be1 0) unset0 ∧
    unset0.lead.holder = some ⟨0, Terms.default⟩ ∧ Terms.default.mode = .set ∧ unset0.grid.state = .unset :=
  ⟨safe_unset0, takes (by decide) _ _ _ _, by decide, by decide, by decide⟩
/-- The house with this trim. -/
def trimmed (t : Trim) : State := { house with grid := { grid120 with trim := t } }
theorem witness_NudgeAndSetMeter : house.lead.holder = some ⟨0, Terms.default⟩ ∧ house.grid.state ≠ .unset ∧
    unset0.lead.holder = some ⟨0, Terms.default⟩ ∧ unset0.grid.state = .unset ∧
    (∀ v, canTake 0 0x08 1 [v] house ∧ canTake 0 0x08 1 [v] unset0) ∧ (0xBF : Byte) ≠ 0 ∧ (0xBF : Byte).toInt = -65 ∧
    (∀ t v, canTake 0 0x08 1 [v] (trimmed t) ∧ (trimmed t).grid.trim = t ∧ (trimmed t).grid.state ≠ .unset) ∧
    (∀ v, canTake 0 0x09 1 [v] house ∧ canTake 0 0x09 1 [v] unset0) ∧ 16 < (17 : Byte).toNat ∧
    1 ≤ (1 : Byte).toNat ∧ (16 : Byte).toNat ≤ 16 := by
  with_reducible and_intros
  all_goals first
    | exact fun v => ⟨takes_house _ _ _ _, takes (by decide) _ _ _ _⟩
    | exact fun t v => ⟨takes ⟨rfl, rfl⟩ _ _ _ _, rfl, fun h => by cases h⟩
    | decide
/-- PLAYING, and a frame event behind. -/
def playing : State := { house with
  grid := { grid120 with pos := ⟨5000, 178956⟩, before := some ⟨5000, 0⟩ }, tc := ⟨.playing, none, 3⟩ }
theorem safe_playing : Safe playing :=
  safe_of (c := 1000000) house_followers (gridAt_ok 178956 (some 0) none (by intro n h; cases h))
    (lead_ok default_terms (fun e he => by cases he) (by decide))
    ⟨by decide, fun p h => absurd h (by decide), fun p h => absurd h (by decide)⟩
    (fun _ => rfl) (fun h => absurd h (by decide)) (fun h => absurd h (by decide))
theorem witness_TransportFixesABoundary : Safe house ∧ canTake 0 0x0C 1 [kindByte .start, quantumByte .bar] house ∧
    house.lead.holder = some ⟨0, Terms.default⟩ ∧ house.grid.state ≠ .unset ∧ house.tc.state = .stopped ∧ Safe playing ∧
    canTake 0 0x0C 1 [kindByte .stop, quantumByte .beat] playing ∧ playing.lead.holder = some ⟨0, Terms.default⟩ ∧
    playing.grid.state ≠ .unset ∧ playing.tc.state = .playing ∧ playing.grid.before = some ⟨5000, 0⟩ := by
  with_reducible and_intros
  all_goals first
    | exact safe_house
    | exact takes_house _ _ _ _
    | exact safe_playing
    | exact takes (by decide) _ _ _ _
    | decide
/-- A stop pending at beat 5,005. -/
def stopping : State := { house with tc := ⟨.stopping, some ⟨.stop, .beat, 5005⟩, 2⟩ }
theorem witness_TransportCancelsOrAnswers : canTake 0 0x0C 1 [1, 0] starting ∧
    starting.lead.holder = some ⟨0, Terms.default⟩ ∧ starting.grid.state ≠ .unset ∧ starting.tc.state = .starting ∧
    starting.tc.pending = some ⟨.start, .bar, 5005⟩ ∧ canTake 0 0x0C 1 [2, 1] stopping ∧
    stopping.lead.holder = some ⟨0, Terms.default⟩ ∧ stopping.grid.state ≠ .unset ∧ stopping.tc.state = .stopping ∧
    stopping.tc.pending = some ⟨.stop, .beat, 5005⟩ ∧ canTake 0 0x0C 1 [3, 0] house ∧ canTake 0 0x0C 1 [2, 2] house ∧
    (2 : Nat) < (3 : Byte).toNat ∧ (1 : Nat) < (2 : Byte).toNat ∧ canTake 0 0x0C 1 [0, 0] unset0 ∧
    unset0.lead.holder = some ⟨0, Terms.default⟩ ∧ unset0.grid.state = .unset ∧ canTake 0 0x0C 1 [1, 1] house ∧
    house.tc.state = .stopped ∧ canTake 0 0x0C 1 [2, 0] playing ∧ playing.tc.state = .playing := by
  with_reducible and_intros
  all_goals first | exact takes (by decide) _ _ _ _ | exact takes_house _ _ _ _ | decide

/-! ### Witnesses: marks -/

/-- S1 with a record, S0 leading. -/
def tapped (count : Frame) (h : List Nat) : State :=
  { house with fru := { house.fru with count := count } }.setFollower 1 ⟨4, some 500000, h, none, none⟩
theorem tapped_holder (c : Frame) (h : List Nat) : ∀ x, (tapped c h).lead.holder = some x → x.station ≠ 1 := by
  intro x hx; obtain rfl : ⟨0, Terms.default⟩ = x := by simpa [tapped, house] using hx
  decide
theorem witness_MarkUpdatesTheRecord :
    canTake 1 0x0A 1 (be2 4801 ++ [flagByte true]) house ∧ (house.link 1).present = true ∧
    (house.follower 1).lastStamp = none ∧ (∀ h, house.lead.holder = some h → h.station ≠ 1) ∧
    canTake 1 0x0A 1 (be2 0 ++ [flagByte false]) away ∧ (away.link 1).present = false :=
  ⟨takes_house _ _ _ _, by decide, by decide, not_holder 1 (by decide), takes (by decide) _ _ _ _, by decide⟩
/-- The boundary intervals of each test of R48. -/
theorem witness_MarkUpdatesTheRecord_intervals :
    2147483648 ≤ ((499999 : Frame) - 500000).toNat ∧ 72000 < ((572001 : Frame) - 500000).toNat ∧
    ((509599 : Frame) - 500000).toNat < 9600 ∧ 9600 ≤ ((509600 : Frame) - 500000).toNat ∧
    ((572000 : Frame) - 500000).toNat ≤ 72000 ∧ (24000 / 8 : Nat) < (((527001 - 500000 : Nat) : Int) - 24000).natAbs ∧
    (((527000 - 500000 : Nat) : Int) - 24000).natAbs ≤ 24000 / 8 ∧
    canTake 1 0x0A 1 (be2 0 ++ [flagByte false]) (tapped 527000 [24000]) := by
  with_reducible and_intros
  all_goals first | exact takes (by decide) _ _ _ _ | decide
/-- S0 leads, its record with these intervals, at this count. -/
def beaten (count : Frame) (h : List Nat) : State :=
  { house with fru := { house.fru with count := count } }.setFollower 0 ⟨4, some 500000, h, estimateOf h, none⟩
theorem witness_HolderMarkCorrectsThePhase :
    canTake 0 0x0A 1 (be2 300 ++ [flagByte true]) house ∧ (house.link 0).present = true ∧
    house.lead.holder = some ⟨0, Terms.default⟩ ∧ house.grid.state = .running ∧ (house.follower 0).lastStamp = none ∧
    house.grid.pos.sub (min 4800 300 * house.grid.appliedInc) = ⟨4999, BitVec.ofInt 32 (-17895700)⟩ ∧
    canTake 2 0x0A 1 (be2 300 ++ [flagByte false]) marked ∧ (marked.link 2).present = true ∧
    marked.lead.holder = some ⟨2, ⟨.mark, 4, 20, 4, .now, none⟩⟩ ∧ marked.grid.state = .running ∧
    (marked.follower 2).lastStamp = some 1000000 ∧
    9600 ≤ (marked.fru.count - BitVec.ofNat 32 300 - 1000000).toNat ∧ (marked.follower 2).history ≠ [] ∧
    (((23900 : Int) - 24000).natAbs ≤ 24000 / 8) ∧ (20 : Nat) < ((120125 : Int) - 120000).natAbs := by
  with_reducible and_intros
  all_goals first | exact takes_house _ _ _ _ | exact takes (by decide) _ _ _ _ | decide
/-- The holder at each interval of R48, with a history and without one. -/
theorem witness_HolderMarkCorrectsThePhase_intervals :
    canTake 0 0x0A 1 (be2 0 ++ [flagByte false]) (beaten 527001 [24000]) ∧
    ((beaten 527001 [24000]).follower 0).lastStamp = some 500000 ∧
    ((beaten 527001 [24000]).follower 0).history = [24000] ∧ ((beaten 509600 []).follower 0).history = [] ∧
    (beaten 509600 []).grid.pos.sub (min 4800 0 * (beaten 509600 []).grid.appliedInc) = ⟨5000, BitVec.ofInt 32 35791400⟩ ∧
    ((beaten 509600 []).fru.count - BitVec.ofNat 32 0 - 500000).toNat = 9600 ∧
    ((beaten 509599 []).fru.count - BitVec.ofNat 32 0 - 500000).toNat < 9600 ∧
    ((beaten 572000 []).fru.count - BitVec.ofNat 32 0 - 500000).toNat = 72000 ∧
    72000 < ((beaten 572001 []).fru.count - BitVec.ofNat 32 0 - 500000).toNat ∧
    2147483648 ≤ ((beaten 499999 []).fru.count - BitVec.ofNat 32 0 - 500000).toNat ∧
    24000 / 8 < ((27001 : Int) - 24000).natAbs := by
  with_reducible and_intros
  all_goals first | exact takes (by decide) _ _ _ _ | decide
/-- S2 leads in MARK mode in UNSET, at this count, these intervals in its record, a handover of these terms waiting. -/
def markTerms : Terms := ⟨.mark, 4, 20, 4, .now, none⟩
def tapping (c : Frame) (h : List Nat) (w : Terms) : State := { house with
  grid := Grid.reset
  fru := { house.fru with count := c }
  followers := (Vector.replicate 4 Follower.empty).set 2 ⟨2, some 1000000, h, none, none⟩
  lead := ⟨some ⟨2, markTerms⟩, [], some ⟨2, w.align, w, true⟩, 0, none⟩ }
theorem safe_tapping (c : Frame) (h : List Nat) (w : Terms) (hh : h = [24000] ∨ h = []) (hw : TermsOk w) :
    Safe (tapping c h w) := by
  have ht : TermsOk markTerms := terms_plain _ (by decide) rfl
  refine safe_of (c := c) ?_ gridReset_ok
    ⟨fun x e => by cases e; exact ht, fun e he => (by cases he), fun e => (by cases e), List.nodup_singleton 2,
      fun x e => by cases e; exact ⟨hw, rfl, rfl⟩⟩ stopped_ok
    (fun e => absurd e (by decide)) (fun e => absurd e (by decide)) (fun _ => rfl)
  intro i
  have all : ∀ i : Station, (((Vector.replicate 4 Follower.empty).set 2 ⟨2, some 1000000, h, none, none⟩)[i]) =
      if i = 2 then ⟨2, some 1000000, h, none, none⟩ else Follower.empty := by
    intro i; fin_cases i <;> rfl
  change FollowerOk (((Vector.replicate 4 Follower.empty).set 2 ⟨2, some 1000000, h, none, none⟩)[i])
  rw [all]; split
  · rcases hh with rfl | rfl <;> constructor <;> decide
  · exact empty_ok
/-- An ACCEPTED mark with and without a history, taken 4,801 frames late, and with a tempo to hand over. -/
theorem witness_HolderMarkStartsTheGrid :
    Safe (tapping 1027000 [24000] markTerms) ∧ Safe (tapping 1027000 [] markTerms) ∧ Safe (tapping 1031800 [24000] brisk) ∧
    canTake 2 0x0A 1 (be2 0 ++ [flagByte true]) (tapping 1027000 [24000] markTerms) ∧
    canTake 2 0x0A 1 (be2 0 ++ [flagByte true]) (tapping 1027000 [] markTerms) ∧
    canTake 2 0x0A 1 (be2 4801 ++ [flagByte false]) (tapping 1031800 [24000] brisk) ∧ (4801 : Nat) < 65536 ∧
    ((tapping 1027000 [24000] markTerms).link 2).present = true ∧
    (tapping 1027000 [24000] markTerms).lead.holder = some ⟨2, markTerms⟩ ∧
    (tapping 1027000 [24000] markTerms).grid.state = .unset ∧
    ((tapping 1027000 [24000] markTerms).follower 2).lastStamp = some 1000000 ∧
    ((1027000 : Frame) - BitVec.ofNat 32 0 - 1000000).toNat = 27000 ∧
    ((1031800 : Frame) - BitVec.ofNat 32 4800 - 1000000).toNat = 27000 ∧
    ((27000 : Int) - 24000).natAbs ≤ 24000 / 8 ∧ markTerms.mode = .mark ∧
    ((tapping 1027000 [24000] markTerms).follower 2).history ≠ [] ∧
    ((tapping 1027000 [] markTerms).follower 2).history = [] ∧
    (tapping 1031800 [24000] brisk).lead.handover = some ⟨2, .now, brisk, true⟩ := by
  have hb : TermsOk markTerms := terms_plain _ (by decide) rfl
  with_reducible and_intros
  all_goals first
    | exact safe_tapping _ _ _ (.inl rfl) hb
    | exact safe_tapping _ _ _ (.inr rfl) hb
    | exact safe_tapping _ _ _ (.inl rfl) brisk_ok
    | exact takes (by decide) _ _ _ _
    | decide
/-- The other outcomes of the interval test, each at its boundary, and a first mark. -/
theorem witness_HolderMarkStartsTheGrid_intervals :
    (∀ c, Safe (tapping c [24000] markTerms) ∧ (tapping c [24000] markTerms).lead.holder = some ⟨2, markTerms⟩ ∧
      (tapping c [24000] markTerms).grid.state = .unset ∧
      canTake 2 0x0A 1 (be2 0 ++ [flagByte false]) (tapping c [24000] markTerms)) ∧
    2147483648 ≤ ((999999 : Frame) - 1000000).toNat ∧ ((1072001 : Frame) - 1000000).toNat = 72001 ∧
    ((1072000 : Frame) - 1000000).toNat = 72000 ∧ ((1009600 : Frame) - 1000000).toNat = 9600 ∧
    ((1009599 : Frame) - 1000000).toNat = 9599 ∧ 24000 / 8 < ((27001 : Int) - 24000).natAbs ∧ Safe unset0 ∧
    (unset0.follower 0).lastStamp = none ∧ unset0.lead.holder = some ⟨0, Terms.default⟩ ∧
    canTake 0 0x0A 1 (be2 0 ++ [flagByte false]) unset0 := by
  with_reducible and_intros
  all_goals first
    | exact fun c => ⟨safe_tapping c _ _ (.inl rfl) (terms_plain _ (by decide) rfl), rfl, rfl, takes ⟨rfl, by rfl⟩ _ _ _ _⟩
    | exact safe_unset0
    | exact takes (by decide) _ _ _ _
    | decide
theorem witness_InputSetWritesTheSetting : canTake 1 0x0B 1 [1, 1, 2, 0x01, 0xDF, 1] up ∧ (up.link 1).present = true ∧
    (1 : InputId).val = (1 : Byte).toNat ∧ (up.input 1).setting.station = none ∧ (1 : Byte) = stationOpt (some 1) ∧
    (2 : Byte) = edgeByte .both ∧ canTake 1 0x0B 1 [2, 1, 2, 0, 0, 0] up ∧ 2 ≤ (2 : Byte).toNat ∧
    ((up.setInput 0 ⟨⟨some 3, .rising, 4800, false⟩, none, none⟩).input 0).setting.station = some 3 ∧
    canTake 1 0x0B 1 [0, 4, 3, 0, 0, 0] up ∧ ¬ ((4 : Byte) = 0xFF ∨ (4 : Byte).toNat < 4) ∧ 3 ≤ (3 : Byte).toNat ∧
    canTake 1 0x0B 1 [0, 0, 0, 0, 0, 0] away ∧ (away.link 1).present = false := by
  with_reducible and_intros
  all_goals first | exact takes_up _ _ _ _ | exact takes (by decide) _ _ _ _ | decide
/-- M0 assigned to S3, its last edge delivered 4,800 frames back. -/
def footed (downbeat : Bool) : State := up.setInput 0 ⟨⟨some 3, .rising, 4800, downbeat⟩, some 995200, none⟩
/-- The downbeat holder's edge in a RUNNING grid, its fraction as a signed error at an end of its range. -/
def downbeat (f : BitVec 32) : State := (houseAt f).setInput 0 ⟨⟨some 0, .both, 480, true⟩, some 999520, none⟩
theorem witness_EdgesBecomeMarks : up.phase = .running ∧ (up.input 0).setting.station = none ∧
    ((footed false).input 0).setting.station = some 3 ∧ ((footed false).input 0).setting.edge = .rising ∧
    LevelChange.highToLow ≠ .lowToHigh ∧ ((footed false).fru.count - 995201).toNat < 4800 ∧
    ((footed false).fru.count - 995200).toNat = ((footed false).input 0).setting.holdOff ∧
    ((footed false).link 3).present = true ∧ ((footed false).follower 3).lastStamp = none ∧
    (footed false).lead.holder = none ∧ ((footed true).input 0).setting.downbeat = true ∧ (footed true).lead.holder = none ∧
    (downbeat 2147483647).lead.holder = some ⟨0, Terms.default⟩ ∧ (downbeat 2147483647).grid.state = .running ∧
    (downbeat 2147483647).grid.pos.frac = BitVec.ofInt 32 2147483647 ∧
    (downbeat 2147483648).grid.pos.frac = BitVec.ofInt 32 (-2147483648) ∧
    ((downbeat 2147483648).fru.count - 999520).toNat = 480 ∧ canTake 3 0x0A 1 [0, 0, 0] (footed false) := by
  with_reducible and_intros
  all_goals first | exact takes (by decide) _ _ _ _ | decide
theorem witness_ItemsExpireAtTheirFrames : up.phase = .running ∧
    1073741824 ≤ ((1074741824 : Frame) - 1000000).toNat ∧ ((1074741824 : Frame) - 1000000).toNat < 2147483648 ∧
    2147483648 ≤ ((2148483648 : Frame) - 1000000).toNat ∧
    ((up.setLink 1 { Link.reset with emptyReported := true }).link 1).emptyReported = true ∧
    ((up.setFollower 1 ⟨1, some 5, [], none, none⟩).follower 1).lastStamp = some 5 ∧
    ((footed true).input 0).lastEdge = some 995200 ∧
    ((up.setLane 3 { Lane.reset with lastEmission := some 7 }).lane 3).lastEmission = some 7 ∧
    ((up.setPin 2 { Pin.reset with activeUntil := some 9 }).pin 2).activeUntil = some 9 := by decide

/-! ### Witnesses: the lead -/

/-- Terms as a request sends them, at the ends of their ranges. -/
def sentBar : Sent := ⟨.set, .bar, 33, 1001, 9, 0⟩
def sentNow : Sent := ⟨.mark, .now, 0, 0, 1, 300001⟩
theorem fits_sentBar : sentBar.Fits := by unfold Sent.Fits; decide
theorem fits_sentNow : sentNow.Fits := by unfold Sent.Fits; decide
theorem witness_TakeLeadGrantsTheLead : sentBar.Fits ∧ canTake 1 0x03 1 sentBar.bytes up ∧ (up.link 1).present = true ∧
    up.lead.holder = none ∧ startsAt (some ⟨1, sentBar.terms⟩) up.grid = none ∧ sentNow.Fits ∧ Safe up ∧
    canTake 1 0x03 1 sentNow.bytes up ∧ startsAt (some ⟨1, sentNow.terms⟩) up.grid = some 300000 ∧
    canTake 1 0x03 1 sentNow.bytes held ∧ held.grid.state = .holdover ∧ held.lead.holder = none ∧
    startsAt (some ⟨1, sentNow.terms⟩) held.grid = none ∧ canTake 2 0x03 1 [2, 0, 0, 0, 4, 0, 0, 0, 0] coded ∧
    (coded.link 2).present = true ∧ (1 : Nat) < (2 : Byte).toNat ∧ canTake 1 0x03 1 sentBar.bytes away ∧
    sentBar.bytes.length = 9 ∧ (away.link 1).present = false := by
  with_reducible and_intros
  all_goals first
    | exact fits_sentBar
    | exact takes_up _ _ _ _
    | exact fits_sentNow
    | exact safe_up
    | exact takes (by decide) _ _ _ _
    | decide
/-- S0 leads, its handover still waiting for the bar. -/
def swapping : State := { house with lead := ⟨some ⟨0, barTerms⟩, [], some ⟨0, .bar, barTerms, false⟩, 0, none⟩ }
theorem witness_TakeLeadReplacesOrQueues_now : sentNow.Fits ∧ canTake 0 0x03 1 sentNow.bytes swapping ∧
    swapping.lead.holder = some ⟨0, barTerms⟩ ∧ swapping.grid.state ≠ .unset ∧ sentNow.terms.align = .now ∧
    swapping.lead.handover = some ⟨0, .bar, barTerms, false⟩ ∧ Safe unset0 ∧ canTake 0 0x03 1 sentNow.bytes unset0 ∧
    sentNow.terms.tempo = some 300000 ∧ canTake 2 0x03 1 sentNow.bytes coded ∧
    coded.lead.holder = some ⟨0, Terms.default⟩ := by
  with_reducible and_intros
  all_goals first | exact fits_sentNow | exact takes (by decide) _ _ _ _ | exact safe_unset0 | decide
theorem witness_TakeLeadReplacesOrQueues : sentBar.Fits ∧ canTake 0 0x03 1 sentBar.bytes coded ∧
    (coded.link 0).present = true ∧ coded.lead.holder = some ⟨0, Terms.default⟩ ∧ coded.grid.state ≠ .unset ∧
    sentBar.terms.align ≠ .now ∧ (∀ e ∈ coded.lead.queue, e.station ≠ 1) ∧
    coded.lead.queue = [] ++ ⟨2, barTerms⟩ :: [] ∧ unset0.grid.state = .unset ∧ sentBar.tempo = 0 := by
  with_reducible and_intros
  all_goals first | exact fits_sentBar | exact takes (by decide) _ _ _ _ | decide
theorem witness_YieldPassesTheLead : canTake 0 0x04 1 [] coded ∧ (coded.link 0).present = true ∧
    coded.lead.holder = some ⟨0, Terms.default⟩ ∧ coded.grid.state ≠ .holdover ∧
    coded.lead.queue = ⟨2, barTerms⟩ :: [] ∧ startsAt (some ⟨2, barTerms⟩) coded.grid = none ∧ house.lead.queue = [] ∧
    Safe unsetCoded ∧ canTake 0 0x04 1 [] unsetCoded ∧ unsetCoded.lead.holder = some ⟨0, Terms.default⟩ ∧
    unsetCoded.lead.queue = ⟨2, brisk⟩ :: [] ∧ startsAt (some ⟨2, brisk⟩) unsetCoded.grid = some 118000 ∧
    (∀ h, house.lead.holder = some h → h.station ≠ 1) ∧ (∃ e ∈ coded.lead.queue, e.station = 2) ∧
    canTake 0 0x04 1 [] away ∧ (away.link 0).present = false := by
  with_reducible and_intros
  all_goals first
    | exact takes (by decide) _ _ _ _
    | exact safe_unsetCoded
    | exact not_holder 1 (by decide)
    | decide
theorem witness_SeizeTakesTheLead_starts : Safe unsetCoded ∧ canTake 2 0x05 1 (be2 (2741 : BitVec 16).toNat) unsetCoded ∧
    (unsetCoded.link 2).present = true ∧ unsetCoded.lead.code = 2741 ∧ (∀ h, unsetCoded.lead.holder = some h → h.station ≠ 2) ∧
    unsetCoded.lead.queue = [] ++ ⟨2, brisk⟩ :: [] ∧ startsAt (some ⟨2, brisk⟩) unsetCoded.grid = some 118000 ∧
    canTake 1 0x05 1 [0x0A, 0xB5, 2, 0, 0, 0, 4, 0, 0, 0, 0] coded ∧
    (0x0A : Byte).toNat * 256 + (0xB5 : Byte).toNat = coded.lead.code.toNat ∧ (1 : Nat) < (2 : Byte).toNat := by
  with_reducible and_intros
  all_goals first
    | exact safe_unsetCoded
    | exact takes (by decide) _ _ _ _
    | exact fun x h => by obtain rfl : ⟨0, Terms.default⟩ = x := by simpa [unsetCoded] using h decide
    | decide
theorem witness_SeizeTakesTheLead : canTake 1 0x05 1 (be2 (2741 : BitVec 16).toNat) coded ∧
    (coded.link 1).present = true ∧ coded.lead.code ≠ 0 ∧ (2741 : BitVec 16) = coded.lead.code ∧
    (∀ h, coded.lead.holder = some h → h.station ≠ 1) ∧ coded.grid.state ≠ .unset ∧
    (∀ e ∈ coded.lead.queue, e.station ≠ 1) ∧ coded.lead.queue = [] ++ ⟨2, barTerms⟩ :: [] ∧
    (∀ h, coded.lead.holder = some h → h.station ≠ 2) ∧ barTerms.align ≠ .now ∧
    canTake 1 0x05 1 (be2 (2741 : BitVec 16).toNat ++ sentBar.bytes) coded ∧ sentBar.Fits ∧ sentBar.align ≠ .now ∧
    (2740 : BitVec 16) ≠ coded.lead.code ∧ house.lead.code = 0 ∧ coded.lead.holder = some ⟨0, Terms.default⟩ ∧
    canTake 1 0x05 1 (be2 (0 : BitVec 16).toNat) away ∧ (away.link 1).present = false := by
  with_reducible and_intros
  all_goals first
    | exact takes (by decide) _ _ _ _
    | exact coded_holder 1 (by decide)
    | exact coded_holder 2 (by decide)
    | exact fits_sentBar
    | decide
theorem witness_SeizeCodeSetChangesTheCode :
    canTake 3 0x06 1 (be2 (2741 : BitVec 16).toNat ++ be2 (65535 : BitVec 16).toNat) coded ∧
    (coded.link 3).present = true ∧ (2741 : BitVec 16) = coded.lead.code ∧ (65535 : BitVec 16) ≠ coded.lead.code ∧
    (0 : BitVec 16) ≠ coded.lead.code ∧
    canTake 3 0x06 1 (be2 (0 : BitVec 16).toNat ++ be2 (0 : BitVec 16).toNat) away ∧ (away.link 3).present = false := by
  with_reducible and_intros
  all_goals first | exact takes (by decide) _ _ _ _ | decide
/-- The departure of a station reported. -/
def reported (st : Station) (s : State) : State := s.setLink st { Link.reset with lapseReported := true }
theorem safe_reported (st : Station) {s : State} (h : Safe s) (hf : s.follower st = Follower.empty) : Safe (reported st s) :=
  safe_link h (by constructor <;> first | decide | trivial) (fun _ c => by cases c) (fun _ _ => hf)
theorem witness_LapsePassesTheLead : (house.link 1).lapseReported = false ∧ house.phase = .running ∧
    ((reported 0 house).link 0).lapseReported = true ∧ (reported 0 house).lead.holder = some ⟨0, Terms.default⟩ ∧
    (reported 0 house).grid.state ≠ .holdover ∧ (reported 0 house).lead.queue = [] ∧
    (reported 0 coded).lead.queue = ⟨2, barTerms⟩ :: [] ∧ startsAt (some ⟨2, barTerms⟩) coded.grid = none ∧
    Safe (reported 0 unsetCoded) ∧ (reported 0 unsetCoded).lead.holder = some ⟨0, Terms.default⟩ ∧
    (reported 0 unsetCoded).lead.queue = ⟨2, brisk⟩ :: [] ∧
    startsAt (some ⟨2, brisk⟩) (reported 0 unsetCoded).grid = some 118000 ∧
    ((reported 2 coded).link 2).lapseReported = true ∧ (∃ e ∈ (reported 2 coded).lead.queue, e.station = 2) := by
  with_reducible and_intros
  all_goals first | exact safe_reported 0 safe_unsetCoded (house_follower 0) | decide

/-! ### Witnesses: lanes, pins and ports -/

/-- L4 of a state, with its parts. -/
def lane4 (ln : Lane) : State := withLane4 ln coded
def ownedLane : Lane := { Lane.reset with owner := some 3, settings := onPin 2 }
theorem witness_OwnershipGuardsALane : ((lane4 ownedLane).link 1).present = true ∧
    ((lane4 ownedLane).lane 4).owner = some 3 ∧ (3 : Station) ≠ 1 ∧
    (∀ k f, canTake 1 k 1 f (lane4 ownedLane) ∧ canTake 1 k 1 f (withLane4 ownedLane house)) ∧
    ([4, 0, 0x10, 0, 3, 10, 180] ++ List.replicate 22 0 : List Byte).length = 29 ∧ (4 : Byte).toNat = (4 : LaneId).val ∧
    (3 : Byte).getLsbD 1 = true ∧ (1 : Byte).getLsbD 1 = false ∧ ((10 : Byte) ++ (180 : Byte) : BitVec 16) = 2740 ∧
    (lane4 ownedLane).lead.code ≠ 0 ∧ (2740 : BitVec 16) ≠ (lane4 ownedLane).lead.code ∧
    (withLane4 ownedLane house).lead.code = 0 ∧ canTake 3 0x10 1 [4] (lane4 ownedLane) ∧
    ((lane4 ownedLane).link 3).present = true ∧ (4 : LaneId).val = (4 : Byte).toNat ∧
    canTake 3 0x10 1 [16] (lane4 ownedLane) ∧ 16 ≤ (16 : Byte).toNat ∧ canTake 3 0x10 1 [4] away ∧
    (away.link 3).present = false := by
  with_reducible and_intros
  all_goals first
    | exact fun _ _ => ⟨takes (by decide) _ _ _ _, takes (by decide) _ _ _ _⟩
    | exact takes (by decide) _ _ _ _
    | decide

/-- An ACTIVE lane of rate PER_BEAT 1 at the house position, its next point beat 5,001. -/
def activeLane : Lane := { Lane.reset with
  state := .active, settings := onPin 2, nextPoint := some ⟨5001, 0, 0⟩ }
theorem witness_LaneSetWritesOrStages : (-4801 : Int) ≥ -32768 ∧ (-4801 : Int) ≤ 32767 ∧
    ((lane4 Lane.reset).link 1).present = true ∧ ((lane4 Lane.reset).lane 4).owner = none ∧
    canTake 1 0x0D 1 (offsetBytes 4 2 (flagByte true) 0 (-4801)) (lane4 Lane.reset) ∧
    RateOk LaneKind.pin (Rate.perBeat 1) ∧ ((lane4 Lane.reset).lane 4).state = .off ∧ (2 : Byte).toNat ≤ 2 ∧
    canTake 1 0x0D 1 (offsetBytes 4 1 (flagByte false) 0 4800) (lane4 activeLane) ∧
    ((lane4 activeLane).lane 4).state = .active := by
  with_reducible and_intros
  all_goals first | exact takes (by decide) _ _ _ _ | decide | rfl
theorem witness_LaneSetWritesOrStages_now : canTake 1 0x0D 1 (offsetBytes 4 0 (flagByte true) 0 (-4800)) (lane4 activeLane) ∧
    ((lane4 activeLane).lane 4).state = .active ∧
    (swingApplies (onPin 2).rate = false → (onPin 2).swing = 50) ∧ RateOk (onPin 2).kind (onPin 2).rate :=
  ⟨takes (by decide) _ _ _ _, by decide, by decide, rfl⟩
theorem onPin_ok : SettingsOk (onPin 2) := by constructor <;> first | decide | rfl
/-- L4 in ARMING, for beat 5,002. -/
def armingLane : Lane := { Lane.reset with
  state := .arming, settings := onPin 2, activation := some (.position (Pos.beatStart 5002)) }
theorem witness_LaneSetChangesTheRateOrTheKind : ((lane4 activeLane).link 1).present = true ∧
    ((lane4 activeLane).lane 4).owner = none ∧ (2 : Byte).toNat ≤ 2 ∧ SettingsOk ((lane4 activeLane).lane 4).settings ∧
    canTake 1 0x0D 1 (firstBytes 4 0x04 0 (flagByte false) 0 0 0 1 64) (lane4 activeLane) ∧ RateOk .pin (.every 64) ∧
    (64 : Byte).toNat = 64 ∧ ((lane4 activeLane).lane 4).state = .active ∧ ((lane4 armingLane).lane 4).state = .arming ∧
    canTake 1 0x0D 1 (firstBytes 4 0x04 2 (flagByte true) 0 0 0 2 0) (lane4 armingLane) ∧ RateOk .pin .perBar ∧
    canTake 1 0x0D 1 (firstBytes 4 0x04 1 (flagByte true) 0 0 0 0 8) (lane4 Lane.reset) ∧ RateOk .pin (.perBeat 8) ∧
    canTake 1 0x0D 1 (offsetBytes 4 0 (flagByte true) 0 4800) (lane4 armingLane) ∧ LaneKind.notice ≠ .pin ∧
    ((lane4 Lane.reset).lane 4).state = .off ∧
    canTake 1 0x0D 1 (firstBytes 4 0x01 0 (flagByte false) 0 (laneKindByte .notice) 0 0 0) (lane4 Lane.reset) := by
  with_reducible and_intros
  all_goals first | exact onPin_ok | exact takes (by decide) _ _ _ _ | decide | rfl
/-- A lane ACTIVE since beat 5,000, a start waiting to be emitted at this count. -/
def emitting (x : Settings) (due : Frame) : Lane :=
  { activeLane with settings := x, queue := [⟨due, true, false, some .start, 1⟩] }
theorem emitting_ok {x : Settings} {d : Frame} (hx : SettingsOk x) (hr : x.rate = .perBeat 1) (ht : x.target ≠ .none) :
    LaneOk (emitting x d) := by
  refine ⟨hx, fun sp h => (by cases h), by change 1 ≤ 64; decide, fun i h => ?_, fun r h => ?_, fun h => (by cases h),
    fun h => (by cases h), fun _ => ⟨rfl, rfl⟩, fun _ => ⟨fun h => (by cases h), fun ⟨q, h⟩ => ?_⟩, fun _ => ht⟩
  · change i + 1 < 1 at h; omega
  · obtain rfl : (⟨d, true, false, some .start, 1⟩ : PointRecord) = r := by
      rcases h with _ | ⟨_, h⟩
      · rfl
      · cases h
    exact ⟨Nat.le_refl 1, by change 1 ≤ 255; decide⟩
  · change x.rate = .every q at h; rw [hr] at h; cases h
/-- The bytes of a Lane Set for L4 with this mask, zero but for one byte. -/
def rawSet (mask : BitVec 16) (at' : Nat) (v : Byte) : List Byte :=
  ((4 :: be2 mask.toNat) ++ List.replicate 26 0).set at' v
theorem witness_LaneSetChecksItsFields : canTake 1 0x0D 1 (List.replicate 29 0) away ∧ (away.link 1).present = false ∧
    canTake 1 0x0D 1 (16 :: List.replicate 28 0) up ∧ (15 : Nat) < ((16 :: List.replicate 28 0 : List Byte).getD 0 0).toNat ∧
    ((lane4 activeLane).link 1).present = true ∧ ((lane4 activeLane).lane 4).owner = none ∧
    ((lane4 activeLane).lane 4).state ≠ .off ∧ ((lane4 Lane.reset).lane 4).state = .off ∧
    ((lane4 ownedLane).lane 4).owner = some 3 ∧ (lane4 ownedLane).lead.code ≠ 0 ∧
    ((lane4 ownedLane).lane 4).state = .off ∧ SettingsOk ((lane4 ownedLane).lane 4).settings ∧
    canTake 1 0x0D 1 (offsetBytes 4 0 3 (lane4 ownedLane).lead.code (-4800)) (lane4 ownedLane) := by
  with_reducible and_intros
  all_goals first | exact takes (by decide) _ _ _ _ | exact takes_up _ _ _ _ | exact onPin_ok | decide
/-- Each field that is checked, at the first value past its list, and polarity on a lane that is not OFF. -/
theorem witness_LaneSetChecksItsFields_bytes :
    (∀ f, canTake 1 0x0D 1 f (lane4 activeLane) ∧ canTake 1 0x0D 1 f (lane4 Lane.reset)) ∧
    (∀ x ∈ [((0x0200 : BitVec 16), 20, (0 : Byte)), (0, 3, 3), (0x0001, 7, 3), (0x0002, 8, 8), (0x0004, 9, 3),
        (0x0004, 10, 0), (0x0020, 14, 3), (0x0040, 15, 4), (0x0200, 20, 2), (0x3000, 27, 2), (0x1000, 23, 0)],
      (rawSet x.1 x.2.1 x.2.2).length = 29 ∧ ((rawSet x.1 x.2.1 x.2.2).getD 0 0).toNat = (4 : LaneId).val ∧
      ((rawSet x.1 x.2.1 x.2.2).getD 1 0).toNat * 256 + ((rawSet x.1 x.2.1 x.2.2).getD 2 0).toNat = x.1.toNat ∧
      (rawSet x.1 x.2.1 x.2.2).getD x.2.1 0 = x.2.2) :=
  ⟨fun _ => ⟨takes (by decide) _ _ _ _, takes (by decide) _ _ _ _⟩, by decide⟩
/-- All settings of a PIN lane, each past an end of its range or at one. -/
def sentAll (mask : BitVec 16) (a : ApplyAt) : SentSettings :=
  ⟨mask, a, true, .pin, .pin 7, .perBeat 255, 255, 32767, .bar, .run, 65535, 1, .inverted, true, 0, ⟨0, 0, 0, 0⟩, none⟩
/-- The codes of a STREAM lane, with its kind. -/
def sentCodes : SentSettings :=
  ⟨0x3001, .now, false, .stream, .none, .every 255, 0, -32768, .beat, .pulse, 0, 65535, .normal, false, 255,
    ⟨0xF8, 0xFA, 0xFC, 0xFB⟩, some 0xFF⟩
theorem fits_sentAll (mask : BitVec 16) (a : ApplyAt) (old : Settings)
    (h : mask.getLsbD 12 = false ∧ mask.getLsbD 13 = false) (hk : old.kind = .pin) : (sentAll mask a).Fits old := by
  have k : (sentAll mask a).newKind old = .pin := by unfold SentSettings.newKind; split <;> first | rfl | exact hk
  unfold SentSettings.Fits
  rw [k]
  with_reducible and_intros
  all_goals first | exact fun _ => rfl | exact fun c => absurd rfl c | exact fun _ => h | simp [sentAll]
theorem fits_sentCodes (old : Settings) : sentCodes.Fits old := by
  unfold SentSettings.Fits
  with_reducible and_intros
  all_goals first
    | exact fun _ b _ _ => by interval_cases b <;> rfl
    | exact fun c => absurd rfl c
    | exact fun c => absurd c (by decide)
    | decide
    | exact ⟨by decide, by decide⟩
theorem offLane_ok : LaneOk Lane.reset := by rw [← house_lane 4]; exact safe_house.lanes.1 4
theorem armingLane_ok : LaneOk armingLane := by
  constructor
  · exact onPin_ok
  all_goals first | decide | (intro _ h; simp [armingLane, Lane.reset] at h) | (intro h; exact absurd h (by decide))
/-- In each lane state, at each apply-at, with everything carried that the state allows, and with align and spacing alone. -/
theorem witness_LaneSetWritesEverySetting (m : BitVec 16) (a : ApplyAt) (f : List Byte) :
    canTake 1 0x0D 1 f (lane4 Lane.reset) ∧ canTake 1 0x0D 1 f (lane4 armingLane) ∧
    canTake 1 0x0D 1 f (lane4 (emitting (onPin 2) 1000001)) ∧ LaneOk Lane.reset ∧ LaneOk armingLane ∧
    LaneOk (emitting (onPin 2) 1000001) ∧ ((lane4 Lane.reset).link 1).present = true ∧
    ((lane4 (emitting (onPin 2) 1000001)).lane 4).owner = none ∧ ((lane4 Lane.reset).lane 4).state = .off ∧
    (sentAll 0x0FFF a).Fits Settings.default ∧ sentCodes.Fits Settings.default ∧ (sentAll 0x0DFC a).Fits (onPin 2) ∧
    (sentAll 0x0820 a).Fits (onPin 2) ∧ (0x0820 &&& 0x35DC : BitVec 16) = 0 ∧
    (m = 0x0DFC ∨ m = 0x0820 → (sentAll m a).has 0 = false ∧ (sentAll m a).has 1 = false ∧ (sentAll m a).has 9 = false) := by
  with_reducible and_intros
  all_goals first
    | exact takes (by decide) _ _ _ _
    | exact offLane_ok
    | exact armingLane_ok
    | exact emitting_ok onPin_ok rfl (by decide)
    | exact fits_sentAll _ _ _ (by decide) rfl
    | exact fits_sentCodes _
    | exact fun h => by rcases h with rfl | rfl <;> cases a <;> decide
    | decide
/-- Two lanes that target P2: L1 ARMING holds it, L4 is OFF. -/
def contested : State := (lane4 { Lane.reset with settings := onPin 2 }).setLane 1
  { Lane.reset with state := .arming, settings := onPin 2 }
theorem free_pin (p : PinId) (m : LaneId) (h : m ≠ 4) : ¬ holdsPin (lane4 { Lane.reset with settings := onPin 2 }) m p := by
  intro hh
  have : ∀ m : LaneId, m ≠ 4 → ((lane4 { Lane.reset with settings := onPin 2 }).lane m).state = .off := by decide
  exact hh.1 (this m h)
theorem witness_LaneEnableArmsALane : ((lane4 Lane.reset).link 1).present = true ∧
    ((lane4 Lane.reset).lane 4).owner = none ∧
    canTake 1 0x0E 1 (BitVec.ofNat 8 4 :: 0 :: be2 (0 : BitVec 16).toNat) (lane4 Lane.reset) ∧
    ((lane4 Lane.reset).lane 4).settings.target = .none ∧ holdsPin contested 1 2 ∧
    (∀ k : LaneId, k < 1 → k ≠ 4 → (contested.lane k).state = .off) ∧
    (∀ p m, m ≠ 4 → ¬ holdsPin (lane4 { Lane.reset with settings := onPin 2 }) m p) ∧
    (lane4 { Lane.reset with settings := onPin 2 }).grid.state ≠ .unset ∧
    ((lane4 activeLane).lane 4).disable = none ∧
    ((lane4 { activeLane with disable := some ⟨true, 5001⟩ }).lane 4).disable.isSome ∧
    ((lane4 { Lane.reset with state := .arming, settings := onPin 2 }).lane 4).state = .arming := by
  with_reducible and_intros
  all_goals first
    | exact takes (by decide) _ _ _ _
    | exact ⟨by decide, by decide, by decide⟩
    | exact free_pin
    | decide
/-- The lowest point of a NOW lane of rate PER_BEAT beyond the reference, inside the beat and past its last point. -/
theorem witness_LaneEnableArmsALane_now : ({ onPin 2 with rate := .perBeat 4, align := .now } : Settings).align = .now ∧
    PointFrom true { onPin 2 with rate := .perBeat 4, swing := 60 } 4 ⟨5000, 0⟩ ⟨5000, 1, 1288490188⟩ ∧
    PointFrom true { onPin 2 with rate := .perBeat 4, swing := 60 } 4 ⟨5000, 3435973836⟩ ⟨5001, 0, 0⟩ := by
  unfold PointFrom; decide
theorem witness_LaneDisableFollowsItsTable : ((lane4 activeLane).link 1).present = true ∧
    ((lane4 activeLane).lane 4).owner = none ∧
    canTake 1 0x0F 1 (BitVec.ofNat 8 4 :: 2 :: 0 :: be2 (0 : BitVec 16).toNat) (lane4 activeLane) ∧
    ((lane4 activeLane).lane 4).state = .active ∧ ((lane4 activeLane).lane 4).settings.kind = .pin ∧
    ((lane4 activeLane).lane 4).settings.target = .pin 2 ∧ 3 ≤ (3 : Byte).toNat ∧
    ((lane4 Lane.reset).lane 4).state = .off ∧
    ((lane4 { activeLane with settings := { Settings.default with kind := .stream, target := .port 0 } }).lane
      4).settings.target = .port 0 ∧
    ((lane4 { activeLane with settings := { Settings.default with kind := .notice, target := .station 0 } }).lane
      4).settings.kind = .notice := by
  with_reducible and_intros
  all_goals first | exact takes (by decide) _ _ _ _ | decide
/-- The reference stands exactly at beat 5,000. -/
def atBeat (ln : Lane) : State := { lane4 ln with grid := { grid120 with pos := ⟨5000, 0⟩ } }
/-- The reference stands at beat 5,001, the next bar start. -/
def atBar (ln : Lane) : State := { lane4 ln with
  grid := { grid120 with pos := ⟨5001, 0⟩, barStart := 5001, beatInBar := 0 } }
/-- An ACTIVE lane whose next point stands at this beat. -/
def pointAt (b : Beat) : Lane := { activeLane with nextPoint := some ⟨b, 0, 0⟩ }
theorem from_pointAt (b : Beat) (ln : Lane) (h : ln.nextPoint = some ⟨b, 0, 0⟩)
    (hb : (Pos.beatStart b).atOrBeyond (Pos.beatStart b) = true) : nextPointFrom ln b := by
  intro n hn; rw [h] at hn; cases hn; exact hb
theorem witness_LaneMomentsAtTheirBoundaries :
    ((atBeat { armingLane with activation := some (.position (Pos.beatStart 5000)) }).lane 4).state = .arming ∧
    RateOk LaneKind.pin (Rate.perBeat 1) ∧ (reference (atBeat activeLane).grid 0).atOrBeyond (Pos.beatStart 5000) = true ∧
    (atBeat activeLane).grid.state ≠ .unset ∧ (atBeat activeLane).phase = .running ∧ nextPointFrom (pointAt 5000) 5000 ∧
    ((atBeat { pointAt 5000 with staged := some ⟨ratePatch (.every 2), false, 5000⟩ }).lane 4).staged =
      some ⟨ratePatch (.every 2), false, 5000⟩ ∧
    RateOk .pin (settledSwing (applyPatch (ratePatch (.every 2)) (onPin 2))).rate ∧
    ((atBeat { pointAt 5000 with
      disable := some ⟨false, 5000⟩, settings := { Settings.default with kind := .notice } }).lane 4).disable =
        some ⟨false, 5000⟩ ∧
    nextItem (reference (atBeat activeLane).grid 0) activeLane = none := by
  exact ⟨by decide, rfl, by decide, by decide, by decide, from_pointAt _ _ rfl (by decide), by decide, rfl, by decide,
    by decide⟩
/-- The same at a bar boundary, and a bar boundary at a beat that is no bar start. -/
theorem witness_LaneMomentsAtTheirBoundaries_bars :
    ((atBar { armingLane with activation := some (.barStart 5001) }).lane 4).activation = some (.barStart 5001) ∧
    isBarStart (atBar activeLane).grid 5001 = true ∧
    (reference (atBar activeLane).grid 0).atOrBeyond (Pos.beatStart 5001) = true ∧ nextPointFrom (pointAt 5001) 5001 ∧
    ((atBar { pointAt 5001 with disable := some ⟨true, 5001⟩ }).lane 4).disable = some ⟨true, 5001⟩ ∧
    ((atBeat { armingLane with activation := some (.barStart 5000) }).lane 4).activation = some (.barStart 5000) ∧
    isBarStart (atBeat activeLane).grid 5000 = false := by
  with_reducible and_intros
  all_goals first | exact from_pointAt _ _ rfl (by decide) | decide
/-- A NOW lane whose reference has reached its activation point inside beat 5,000. -/
def armedInside : Lane := { armingLane with
  settings := { onPin 2 with rate := .perBeat 8, align := .now }, activation := some (.position ⟨4999, 536870912⟩) }
/-- A staged part and a disable at one beat and at two. -/
def twoAt (staged : Beat) (bar : Bool) (disable : Beat) : Lane := { pointAt 4998 with
  staged := some ⟨offsetPatch (-100), bar, staged⟩, disable := some ⟨false, disable⟩ }
theorem witness_LaneMomentsAtTheirBoundaries_inside :
    ((atBeat armedInside).lane 4).state = .arming ∧ ((atBeat armedInside).lane 4).settings.rate = .perBeat 8 ∧
    PointFrom false armedInside.settings 8 (pointPos ⟨4999, 1, 536870912⟩) ⟨4999, 1, 536870912⟩ ∧
    (reference (atBeat armedInside).grid 0).atOrBeyond (pointPos ⟨4999, 1, 536870912⟩) = true ∧
    armedInside.activation = some (.position (pointPos ⟨4999, 1, 536870912⟩)) := by
  unfold PointFrom; decide
theorem witness_LaneMomentsAtTheirBoundaries_two :
    ((atBeat (twoAt 4998 false 4999)).lane 4).staged = some ⟨offsetPatch (-100), false, 4998⟩ ∧
    (twoAt 4998 false 4999).disable = some ⟨false, 4999⟩ ∧ liesBeyond 4999 4998 ∧ nextPointFrom (pointAt 4998) 4998 ∧
    (reference (atBeat (twoAt 4998 false 4999)).grid 0).atOrBeyond (Pos.beatStart 4998) = true ∧
    ((atBeat (twoAt 5001 true 4998)).lane 4).disable = some ⟨false, 4998⟩ ∧ liesBeyond 5001 4998 ∧
    (twoAt 4998 true 4998).staged.map Staged.boundary = some ⟨true, 4998⟩ ∧
    RateOk .pin (settledSwing (applyPatch (offsetPatch (-100)) (onPin 2))).rate := by
  with_reducible and_intros
  all_goals first | exact from_pointAt _ _ rfl (by decide) | (unfold liesBeyond; decide) | decide | rfl
/-- An EVERY lane keeps its anchor: beats 4,990, 4,993 and so on, the first from 5,000 on being 5,002. -/
theorem witness_WalkServesBoundaries_every : EveryFrom 3 4990 5000 ⟨5002, 0, 0⟩ := ⟨4, by decide, by decide, by decide⟩
/-- A record of one plain point. -/
def record : PointRecord := ⟨1000000, true, false, none, 1⟩
theorem witness_WalkIssuesPoints : (pointAt 5000).state = .active ∧ (pointAt 5000).nextPoint = some ⟨5000, 0, 0⟩ ∧
    (pointAt 5000).staged = none ∧ (pointAt 5000).disable = none ∧
    (reference (atBeat activeLane).grid 0).atOrBeyond (pointPos ⟨5000, 0, 0⟩) = true ∧
    (reference (atBeat activeLane).grid 0).atOrBeyond (pointPos ⟨5001, 0, 0⟩) = false ∧
    ({ onPin 2 with rate := .perBar } : Settings).rate = .perBar ∧ isBarStart (atBeat activeLane).grid 5000 = false ∧
    (pointAt 5000).queue = [] ∧
    ({ pointAt 5000 with queue := List.replicate 63 record } : Lane).queue = List.replicate 62 record ++ [record] ∧
    (List.replicate 62 record).length < 63 ∧
    ({ pointAt 5000 with queue := List.replicate 64 record } : Lane).queue = List.replicate 63 record ++ [record] ∧
    63 ≤ (List.replicate 63 record).length := by decide
/-- A staged part and a disable at beat 5,001, ahead of the reference that has reached the point of beat 5,000; and the
reference at 5,001, which has reached them but not before the point. -/
def bounded : Lane := { pointAt 5000 with staged := some ⟨offsetPatch 100, true, 5001⟩, disable := some ⟨false, 5001⟩ }
theorem witness_WalkIssuesPoints_ahead : bounded.state = .active ∧ bounded.nextPoint = some ⟨5000, 0, 0⟩ ∧
    (∀ d ∈ (bounded.staged.map Staged.boundary).toList ++ bounded.disable.toList,
      (⟨5000, 0⟩ : Pos).atOrBeyond (Pos.beatStart d.beat) = false ∧ (⟨5001, 0⟩ : Pos).atOrBeyond (Pos.beatStart d.beat) = true ∧
      (pointPos ⟨5000, 0, 0⟩).atOrBeyond (Pos.beatStart d.beat) = false) ∧
    (⟨5001, 0⟩ : Pos).atOrBeyond (pointPos ⟨5000, 0, 0⟩) = true := by decide
theorem witness_WalkServesBoundaries :
    (reference (atBar activeLane).grid 0).atOrBeyond (Pos.beatStart 5001) = true ∧ armingLane.state = .arming ∧
    RateOk (onPin 2).kind (onPin 2).rate ∧ isBarStart (atBar activeLane).grid 5001 = true ∧
    isBarStart (atBeat activeLane).grid 5000 = false ∧ nextPointFrom (pointAt 5001) 5001 ∧ (pointAt 5001).state = .active ∧
    RateOk .pin (settledSwing (applyPatch (offsetPatch (-100)) (onPin 2))).rate ∧
    nextItem (reference (atBeat activeLane).grid 0) activeLane = none := by
  with_reducible and_intros
  all_goals first | exact from_pointAt _ _ rfl (by decide) | decide | rfl

/-- That lane on its pin. -/
def pinEmits (due : Frame) : State :=
  (house.setLane 4 (emitting (onPin 2) due)).setPin 2 ⟨.lane, false, .normal, none, false, none⟩
theorem safe_pinEmits (d : Frame) : Safe (pinEmits d) :=
  safe_pinLane safe_house rfl rfl (emitting_ok onPin_ok rfl (by decide)) (fun h => by cases h) rfl rfl rfl rfl
    (fun h => by cases h)
/-- The lane's walk on the frame event to 1,000,001 leaves it as it is. -/
theorem walks (x : Settings) (s : State) (h : gives (.frameEvent FrameOrder.plain) s (fun t =>
      decide (t.fru.count = 1000001 ∧ walkedOn t (s.lane 4) = emitting x 1000001)) = true) :
    ∃ t, exec (.frameEvent FrameOrder.plain) s = .next t ∧ t.fru.count = 1000001 ∧
      walkedOn t (s.lane 4) = emitting x 1000001 := by
  obtain ⟨t, h1, h2⟩ := of_gives h
  exact ⟨t, h1, of_decide_eq_true h2⟩
theorem witness_PinEmissionsDriveThePin : Safe (pinEmits 1000001) ∧ (pinEmits 1000001).phase = .running ∧
    (pinEmits 1000001).grid.state ≠ .unset ∧ (onPin 2).kind = .pin ∧ (onPin 2).target = .pin 2 ∧
    Emits 1000001 (emitting (onPin 2) 1000001) ⟨1000001, true, false, some .start, 1⟩ (pinEmits 1000001).pin ∧
    ∃ t, exec (.frameEvent FrameOrder.plain) (pinEmits 1000001) = .next t ∧ t.fru.count = 1000001 ∧
      walkedOn t ((pinEmits 1000001).lane 4) = emitting (onPin 2) 1000001 := by
  refine ⟨safe_pinEmits _, rfl, by decide, rfl, rfl, ⟨by decide, fun e h => (by cases h), ?_⟩, walks _ _ (by decide +kernel)⟩
  intro p a _ _ ht h
  cases ht
  rw [show (pinEmits 1000001).pin 2 = ⟨.lane, false, .normal, none, false, none⟩ by decide] at h
  cases h
theorem witness_EmissionsArePaced : Safe (pinEmits 1000001) ∧ (pinEmits 1000001).grid.state ≠ .unset ∧
    Safe up ∧ up.grid.state = .unset ∧ (∃ t, exec (.frameEvent FrameOrder.plain) up = .next t) ∧
    (emitting (onPin 2) 1000002).queue = ⟨1000002, true, false, some .start, 1⟩ :: [] ∧
    ¬ Emits 1000001 (emitting (onPin 2) 1000002) ⟨1000002, true, false, some .start, 1⟩ (pinEmits 1000002).pin :=
  ⟨safe_pinEmits _, by decide, safe_up, rfl, ⟨_, rfl⟩, rfl, fun h => absurd h.1 (by decide)⟩
/-- A lane whose disable the walk reaches, its target still told of a start. -/
def ending (x : Settings) : Lane := { emitting x 1000001 with disable := some ⟨false, 5000⟩, emittedPlaying := true }
theorem ending_ok {x : Settings} (hx : SettingsOk x) (hr : x.rate = .perBeat 1) (ht : x.target ≠ .none) :
    LaneOk (ending x) := by
  have h : LaneOk (emitting x 1000001) := emitting_ok hx hr ht
  exact ⟨h.1, h.2, h.3, h.4, h.5, fun e => (by cases e), fun e => (by cases e), h.8, h.9, h.10⟩
/-- The walk of L4 on the next frame event ends in OFF. -/
theorem ends_off {s : State} (h : gives (.frameEvent FrameOrder.plain) s (fun t =>
      decide ((walkedOn t (s.lane 4)).state = .off)) = true) :
    ∃ t, exec (.frameEvent FrameOrder.plain) s = .next t ∧ (walkedOn t (s.lane 4)).state = .off := by
  obtain ⟨t, h1, h2⟩ := of_gives h
  exact ⟨t, h1, of_decide_eq_true h2⟩
def pinEnds : State := (house.setLane 4 (ending (onPin 2))).setPin 2 ⟨.lane, true, .normal, none, false, none⟩
def portEnds : State := house.setLane 4 (ending { Settings.default with kind := .stream, target := .port 3 })
theorem witness_EmissionsArePaced_disable : Safe pinEnds ∧ Safe portEnds ∧ (pinEnds.lane 4).state ≠ .off ∧
    (∀ m : LaneId, m ≠ 4 → (portEnds.lane m).state = .off) ∧ (portEnds.lane 4).emittedPlaying = true ∧
    (∃ t, exec (.frameEvent FrameOrder.plain) pinEnds = .next t ∧ (walkedOn t (pinEnds.lane 4)).state = .off) ∧
    (∃ t, exec (.frameEvent FrameOrder.plain) portEnds = .next t ∧ (walkedOn t (portEnds.lane 4)).state = .off) := by
  with_reducible and_intros
  all_goals first
    | exact safe_pinLane safe_house rfl rfl (ending_ok onPin_ok rfl (by decide)) (fun h => by cases h) rfl rfl rfl rfl
        (fun h => by cases h)
    | exact safe_otherLane safe_house rfl (ending_ok (by constructor <;> first | decide | rfl) rfl (by decide)) (by decide)
    | exact ends_off (by decide +kernel)
    | decide
/-- A stream lane on a port of its own, and a notice lane to a station of its own. -/
def onPort : Settings := { Settings.default with kind := .stream, target := .port 3, codes := ⟨0xF8, 0xFA, 0xFC, 0xFB⟩ }
def onStation : Settings := { Settings.default with kind := .notice, target := .station 0 }
def portEmits : State := house.setLane 4 (emitting onPort 1000001)
def noticeEmits : State := house.setLane 4 (emitting onStation 1000001)
theorem onPort_ok : SettingsOk onPort := by constructor <;> first | decide | rfl
theorem onStation_ok : SettingsOk onStation := by constructor <;> first | decide | rfl
theorem emits_other {x : Settings} (hk : x.kind ≠ .pin) (pins : PinId → Pin) :
    Emits 1000001 (emitting x 1000001) ⟨1000001, true, false, some .start, 1⟩ pins :=
  ⟨by decide, fun e h => (by cases h), fun p a h => absurd h hk⟩
theorem witness_StreamAndNoticeEmissions : Safe portEmits ∧ Safe noticeEmits ∧ portEmits.grid.state ≠ .unset ∧
    Emits 1000001 (emitting onPort 1000001) ⟨1000001, true, false, some .start, 1⟩ portEmits.pin ∧
    Emits 1000001 (emitting onStation 1000001) ⟨1000001, true, false, some .start, 1⟩ noticeEmits.pin ∧
    (∀ m : LaneId, m ≠ 4 → (portEmits.lane m).state = .off) ∧ (∀ m : LaneId, m ≠ 4 → (noticeEmits.lane m).state = .off) ∧
    noticeEmits.fru.switch = .none ∧ noticeEmits.grid.pos.frac.toNat + noticeEmits.grid.appliedInc < 4294967296 ∧
    (noticeEmits.link 0).countdown ≠ some 1 ∧
    (∃ t, exec (.frameEvent FrameOrder.plain) portEmits = .next t ∧ t.fru.count = 1000001 ∧
      walkedOn t (portEmits.lane 4) = emitting onPort 1000001) ∧
    (∃ t, exec (.frameEvent FrameOrder.plain) noticeEmits = .next t ∧ t.fru.count = 1000001 ∧
      walkedOn t (noticeEmits.lane 4) = emitting onStation 1000001) := by
  with_reducible and_intros
  all_goals first
    | exact safe_otherLane safe_house rfl (emitting_ok onPort_ok rfl (by decide)) (by decide)
    | exact safe_otherLane safe_house rfl (emitting_ok onStation_ok rfl (by decide)) (by decide)
    | exact emits_other (by decide) _
    | exact walks _ _ (by decide +kernel)
    | decide
theorem witness_StreamAndNoticeEmissions_fifo : (List.replicate 13 (⟨2, true⟩ : FifoCode)).length ≤ 13 ∧
    13 < (List.replicate 14 (⟨2, true⟩ : FifoCode)).length ∧ (List.replicate 15 (⟨2, false⟩ : FifoCode)).length ≤ 15 ∧
    15 < (List.replicate 16 (⟨2, false⟩ : FifoCode)).length ∧ Port.reset.sending = none ∧ Port.reset.owedTicks = 0 := by
  decide

theorem witness_PinSetWritesAPin : canTake 1 0x11 1 [7, 1, 1, 1, 0, 0] up ∧ (up.link 1).present = true ∧
    (7 : PinId).val = (7 : Byte).toNat ∧ (up.pin 7).function ≠ .lane ∧ (1 : Byte) = polarityByte .inverted ∧
    (1 : Byte) = flagByte true ∧ canTake 1 0x11 1 [8, 1, 1, 1, 0, 0] up ∧ 8 ≤ (8 : Byte).toNat ∧
    canTake 1 0x11 1 [7, 2, 0, 0, 6, 3] up ∧ [(6 : Byte), 3] = [6, BitVec.ofNat 8 (3 : Station).val] ∧
    canTake 1 0x11 1 [7, 2, 0, 0, 6, 4] up ∧ 3 < (4 : Byte).toNat ∧
    holdsPin contested 1 2 ∧ (∀ m : LaneId, m < 1 → (contested.lane m).state = .off) ∧
    ((contested.setPin 2 { Pin.reset with function := .lane }).pin 2).function = .lane ∧
    canTake 1 0x11 1 [0, 1, 0, 0, 0, 0] away ∧ (away.link 1).present = false := by
  with_reducible and_intros
  all_goals first
    | exact takes_up _ _ _ _
    | exact ⟨by decide, by decide, by decide⟩
    | exact takes (by decide) _ _ _ _
    | decide

/-- L4 as a stream lane at T3. -/
def streaming : State := lane4 { activeLane with settings := { Settings.default with kind := .stream, target := .port 3 } }
theorem witness_PortSetWritesTheRate : canTake 1 0x12 1 [3, 3] up ∧ (up.link 1).present = true ∧
    (3 : PortId).val = (3 : Byte).toNat ∧ (3 : Byte) = portRateByte .r250000 ∧
    (∀ l : LaneId, (up.lane l).state = .off) ∧ canTake 1 0x12 1 [3, 4] up ∧ 4 ≤ (4 : Byte).toNat ∧
    canTake 1 0x12 1 [4, 0] up ∧ (streaming.lane 4).state ≠ .off ∧ (streaming.lane 4).settings.target = .port 3 ∧
    (∀ m : LaneId, m < 4 → (streaming.lane m).state = .off) ∧ canTake 1 0x12 1 [3, 3] away ∧
    (away.link 1).present = false := by
  with_reducible and_intros
  all_goals first | exact takes_up _ _ _ _ | exact takes (by decide) _ _ _ _ | decide

/-- T0 sending, with a FIFO of n codes, an owed count and a held code. -/
def pressed (n owed : Nat) : State := up.setPort 0
  ⟨.r31250, some ⟨1, .r31250⟩, List.replicate n ⟨2, true⟩, owed, if owed = 0 then none else some 3,
    if owed = 0 then none else some 4, false⟩
theorem witness_CharacterEndLeavesAndDrains : up.phase = .running ∧ (up.port 0).sending = none ∧
    ((pressed 0 0).port 0).fifo = [] ∧ ((pressed 0 0).port 0).sending.isSome ∧
    ((pressed 1 0).port 0).fifo = ⟨2, true⟩ :: [] ∧ ((pressed 1 0).port 0).owedTicks = 0 ∧
    ((pressed 14 1).port 0).fifo = ⟨2, true⟩ :: List.replicate 13 ⟨2, true⟩ ∧ ((pressed 14 1).port 0).owedTicks = 0 + 1 ∧
    ((pressed 14 1).port 0).owedTick = some 3 ∧ (List.replicate 13 (⟨2, true⟩ : FifoCode)).length ≤ 13 ∧
    ((pressed 15 1).port 0).fifo = ⟨2, true⟩ :: List.replicate 14 ⟨2, true⟩ ∧
    13 < (List.replicate 14 (⟨2, true⟩ : FifoCode)).length := by decide

/-! ### Witnesses: links and requests -/

theorem witness_PresenceSetsTheWindow : canTake 1 0x01 1 [0x07, 0xD1] up ∧ (up.link 1).present = true ∧
    canTake 1 0x01 1 [0, 99] away ∧ (away.link 1).present = false :=
  ⟨takes_up _ _ _ _, by decide, takes (by decide) _ _ _ _, by decide⟩
theorem witness_QueryReports : canTake 1 0x02 1 [3, 15, 3] up ∧ (up.link 1).present = true ∧ (15 : Byte).toNat ≤ 15 ∧
    canTake 1 0x02 1 [3, 16, 0] up ∧ 15 < (16 : Byte).toNat ∧ canTake 1 0x02 1 [10, 0, 0] up ∧ 9 < (10 : Byte).toNat ∧
    canTake 1 0x02 1 [4, 3, 0] up ∧ (3 : PortId).val = (3 : Byte).toNat ∧ canTake 1 0x02 1 [8, 0, 0] up ∧
    canTake 1 0x02 1 [0, 0, 2] up ∧ canTake 1 0x02 1 [1, 0, 0] away ∧ (away.link 1).present = false := by
  with_reducible and_intros
  all_goals first | exact takes_up _ _ _ _ | exact takes (by decide) _ _ _ _ | decide
/-- A receiver about to take the last byte of the body [0x04, 0x01] of a Yield. -/
def receiving (r : Receiver) : State := up.setLink 1 { linkUp with receiver := r }
/-- S0 departed, its departure not acted on, and the last byte of a frame of its is due. -/
def returning : State := house.setLink 0 { Link.reset with
  lapseReported := true, emptyReported := true
  receiver := .check 2 [0x04, 0x01] (some ((crc16 [2, 0x04, 0x01]).extractLsb' 8 8)) }
theorem safe_returning : Safe returning :=
  safe_link safe_house
    (by constructor <;> first | (intro n h; cases h) | decide | exact ⟨by decide, by decide, by decide⟩)
    (fun _ h => by cases h) (fun _ h => by cases h)
theorem witness_CharactersMakeFrames_returns : Safe returning ∧ (returning.link 0).present = false ∧
    (returning.link 0).heldAtSpace = false ∧ returning.phase = .running ∧
    (∃ u v, exec (.leadLapse 0) returning = .next u ∧ exec (.followerEmptied 0) u = .next v) ∧
    ∃ t, exec (.characterReceived 0 (.byte ((crc16 [2, 0x04, 0x01]).extractLsb' 0 8))) returning = .next t :=
  ⟨safe_returning, by decide, by decide, by decide, ⟨_, _, rfl, rfl⟩, (of_gives (p := fun _ => true) (by decide +kernel)).imp
    fun _ h => h.1⟩
theorem witness_CharactersMakeFrames : (receiving .hunt).phase = .running ∧
    ((receiving .length).link 1).heldAtSpace = false ∧ ((receiving .hunt).link 1).receiver = .hunt ∧
    ((receiving .length).link 1).receiver = .length ∧
    ((receiving (.body 2 [0x04])).link 1).receiver = .body 2 [0x04] ∧
    ((receiving (.check 2 [0x04, 0x01] none)).link 1).receiver = .check 2 [0x04, 0x01] none ∧
    (∃ h b : Byte, crc16 (BitVec.ofNat 8 2 :: [0x04, 0x01]) = h ++ b) ∧
    (∃ h b : Byte, crc16 (BitVec.ofNat 8 2 :: [0x04, 0x01]) ≠ h ++ b) := by
  with_reducible and_intros
  all_goals first
    | exact ⟨(crc16 [2, 0x04, 0x01]).extractLsb' 8 8, (crc16 [2, 0x04, 0x01]).extractLsb' 0 8, by decide +kernel⟩
    | exact ⟨0, 0, by decide +kernel⟩
    | decide
theorem witness_CharactersMakeFrames_held : ((up.setLink 1 { Link.reset with heldAtSpace := true }).link 1).heldAtSpace = true ∧
    (up.setLink 1 { Link.reset with heldAtSpace := true }).phase = .running := by decide
theorem witness_LinkMoments : up.phase = .running ∧
    ((receiving .length).link 1).receiver ≠ .hunt ∧ 96 ≤ ((1000000 : Frame) - 999904).toNat ∧
    192 ≤ ((1000000 : Frame) - 999808).toNat ∧ ((1000000 : Frame) - 999809).toNat < 192 ∧
    (up.link 1).present = true ∧ (up.link 1).heldAtSpace = false ∧ (away.link 1).present = false ∧
    ((up.setLink 1 { linkUp with countdown := some 1 }).link 1).countdown = some 1 ∧
    ((up.setLink 1 { linkUp with sending := some (.report []) }).link 1).sending.isSome ∧
    ((up.setLink 1 { linkUp with sending := some (.report []), txQueue := [.report [1]] }).link 1).txQueue =
      .report [1] :: [] ∧ (up.link 1).sending = none := by decide

/-- A full transmit queue of a PRESENT link that is being sent to. -/
def fullLink (q : List Message) : Link := { linkUp with sending := some (.report []), txQueue := q }
def oldHouse : HouseNotice := ⟨.granted, .unset, none, [], .stopped, 0, .internal, 4⟩
def oldBeat : BeatNotice := ⟨4, 1, 0, 0, 0, 120000, none, true, false, 254⟩
theorem witness_TransmitQueuesTakeMessages : (fullLink []).sending.isSome ∧
    (fullLink [.report [], .house oldHouse]).txQueue = [.report []] ++ .house oldHouse :: [] ∧
    ([.report []] : List Message).all (fun m => !isHouse m) = true ∧
    (fullLink (.beat oldBeat :: List.replicate 7 (.report []))).txQueue =
      [] ++ .beat oldBeat :: List.replicate 7 (.report []) ∧
    8 ≤ (fullLink (.beat oldBeat :: List.replicate 7 (.report []))).txQueue.length ∧
    (fullLink (.beat oldBeat :: List.replicate 7 (.report []))).txQueue.all (fun m => !isHouse m) = true ∧
    isNotice (.beat oldBeat) = true ∧ (fullLink (List.replicate 7 (.report []))).txQueue.length < 8 ∧
    8 ≤ (fullLink (List.replicate 8 (.report []))).txQueue.length ∧
    (fullLink (List.replicate 8 (.report []))).txQueue.all (fun m => !isNotice m) = true ∧
    (fullLink []).present = true ∧ Link.reset.present = false ∧ linkUp.sending = none ∧ linkUp.txQueue = [] := by decide
theorem witness_RotationTakesTheNextFrame : nextFrame waiting = some (1, [0x04, 9]) ∧ nextFrame up = none ∧
    (1 : Station) = waiting.rotation + Fin.ofNat 4 1 ∧ (waiting.link 0).rxQueue = [] := by decide

end Sys2Proof.Machine.Tests
end

section
/-! PROOF. The stream ports: every operation on a port keeps the bounds of R164 and R166 to R169 (PortOk). -/

namespace Sys2Proof.Machine

theorem satInc_le (limit n : Nat) : satInc limit n ≤ limit := by
  unfold satInc; split <;> omega

theorem satInc_pos {limit : Nat} (n : Nat) (h : 0 < limit) : 0 < satInc limit n := by
  unfold satInc; split <;> omega

/-- A port that owes nothing drains nothing (R169). -/
theorem portDrain_of_settled {p : Port} (ho : p.owedTick = none) (hh : p.held = none) : portDrain p = p := by
  simp [portDrain, ho, hh]

/-- A port that has just begun to send a code, before what it owes enters: it may hold one code fewer than a port under
pressure does (R169). -/
structure JustLeft (p : Port) : Prop where
  sending : p.sending.isSome
  fifo : p.fifo.length ≤ 15
  ticks : (p.fifo.filter FifoCode.tick).length ≤ 14
  owedTicks : p.owedTicks ≤ 255
  owedTick : p.owedTick.isSome ↔ 0 < p.owedTicks
  held : p.held.isSome → 0 < p.owedTicks
  pressed : 0 < p.owedTicks → 12 ≤ p.fifo.length

/-- The owed tick enters where 13 codes or fewer stand, and the held code behind the last owed tick (R169). -/
theorem JustLeft.drain {p : Port} (h : JustLeft p) : PortOk (portDrain p) := by
  obtain ⟨hs, hf, ht, ho, hot, hh, hp⟩ := h
  have hidle : p.sending ≠ none := by cases hx : p.sending <;> simp_all
  have hle := List.length_filter_le FifoCode.tick p.fifo
  cases hTick : p.owedTick with
  | none =>
    have hzero : p.owedTicks = 0 := by simpa [hTick] using hot
    have hnone : p.held = none := by cases hx : p.held <;> simp_all
    rw [portDrain_of_settled hTick hnone]
    constructor <;> simp_all [Config.fifoMax, Config.tickMax]
    omega
  | some t =>
    have hpos : 0 < p.owedTicks := by simpa [hTick] using hot
    have h12 := hp hpos
    by_cases hroom : p.fifo.length ≤ 13
    · by_cases hlast : p.owedTicks = 1
      · cases hHeld : p.held <;>
          (simp only [portDrain, hTick, hlast, hHeld, hroom, Config.tickRoom]; constructor) <;>
          simp_all [Config.fifoMax, Config.tickMax] <;> omega
      · have hmore : p.owedTicks - 1 ≠ 0 := by omega
        cases hHeld : p.held <;>
          (simp only [portDrain, hTick, hpos, hlast, hHeld, hroom, Config.tickRoom]; constructor) <;>
          simp_all [Config.fifoMax, Config.tickMax] <;> omega
    · have hstay : portDrain p = p := by
        cases hHeld : p.held <;> simp [portDrain, hTick, hHeld, hroom, Config.tickRoom, hpos.ne']
      rw [hstay]
      constructor <;> simp_all [Config.fifoMax, Config.tickMax] <;> omega

/-- A code leaves a port, and the port drains (R164, R169). -/
theorem PortOk.leave {p : Port} (h : PortOk p) : PortOk (portLeave p) := by
  obtain ⟨hf, ht, ho, hot, hh, hi, hp⟩ := h
  cases hq : p.fifo with
  | nil =>
    have hzero : p.owedTicks = 0 := by by_contra hn; have := hp (by omega); simp [hq] at this
    simp only [portLeave, hq]
    constructor <;> simp_all
  | cons c rest =>
    simp only [portLeave, hq]
    rw [hq] at hf ht hp
    have hlen : (c :: rest).length = rest.length + 1 := rfl
    have hsub := (List.sublist_cons_self c rest).filter FifoCode.tick |>.length_le
    apply JustLeft.drain
    constructor <;> simp_all [Config.fifoMax, Config.tickMax] <;> omega

/-- A code that enters a port whose transmitter is IDLE is sent at once (R164). -/
theorem portEnter_idle {c : FifoCode} {p : Port} (hs : p.sending = none) (hf : p.fifo = []) (ho : p.owedTick = none)
    (hh : p.held = none) : portEnter c p = { p with sending := some ⟨c.code, p.rate⟩ } := by
  simp [portEnter, hs, hf, portLeave, portDrain, ho, hh]

theorem PortOk.settled {p : Port} (h : PortOk p) (ho : p.owedTicks = 0) : p.owedTick = none ∧ p.held = none := by
  refine ⟨?_, ?_⟩
  · cases hx : p.owedTick <;> simp_all
    have := h.owedTick; simp_all
  · cases hx : p.held <;> simp_all
    have := h.held; simp_all

/-- A code enters a port with room for it; a tick code only where 13 codes or fewer stand (R166 to R168). -/
theorem PortOk.enter {c : FifoCode} {p : Port} (h : PortOk p) (hroom : p.fifo.length < 16)
    (htick : c.tick = true → p.fifo.length ≤ 13) : PortOk (portEnter c p) := by
  cases hs : p.sending with
  | none =>
    obtain ⟨hf, ho⟩ := h.idle hs
    obtain ⟨hot, hh⟩ := h.settled ho
    rw [portEnter_idle hs hf hot hh]
    constructor <;> simp_all
  | some x =>
    rw [portEnter_sending (by simp [hs])]
    obtain ⟨hf, ht, ho, hot, hh, hi, hp⟩ := h
    have hle := List.length_filter_le FifoCode.tick p.fifo
    constructor <;> simp_all [Config.fifoMax, Config.tickMax]
    · cases hc : c.tick <;> simp_all
      omega
    · omega

/-- R166. -/
theorem PortOk.tick {c : Byte} {p : Port} (h : PortOk p) : PortOk (portTick c p) := by
  by_cases hroom : p.fifo.length ≤ 13 ∧ p.owedTicks = 0
  · rw [portTick_enters hroom.1 hroom.2]
    exact h.enter (by omega) fun _ => hroom.1
  · rw [portTick_owed (by omega)]
    obtain ⟨hf, ht, ho, hot, hh, hi, hp⟩ := h
    have hpos := satInc_pos (limit := 255) p.owedTicks (by omega)
    have hfull : 13 ≤ p.fifo.length := by by_contra hn; exact hroom ⟨by omega, by by_contra hz; exact hn (hp (by omega))⟩
    exact ⟨hf, ht, satInc_le _ _, by simp [hpos], fun _ => hpos, fun hs => by simp [hi hs] at hfull, fun _ => hfull⟩

/-- R167. -/
theorem PortOk.transport {c : Byte} {p : Port} (h : PortOk p) : PortOk (portTransport c p) := by
  unfold portTransport
  split
  · split
    · next hroom => exact h.enter hroom nofun
    · exact { h with }
  · next ho => exact { h with held := fun _ => by simpa using Nat.pos_of_ne_zero ho }

/-- R168. -/
theorem PortOk.bar {c : Byte} {p : Port} (h : PortOk p) : PortOk (portBar c p) := by
  unfold portBar
  split
  · next hroom => exact h.enter hroom nofun
  · exact h

/-- R165. -/
theorem PortOk.emission {x : Settings} {e : Emitted} {p : Port} (h : PortOk p) :
    PortOk (streamEmission x e p) := by
  unfold streamEmission
  split
  · exact h
  · have hMark : PortOk (match e.mark with
        | none => p
        | some k => portTransport (markCode x.codes k) p) := by
      split
      · exact h
      · exact h.transport
    have hBar : ∀ q, PortOk q → PortOk (match e.barFlag, x.barCode with
        | true, some c => portBar c q
        | _, _ => q) := by
      intro q hq
      split
      · exact hq.bar
      · exact hq
    dsimp only
    split
    · exact hBar _ hMark
    · exact (hBar _ hMark).tick

/-- R174: what the port held before the Clear does not matter. -/
theorem portOk_clearPort (codes : List Byte) (p : Port) : PortOk (clearPort codes p) := by
  have hempty : PortOk { p with fifo := [], owedTicks := 0, owedTick := none, held := none } := by
    constructor <;> simp
  unfold clearPort
  generalize ({ p with fifo := [], owedTicks := 0, owedTick := none, held := none } : Port) = q at hempty
  induction codes generalizing q with
  | nil => exact hempty
  | cons c rest ih => exact ih _ hempty.transport

/-- R164. -/
theorem PortOk.charEnd {p : Port} (h : PortOk p) : PortOk (characterEnd p) := by
  unfold characterEnd
  split
  · exact h.leave
  · exact h

/-- A new rate (R171, R207). -/
theorem PortOk.withRate {p : Port} (h : PortOk p) (r : PortRate) : PortOk { p with rate := r } := { h with }

end Sys2Proof.Machine
end

section
/-! PROOF. The station links: every operation on a link keeps the bounds of chapter 9 (LinkOk). -/

namespace Sys2Proof.Machine

/-! ### The transmit queue -/

/-- What a transmit queue may hold (R186 to R189). -/
structure QueueOk (q : List Message) : Prop where
  length : q.length ≤ Config.txQueueMax
  oneHouse : (q.filter isHouse).length ≤ 1
  oneBeat : ∀ l, (q.filter fun m => (beatOf l m).isSome).length ≤ 1

theorem LinkOk.queueOk {k : Link} (h : LinkOk k) : QueueOk k.txQueue := ⟨h.txQueue, h.oneHouse, h.oneBeat⟩

theorem QueueOk.sublist {q r : List Message} (h : QueueOk q) (hs : r.Sublist q) : QueueOk r :=
  ⟨hs.length_le.trans h.length, (hs.filter _).length_le.trans h.oneHouse,
    fun l => (hs.filter _).length_le.trans (h.oneBeat l)⟩

theorem dropFirst_sublist (p : Message → Bool) (q : List Message) : (dropFirst p q).Sublist q := by
  induction q with
  | nil => exact List.Sublist.refl _
  | cons m rest ih =>
    unfold dropFirst
    split
    · exact List.sublist_cons_self _ _
    · exact ih.cons_cons _

theorem dropFirst_length {p : Message → Bool} {q : List Message} (h : q.any p = true) :
    (dropFirst p q).length + 1 = q.length := by
  induction q with
  | nil => simp at h
  | cons m rest ih =>
    unfold dropFirst
    split
    · rfl
    · next hm => simpa using ih (by simpa [hm] using h)

@[simp] theorem replaceFirst_length (p : Message → Bool) (new : Message) (q : List Message) :
    (replaceFirst p new q).length = q.length := by
  induction q with
  | nil => rfl
  | cons m rest ih => unfold replaceFirst; split <;> simp [ih]

/-- A message replaced by one that a test tells no other way leaves as many messages that pass the test. -/
theorem replaceFirst_filter_length {p t : Message → Bool} {new : Message} (q : List Message)
    (h : ∀ m, p m = true → t new = t m) : ((replaceFirst p new q).filter t).length = (q.filter t).length := by
  induction q with
  | nil => rfl
  | cons m rest ih =>
    unfold replaceFirst
    split
    · next hm => simp only [List.filter_cons, h m hm]; split <;> rfl
    · simp only [List.filter_cons]; split <;> simp [ih]

@[simp] theorem isHouse_beat (n : BeatNotice) : isHouse (.beat n) = false := rfl
@[simp] theorem isHouse_house (n : HouseNotice) : isHouse (.house n) = true := rfl
@[simp] theorem beatOf_house (l : LaneId) (n : HouseNotice) : beatOf l (.house n) = none := rfl

theorem beatOf_beat (l : LaneId) (n : BeatNotice) : (beatOf l (.beat n)).isSome = decide (n.lane = l) := by
  simp only [beatOf]; split <;> simp_all

/-- A message is of one lane at most. -/
theorem beatOf_isSome_unique {l l' : LaneId} {m : Message} (h : (beatOf l m).isSome) :
    (beatOf l' m).isSome = decide (l = l') := by
  cases m <;> simp_all [beatOf]
  split <;> simp_all

theorem isHouse_beatOf {m : Message} (h : isHouse m = true) (l : LaneId) : beatOf l m = none := by
  cases m <;> simp_all [isHouse, beatOf]

theorem beatOf_isHouse {m : Message} {l : LaneId} (h : (beatOf l m).isSome) : isHouse m = false := by
  cases m <;> simp_all [isHouse, beatOf]

/-- A message that is no House Notice and no Beat Notice of a lane already told joins the tail. -/
theorem QueueOk.append {q : List Message} {m : Message} (h : QueueOk q) (hl : q.length < Config.txQueueMax)
    (hh : isHouse m = true → q.any isHouse = false)
    (hb : ∀ l, (beatOf l m).isSome → q.any (fun x => (beatOf l x).isSome) = false) : QueueOk (q ++ [m]) := by
  constructor
  · simpa using hl
  · have := h.oneHouse
    cases hm : isHouse m with
    | false => simpa [List.filter_append, hm] using this
    | true => have := hh hm; simp_all [List.filter_append]
  · intro l
    have := h.oneBeat l
    cases hm : (beatOf l m).isSome with
    | false => simpa [List.filter_append, hm] using this
    | true => have := hb l hm; simp_all [List.filter_append]

/-! ### Messages placed (R186 to R189) -/

/-- A link whose queue alone changed, the transmitter then looked at (R186). -/
theorem LinkOk.withQueue {k : Link} {q : List Message} (h : LinkOk k) (hp : k.present = true) (hq : QueueOk q) :
    LinkOk (txStart { k with txQueue := q }) := by
  obtain ⟨hrec, hrx, hbody, -, hw, hcd, hpres, habs, hret, hidle, -, -, hcnt⟩ := h
  obtain ⟨hlen, hone, hbeat⟩ := hq
  cases hs : k.sending with
  | some m => simpa [txStart, hs] using by constructor <;> simp_all
  | none =>
    cases q with
    | nil => simpa [txStart, hs] using by constructor <;> simp_all
    | cons m rest =>
      have hr : QueueOk rest := QueueOk.sublist ⟨hlen, hone, hbeat⟩ (List.sublist_cons_self m rest)
      obtain ⟨hlen', hone', hbeat'⟩ := hr
      simpa [txStart, hs] using by constructor <;> simp_all

/-- R187. -/
theorem LinkOk.placeHouse {k : Link} (h : LinkOk k) (hp : k.present = true) (n : HouseNotice) :
    LinkOk (Machine.placeHouse n k) := by
  have hq := h.queueOk
  unfold Machine.placeHouse
  split
  · refine h.withQueue hp ⟨by simpa using hq.length, ?_, fun l => ?_⟩
    · rw [replaceFirst_filter_length _ fun m hm => by simp [hm]]; exact hq.oneHouse
    · rw [replaceFirst_filter_length _ fun m hm => by simp [isHouse_beatOf hm]]; exact hq.oneBeat l
  · next hnone =>
    have hnone : k.txQueue.any isHouse = false := by simpa using hnone
    split
    · next hroom => exact h.withQueue hp (hq.append hroom (fun _ => hnone) (by simp))
    · split
      · next hany =>
        have hlen := dropFirst_length hany
        have hsub := dropFirst_sublist isBeat k.txQueue
        refine h.withQueue hp ((hq.sublist hsub).append ?_ (fun _ => ?_) (by simp))
        · have := hq.length; omega
        · rw [List.any_eq_false] at hnone ⊢
          exact fun m hm => hnone m (hsub.subset hm)
      · exact h

/-- R188. -/
theorem LinkOk.placeBeat {k : Link} (h : LinkOk k) (hp : k.present = true) (n : BeatNotice) :
    LinkOk (Machine.placeBeat n k) := by
  have hq := h.queueOk
  unfold Machine.placeBeat
  split
  · refine h.withQueue hp ⟨by simpa using hq.length, ?_, fun l => ?_⟩
    · rw [replaceFirst_filter_length _ fun m hm => by simp [beatOf_isHouse hm]]; exact hq.oneHouse
    · rw [replaceFirst_filter_length _ fun m hm => by simp [beatOf_beat, beatOf_isSome_unique hm]]
      exact hq.oneBeat l
  · next hnone =>
    split
    · next hroom =>
      refine h.withQueue hp (hq.append hroom (by simp) fun l hl => ?_)
      obtain rfl : n.lane = l := by simpa [beatOf_beat] using hl
      rw [List.any_eq_false]
      intro m hm
      simp [List.findSome?_eq_none_iff.1 hnone m hm]
    · exact h

/-- R189. -/
theorem LinkOk.placeAnswer {k : Link} {m : Message} (h : LinkOk k) (hm : isNotice m = false) :
    LinkOk (Machine.placeAnswer m k) := by
  have hh : isHouse m = false := by simp_all [isNotice]
  have hb : ∀ l, (beatOf l m).isSome = false := by
    intro l; cases m <;> simp_all [isNotice, isBeat, beatOf]
  have hq := h.queueOk
  cases hp : k.present with
  | false => rw [placeAnswer_absent m k hp]; exact h
  | true =>
    unfold Machine.placeAnswer
    split
    · exact h
    · split
      · next hroom => exact h.withQueue hp (hq.append hroom (fun ht => by simp [hh] at ht) fun l ht => by simp [hb l] at ht)
      · split
        · next hany =>
          have hlen := dropFirst_length hany
          refine h.withQueue hp ((hq.sublist (dropFirst_sublist isNotice k.txQueue)).append ?_ (fun ht => ?_) fun l ht => ?_)
          · have := hq.length; omega
          · simp [hh] at ht
          · simp [hb l] at ht
        · exact { h with absent := by simp [hp] }

/-- R186: the message being sent ends. -/
theorem LinkOk.messageEnd {k : Link} (h : LinkOk k) : LinkOk (Machine.messageEnd k) := by
  unfold Machine.messageEnd
  split
  · next hs =>
    have hp : k.present = true := by
      by_contra hn
      have := (h.absent (by simpa using hn)).2.1
      simp [this] at hs
    have hq := h.queueOk
    obtain ⟨hrec, hrx, hbody, -, hw, hcd, hpres, habs, hret, -, -, -, hcnt⟩ := h
    cases hx : k.txQueue with
    | nil => simpa [txStart, hx] using by constructor <;> simp_all
    | cons m rest =>
      rw [hx] at hq
      obtain ⟨hlen, hone, hbeat⟩ := hq.sublist (List.sublist_cons_self m rest)
      simpa [txStart, hx] using by constructor <;> simp_all
  · exact h

/-! ### Reception (R177 to R183) -/

theorem LinkOk.framingError {k : Link} (h : LinkOk k) : LinkOk (Machine.framingError k) :=
  { h with receiver := trivial, counts := ⟨satInc_le _ _, h.counts.2⟩ }

theorem windowFrames_range {w : Nat} (hl : 100 ≤ w) (hu : w ≤ 2000) :
    1 ≤ windowFrames w ∧ windowFrames w ≤ 96000 := by
  simp only [windowFrames, Config.framesPerMs]; omega

/-- A CRC-valid frame, once a departure before it was acted on (R182, R183). -/
theorem LinkOk.frameReceived {k : Link} {body : List Byte} (h : LinkOk k) (hl : k.lapseReported = false)
    (he : k.emptyReported = false) (hb : 2 ≤ body.length ∧ body.length ≤ 40) : LinkOk (Machine.frameReceived body k) := by
  have hw := windowFrames_range h.window.1 h.window.2
  unfold Machine.frameReceived
  split
  · next hroom =>
    exact { h with
      rxQueue := by simpa using hroom
      bodies := fun b ht => (List.mem_append.1 ht).elim (h.bodies b) fun e => List.mem_singleton.1 e ▸ hb
      countdown := by simpa using hw
      presence := rfl
      absent := by simp
      returned := fun _ => ⟨hl, he⟩ }
  · exact { h with
      countdown := by simpa using hw
      presence := rfl
      absent := by simp
      returned := fun _ => ⟨hl, he⟩
      counts := ⟨h.counts.1, h.counts.2.1, h.counts.2.2.1, satInc_le _ _⟩ }

/-- A byte taken (R178, R179): a frame is received only where no departure waits to be acted on. -/
theorem LinkOk.byteTaken {k : Link} {b : Byte} (h : LinkOk k)
    (hs : (Machine.byteTaken b k).2 = true → k.lapseReported = false ∧ k.emptyReported = false) :
    LinkOk (Machine.byteTaken b k).1 := by
  have hr := h.receiver
  unfold Machine.byteTaken at hs ⊢
  split
  · split
    · exact { h with receiver := trivial }
    · exact h
  · split
    · next hl => exact { h with receiver := ⟨hl.1, hl.2, by simp; omega⟩ }
    · exact h.framingError
  · next len bytes hk =>
    obtain ⟨hl, hu, hlen⟩ : 2 ≤ len ∧ len ≤ 40 ∧ bytes.length < len := by simpa [ReceiverOk, hk] using hr
    dsimp only
    split
    · next hmore => exact { h with receiver := ⟨hl, hu, hmore⟩ }
    · next hdone =>
      refine { h with receiver := ⟨hl, hu, ?_⟩ }
      simp only [List.length_append, List.length_singleton] at hdone ⊢
      omega
  · next len bytes hk =>
    exact { h with receiver := by simpa [ReceiverOk, hk] using hr }
  · next len bytes high hk =>
    obtain ⟨hl, hu, hlen⟩ : 2 ≤ len ∧ len ≤ 40 ∧ bytes.length = len := by simpa [ReceiverOk, hk] using hr
    have hhunt : LinkOk { k with receiver := .hunt } := { h with receiver := trivial }
    simp only [hk] at hs
    dsimp only
    split
    · next hcrc =>
      obtain ⟨hla, hem⟩ := hs (by rw [if_pos hcrc])
      exact hhunt.frameReceived hla hem (by omega)
    · exact { hhunt with counts := ⟨h.counts.1, satInc_le _ _, h.counts.2.2⟩ }

/-- Whether a byte ends a frame is the receiver's and no other item's. -/
theorem byteTaken_frame_congr {k k' : Link} (b : Byte) (h : k'.receiver = k.receiver) :
    (byteTaken b k').2 = (byteTaken b k).2 := by
  simp only [byteTaken, h]
  split <;> first | rfl | (split <;> rfl)

/-- R180. -/
theorem LinkOk.gapTest {k : Link} (h : LinkOk k) (count : Frame) : LinkOk (Machine.gapTest count k) := by
  unfold Machine.gapTest
  split
  · exact { h with receiver := trivial, counts := ⟨h.counts.1, h.counts.2.1, satInc_le _ _, h.counts.2.2.2⟩ }
  · exact h

@[simp] theorem gapTest_present (count : Frame) (k : Link) : (gapTest count k).present = k.present := by
  unfold gapTest; split <;> rfl
@[simp] theorem gapTest_lapseReported (count : Frame) (k : Link) : (gapTest count k).lapseReported = k.lapseReported := by
  unfold gapTest; split <;> rfl
@[simp] theorem gapTest_emptyReported (count : Frame) (k : Link) : (gapTest count k).emptyReported = k.emptyReported := by
  unfold gapTest; split <;> rfl
@[simp] theorem gapTest_countdown (count : Frame) (k : Link) : (gapTest count k).countdown = k.countdown := by
  unfold gapTest; split <;> rfl

/-- R183. -/
theorem LinkOk.countDown {k : Link} (h : LinkOk k) : LinkOk (Machine.countDown k) := by
  unfold Machine.countDown
  split
  · next n hn =>
    split
    · next hlate =>
      have := h.countdown n hn
      exact { h with countdown := by simp; omega, presence := by simpa [hn] using h.presence }
    · exact h
  · exact h

@[simp] theorem countDown_present (k : Link) : (countDown k).present = k.present := by
  unfold countDown; split
  · split <;> rfl
  · rfl
@[simp] theorem countDown_lapseReported (k : Link) : (countDown k).lapseReported = k.lapseReported := by
  unfold countDown; split
  · split <;> rfl
  · rfl
@[simp] theorem countDown_emptyReported (k : Link) : (countDown k).emptyReported = k.emptyReported := by
  unfold countDown; split
  · split <;> rfl
  · rfl

/-- R181: the line returns to mark. -/
theorem LinkOk.lineAtMark {k : Link} (h : LinkOk k) : LinkOk (Machine.lineAtMark k) := by
  unfold Machine.lineAtMark
  split
  · exact { h with receiver := trivial }
  · exact h

/-- R184: a link that departs. -/
def departed (k : Link) : Link :=
  { k with
    present := false, countdown := none, windowMs := Config.windowDefault, txQueue := [], sending := none
    answerLost := false, lapseReported := true, emptyReported := true }

theorem LinkOk.departed {k : Link} (h : LinkOk k) : LinkOk (Machine.departed k) := by
  obtain ⟨hrec, hrx, hbody, -, -, -, -, -, -, -, -, -, hcnt⟩ := h
  exact ⟨hrec, hrx, hbody, by simp [Machine.departed], by simp [Machine.departed, Config.windowDefault],
    by simp [Machine.departed], rfl, by simp [Machine.departed], by simp [Machine.departed], by simp [Machine.departed],
    by simp [Machine.departed], by simp [Machine.departed], hcnt⟩

theorem departLink_eq (st : Station) (s : State) :
    departLink st s = { s.setLink st (departed (s.link st)) with store := storeDeparture st s.store } := rfl

theorem linkOk_reset : LinkOk Link.reset := by
  constructor <;> simp [Link.reset, ReceiverOk, Config.rxQueueMax, Config.txQueueMax, Config.windowDefault]

end Sys2Proof.Machine
end

section
/-! PROOF. The Frame Reference Unit and the Mark Follower: what each operation on the reference items and on a follower
record keeps (R33 to R38, R47 to R50), and the range of an estimate (R49). -/

namespace Sys2Proof.Machine

/-! ### The reference items (R33 to R38) -/

/-- The agreements of FruOk that hold in every phase. -/
structure FruFits (f : Fru) : Prop where
  divisor : f.divisor = 1 ∨ f.divisor = 2
  nextDivisor : f.nextDivisor = 1 ∨ f.nextDivisor = 2
  oneDivisor : f.state ≠ .external → f.nextDivisor = f.divisor
  run : f.run ≤ Config.qualifyRun
  runZero : f.state = .internal ∨ f.state = .external ∨ f.switch = .toInternal → f.run = 0
  full : f.switch = .toExternal ↔ f.run = Config.qualifyRun
  idle : f.state = .internal → f.switch = .none
  requestedInternal : f.state = .internal → f.requested = .internal
  requested : isQualifying f.state = true → (f.switch = .toInternal ↔ f.requested = .internal)

theorem FruOk.fits {s : State} (h : FruOk s) : FruFits s.fru :=
  ⟨h.divisor, h.nextDivisor, h.oneDivisor, h.run, h.runZero, h.full, h.idle, h.requestedInternal, h.requested⟩

/-- Once frames have begun, the agreements of every phase are all there is. -/
theorem FruFits.ok {s : State} (h : FruFits s.fru) (hp : s.phase = .running) : FruOk s :=
  ⟨h.divisor, h.nextDivisor, h.oneDivisor, h.run, h.runZero, h.full, h.idle, h.requestedInternal, h.requested,
    fun hn => absurd hp hn⟩

theorem FruOk.of_eq {s t : State} (h : FruOk s) (hf : t.fru = s.fru) (hp : t.phase = s.phase) : FruOk t := by
  obtain ⟨h1, h2, h3, h4, h5, h6, h7, h8, h9, h10⟩ := h
  constructor <;> rw [hf] <;> first | assumption | rwa [hp]

theorem FruFits.withCount {f : Fru} (h : FruFits f) (n : Frame) : FruFits { f with count := n } := { h with }

/-- The items that say where WCK stands take part in no agreement. -/
theorem FruFits.withPlace {f : Fru} (h : FruFits f) (b : Bool) (p : WckPlace) :
    FruFits { f with periodOpen := b, place := p } := { h with }

/-- R35: WCK fails in EXTERNAL. -/
theorem FruFits.fallback {f : Fru} (h : FruFits f) :
    FruFits { f with
      state := if f.requested = .internal then .internal else .fallback
      run := 0, switch := .none, divisor := f.nextDivisor, periodOpen := false } := by
  have hn := h.nextDivisor
  constructor <;> simp [hn, Config.qualifyRun, isQualifying]
  all_goals cases f.requested <;> simp

/-- R34: the switch to external. -/
theorem FruFits.switchExternal {f : Fru} (h : FruFits f) :
    FruFits { f with state := .external, run := 0, switch := .none, place := .awaitFirst } := by
  have hd := h.divisor
  have hn := h.nextDivisor
  constructor <;> simp [hd, hn, Config.qualifyRun, isQualifying]

/-- R36: the switch to internal. -/
theorem FruFits.switchInternal {f : Fru} (h : FruFits f) (hs : f.switch = .toInternal) :
    FruFits { f with
      state := if f.state = .external ∧ f.requested = .external then .qualifying else .internal
      run := 0, switch := .none, divisor := f.nextDivisor, periodOpen := false } := by
  have hn := h.nextDivisor
  have hreq := h.requested
  have hidle := h.idle
  constructor <;> simp [hn, Config.qualifyRun]
  · cases hst : f.state <;> cases hr : f.requested <;> simp_all [isQualifying]
  · cases hst : f.state <;> cases hr : f.requested <;> simp_all [isQualifying]

/-- R33: a rising edge while qualifying. -/
theorem FruFits.qualifyEdge {f : Fru} (h : FruFits f) (hs : isQualifying f.state = true) (w : WckPeriod) :
    FruFits (qualifyEdge w f) := by
  obtain ⟨hd, hn, hone, hrun, hzero, hfull, hidle, hreqi, hreq⟩ := h
  have hni : f.state ≠ .internal := by intro e; simp [e, isQualifying] at hs
  have hne : f.state ≠ .external := by intro e; simp [e, isQualifying] at hs
  have hstay : FruFits f := ⟨hd, hn, hone, hrun, hzero, hfull, hidle, hreqi, hreq⟩
  unfold Machine.qualifyEdge
  split
  · exact hstay
  · next hto =>
    have hto : f.switch ≠ .toInternal := fun e => hto e
    split
    · exact { hstay with }
    · split
      · by_cases hlast : f.run + 1 < Config.qualifyRun
        · have hlt : f.run < Config.qualifyRun := by omega
          have hns : f.switch ≠ .toExternal := by rw [Ne, hfull]; omega
          have hnr : f.run + 1 ≠ Config.qualifyRun := by omega
          simp only [hlt, if_true, hnr, if_false]
          constructor <;> simp_all
        · have hfin : (if f.run < Config.qualifyRun then f.run + 1 else Config.qualifyRun) = Config.qualifyRun := by
            split <;> omega
          simp only [hfin, if_true]
          constructor <;> simp_all
      · constructor <;> simp_all [Config.qualifyRun]

/-- R33: silence while qualifying, with no switch to external waiting. -/
theorem FruFits.silence {f : Fru} (h : FruFits f) (hs : f.switch ≠ .toExternal) :
    FruFits { f with run := 0, periodOpen := false } := by
  obtain ⟨hd, hn, hone, hrun, hzero, hfull, hidle, hreqi, hreq⟩ := h
  constructor <;> simp_all [Config.qualifyRun]

/-! ### Follower records (R47 to R50) -/

theorem followerOk_empty : FollowerOk Follower.empty := by
  constructor <;> simp [Follower.empty, estimateOf, Config.historyMax]

theorem FollowerOk.withoutPhaseError {x : Follower} (h : FollowerOk x) : FollowerOk { x with phaseError := none } :=
  { h with phaseError := by simp }

theorem phaseError_range (p : Pos) : -2147483648 ≤ phaseError p ∧ phaseError p ≤ 2147483647 := by
  have := p.frac.isLt
  unfold phaseError
  simp only [Config.beatU]
  split <;> omega

theorem FollowerOk.withPhaseError {x : Follower} (h : FollowerOk x) (p : Pos) :
    FollowerOk { x with phaseError := some (Machine.phaseError p) } :=
  { h with phaseError := by rintro e ⟨⟩; exact phaseError_range p }

/-- A new stamp and history (R49). -/
theorem FollowerOk.stamped {x : Follower} (h : FollowerOk x) {stamp : Frame} {run : Nat} {l : List Nat}
    (hr : run ≤ 65535) (hl : l.length ≤ Config.historyMax)
    (hi : ∀ i ∈ l, Config.intervalMin ≤ i ∧ i ≤ Config.intervalMax) : FollowerOk (stamped stamp run l x) :=
  ⟨hr, hl, hi, rfl, nofun, h.phaseError⟩

/-- An interval that is tested OUTLIER or ACCEPTED lies in the range of R48. -/
theorem markInterval_range {stamp : Frame} {x : Follower}
    (h : markOutcome stamp x = .outlier ∨ markOutcome stamp x = .accepted) :
    Config.intervalMin ≤ markInterval stamp x ∧ markInterval stamp x ≤ Config.intervalMax := by
  unfold markOutcome markInterval at *
  split at h
  · simp at h
  · dsimp only at h ⊢
    repeat' split at h
    all_goals first | omega | simp at h

/-- R48: the record after a mark of the outcome of its own test. -/
theorem FollowerOk.followerAfter {x : Follower} (h : FollowerOk x) (stamp : Frame) :
    FollowerOk (followerAfter (markOutcome stamp x) stamp x) := by
  have hrange := markInterval_range (stamp := stamp) (x := x)
  cases ho : markOutcome stamp x with
  | first => exact h.stamped (by omega) (by simp) (by simp)
  | restart => exact h.stamped (by omega) (by simp) (by simp)
  | outlier => exact h.stamped (satInc_le _ _) (by simp [Config.historyMax]) (by simpa using hrange (.inl ho))
  | accepted =>
    refine h.stamped (satInc_le _ _) (by simp) fun i hi => ?_
    rcases List.mem_cons.1 (List.mem_of_mem_take hi) with rfl | hi
    · exact hrange (.inr ho)
    · exact h.intervals i hi
  | bounce => exact h
  | ignored => exact h
  | outOfOrder => exact h
  | bar => exact h

/-- R50. -/
theorem FollowerOk.followerExpire {x : Follower} (h : FollowerOk x) (count : Frame) :
    FollowerOk (followerExpire count x) := by
  unfold Machine.followerExpire
  split
  · split
    · exact followerOk_empty
    · exact h
  · exact h

@[simp] theorem followerExpire_empty (count : Frame) : followerExpire count Follower.empty = Follower.empty := rfl

/-! ### Estimates (R49) -/

theorem roundNat_le {n d u : Nat} (hd : 0 < d) (h : n ≤ u * d) : roundNat n d ≤ u := by
  unfold roundNat
  rw [Nat.div_le_iff_le_mul_add_pred (by omega)]
  have : 2 * d * u = 2 * (u * d) := by ring
  omega

theorem le_roundNat {n d l : Nat} (hd : 0 < d) (h : l * d ≤ n) : l ≤ roundNat n d := by
  unfold roundNat
  rw [Nat.le_div_iff_mul_le (by omega)]
  nlinarith

/-- The sum of a list lies between its length times its bounds. -/
theorem sum_bounds {l : List Nat} {a b : Nat} (h : ∀ i ∈ l, a ≤ i ∧ i ≤ b) :
    a * l.length ≤ l.sum ∧ l.sum ≤ b * l.length :=
  ⟨by simpa [mul_comm] using l.card_nsmul_le_sum a fun i hi => (h i hi).1,
    by simpa [mul_comm] using l.sum_le_card_nsmul b fun i hi => (h i hi).2⟩

/-- R49: the mean of legal intervals is the period of a legal tempo. -/
theorem FollowerOk.estimate_range {x : Follower} (h : FollowerOk x) {v : Nat} (hv : x.estimate = some v) : TempoOk v := by
  rw [h.estimate] at hv
  unfold estimateOf at hv
  split at hv
  · next hlen =>
    obtain rfl : _ = v := by simpa using hv
    obtain ⟨hl, hu⟩ := sum_bounds h.intervals
    simp only [Config.intervalMin, Config.intervalMax] at hl hu
    have hpos : 0 < x.history.sum := by omega
    constructor
    · exact le_roundNat hpos (by simp only [Config.tempoMin, Config.tempoScale]; omega)
    · exact roundNat_le hpos (by simp only [Config.tempoMax, Config.tempoScale]; omega)
  · simp at hv

end Sys2Proof.Machine
end

section
/-! PROOF. The Grid Engine's own operations: the increments in their ranges (R4, R5), positions advanced by them (R3, R6),
and what each operation on the grid keeps (GridOk). -/

namespace Sys2Proof.Machine

/-! ### Increments (R4, R5) -/

theorem baseIncrement_le {v : Nat} (h : v ≤ 300000) : baseIncrement v ≤ 447393 :=
  roundNat_le (by decide) (by simp only [Config.beatU, Config.tempoScale]; omega)

theorem clampNat_range {lo hi : Nat} (n : Nat) (h : lo ≤ hi) : lo ≤ clampNat lo hi n ∧ clampNat lo hi n ≤ hi := by
  unfold clampNat; split <;> (try split) <;> omega

theorem clampNat_eq {lo hi : Nat} (n : Nat) (h : lo ≤ hi) : clampNat lo hi n = min hi (max lo n) := by
  unfold clampNat; split <;> (try split) <;> omega

theorem clampInt_range {lo hi : Int} (n : Int) (h : lo ≤ hi) : lo ≤ clampInt lo hi n ∧ clampInt lo hi n ≤ hi := by
  unfold clampInt; split <;> (try split) <;> omega

theorem clampInt_eq {lo hi : Int} (n : Int) (h : lo ≤ hi) : clampInt lo hi n = min hi (max lo n) := by
  unfold clampInt; split <;> (try split) <;> omega

/-- R5: the applied increment lies within a sixteenth of the base increment. -/
theorem appliedIncrement_le (b : Nat) (t : Trim) : appliedIncrement b t ≤ b + b / 16 := by
  unfold appliedIncrement
  split
  · omega
  · next p _ =>
    have := (clampInt_range (lo := ((b - b / 16 : Nat) : Int)) (hi := ((b + b / 16 : Nat) : Int)) ((b : Int) - p)
      (by omega)).2
    omega

theorem appliedIncrement_of_none {b : Nat} {t : Trim} (h : appliedPart t = none) : appliedIncrement b t = b := by
  simp [appliedIncrement, h]

/-- The applied part alone counts. -/
theorem appliedIncrement_congr {b : Nat} {t t' : Trim} (h : appliedPart t = appliedPart t') :
    appliedIncrement b t = appliedIncrement b t' := by
  simp only [appliedIncrement, h]

@[simp] theorem appliedPart_trimArmed (d : Int) (t : Trim) : appliedPart (trimArmed d t) = appliedPart t := by
  cases t <;> rfl

theorem TempoOk.increment_le {v : Nat} (h : TempoOk v) (t : Trim) : appliedIncrement (baseIncrement v) t ≤ 500000 := by
  have := baseIncrement_le h.2
  have := appliedIncrement_le (baseIncrement v) t
  omega

theorem GridOk.appliedInc_le {g : Grid} (h : GridOk g) (hs : g.state ≠ .unset) : g.appliedInc ≤ 500000 := by
  rw [h.appliedInc, h.baseInc]; exact (h.tempo hs).increment_le g.trim

/-! ### Positions (R3, R6) -/

theorem Pos.add_frac (p : Pos) (n : Nat) : (p.add n).frac = p.frac + BitVec.ofNat 32 n := by
  apply BitVec.eq_of_toNat_eq
  simp only [Pos.add, Pos.ofU, Pos.toU, Config.beatU, BitVec.toNat_ofNat, BitVec.toNat_add]
  omega

theorem Pos.add_beat_same {p : Pos} {n : Nat} (h : p.frac.toNat + n < 4294967296) : (p.add n).beat = p.beat := by
  apply BitVec.eq_of_toNat_eq
  have := p.beat.isLt
  simp only [Pos.add, Pos.ofU, Pos.toU, Config.beatU, BitVec.toNat_ofNat]
  omega

theorem Pos.add_beat_next {p : Pos} {n : Nat} (h : 4294967296 ≤ p.frac.toNat + n) (hn : n < 4294967296) :
    (p.add n).beat = p.beat + 1 := by
  apply BitVec.eq_of_toNat_eq
  have := p.beat.isLt
  have := p.frac.isLt
  have hone : (1 : Beat).toNat = 1 := rfl
  simp only [Pos.add, Pos.ofU, Pos.toU, Config.beatU, BitVec.toNat_ofNat, BitVec.toNat_add]
  omega

/-- R6: within a beat. -/
theorem Pos.add_within {p : Pos} {n : Nat} (h : p.frac.toNat + n < 4294967296) :
    p.add n = ⟨p.beat, p.frac + BitVec.ofNat 32 n⟩ := by
  rw [← Pos.add_beat_same h, ← Pos.add_frac]

/-- R6: into the next beat. -/
theorem Pos.add_across {p : Pos} {n : Nat} (h : 4294967296 ≤ p.frac.toNat + n) (hn : n < 4294967296) :
    p.add n = ⟨p.beat + 1, p.frac + BitVec.ofNat 32 n⟩ := by
  rw [← Pos.add_beat_next h hn, ← Pos.add_frac]

/-! ### Tempo changes and glides (R15, R16) -/

theorem roundInt_natAbs_le {n : Int} {d u : Nat} (hd : 0 < d) (h : n.natAbs ≤ u * d) : (roundInt n d).natAbs ≤ u := by
  unfold roundInt
  split
  · have := roundNat_le hd (n := n.toNat) (u := u) (by omega); omega
  · have := roundNat_le hd (n := (-n).toNat) (u := u) (by omega); omega

theorem roundInt_nonneg {n : Int} {d : Nat} (h : 0 ≤ n) : 0 ≤ roundInt n d := by
  unfold roundInt; split <;> omega

theorem roundInt_nonpos {n : Int} {d : Nat} (h : n ≤ 0) : roundInt n d ≤ 0 := by
  unfold roundInt
  split
  · obtain rfl : n = 0 := by omega
    have : d / (2 * d) = 0 := by
      rcases Nat.eq_zero_or_pos d with rfl | hd
      · rfl
      · exact Nat.div_eq_of_lt (by omega)
    simp [roundNat, this]
  · omega

/-- R15: a glide stays between its ends. -/
theorem glideTempo_between {x : Glide} {i : Nat} (hi : i ≤ x.length) (hl : 1 ≤ x.length) :
    min x.start x.target ≤ glideTempo x i ∧ glideTempo x i ≤ max x.start x.target := by
  have hbound : (roundInt (((x.target : Int) - x.start) * i) x.length).natAbs ≤ ((x.target : Int) - x.start).natAbs := by
    apply roundInt_natAbs_le (by omega)
    rw [Int.natAbs_mul, Int.natAbs_natCast]
    exact Nat.mul_le_mul_left _ hi
  unfold glideTempo
  rcases le_total (x.start : Int) x.target with h | h
  · have := roundInt_nonneg (n := ((x.target : Int) - x.start) * i) (d := x.length)
      (mul_nonneg (by omega) (by omega))
    omega
  · have := roundInt_nonpos (n := ((x.target : Int) - x.start) * i) (d := x.length)
      (mul_nonpos_of_nonpos_of_nonneg (by omega) (by omega))
    omega

/-- A started grid whose tempo alone changes: base tempo, increments and glide. -/
theorem GridOk.withTempo {g : Grid} (h : GridOk g) (hs : g.state ≠ .unset) {v : Nat} (hv : TempoOk v) (o : Option Glide)
    (ho : ∀ x, o = some x → TempoOk x.start ∧ TempoOk x.target ∧ 1 ≤ x.length ∧ x.length ≤ 32 ∧ x.steps < x.length)
    (hh : g.state = .holdover → o = none) : GridOk (setBase v { g with glide := o }) :=
  { meter := h.meter, pendingMeter := h.pendingMeter, beatInBar := h.beatInBar, numbering := h.numbering, baseInc := rfl
    appliedInc := rfl, unset := fun e => absurd e hs, tempo := fun _ => hv, glide := ho
    holdover := fun e => ⟨hh e, (h.holdover e).2⟩, before := h.before }

theorem GridOk.tempoChange {g : Grid} (h : GridOk g) (hs : g.state = .running) {v m : Nat} (hv : TempoOk v)
    (hm : m ≤ 32) : GridOk (tempoChange v m g) := by
  have hne : g.state ≠ .unset := by simp [hs]
  unfold Machine.tempoChange
  split
  · exact h.withTempo hne hv none nofun fun _ => rfl
  · next hn =>
    refine { h with unset := fun e => absurd e hne, glide := ?_, holdover := fun e => by simp [hs] at e }
    rintro x ⟨⟩
    exact ⟨h.tempo hne, hv, by dsimp only; omega, hm, by dsimp only; omega⟩

theorem GridOk.glideStep {g : Grid} (h : GridOk g) (hs : g.state ≠ .unset) : GridOk (glideStep g) := by
  unfold Machine.glideStep
  split
  · exact h
  · next x hx =>
    obtain ⟨hS, hT, h1, h32, hlt⟩ := h.glide x hx
    have hr : g.state ≠ .holdover := fun e => by simp [(h.holdover e).1] at hx
    dsimp only
    split
    · exact h.withTempo hs hT none nofun fun _ => rfl
    · next hmore =>
      have hb := glideTempo_between (x := x) (i := x.steps + 1) (by omega) h1
      refine h.withTempo hs ⟨?_, ?_⟩ _ ?_ fun e => absurd e hr
      · have := hS.1; have := hT.1; omega
      · have := hS.2; have := hT.2; omega
      · rintro y ⟨⟩
        exact ⟨hS, hT, h1, h32, by simp only; omega⟩

/-! ### Trims (R19, R20, R22) -/

theorem GridOk.armTrim {g : Grid} (h : GridOk g) (hs : g.state = .running) (e : Int) (gain : Nat) :
    GridOk (armTrim e gain g) :=
  { h with
    appliedInc := by rw [Machine.armTrim, appliedIncrement_congr (appliedPart_trimArmed _ _)]; exact h.appliedInc
    unset := fun hu => by simp [Machine.armTrim, hs] at hu
    holdover := fun hh => by simp [Machine.armTrim, hs] at hh }

theorem GridOk.advanceTrim {g : Grid} (h : GridOk g) (hs : g.state ≠ .unset) :
    GridOk (recompute { g with trim := trimAdvanced g.trim }) :=
  { h with
    appliedInc := rfl
    unset := fun e => absurd e hs
    holdover := fun e => ⟨(h.holdover e).1, by simp [recompute, (h.holdover e).2, trimAdvanced]⟩ }

/-- The items of an UNSET grid (R1). -/
theorem GridOk.unset_items {g : Grid} (h : GridOk g) (hs : g.state = .unset) :
    g.pos = ⟨0, 0⟩ ∧ g.base = 0 ∧ g.baseInc = 0 ∧ g.appliedInc = 0 ∧ g.glide = none ∧ g.trim = .none ∧
      g.pendingMeter = none ∧ g.barStart = 0 ∧ g.beatInBar = 0 ∧ g.barCount = 0 ∧ g.crossing = .none ∧ g.before = none := by
  rw [h.unset hs]; simp [Grid.reset]

/-- R22: the trim removed, and the crossing forgotten where a change of holder asks for it (log entry 17). -/
theorem GridOk.removeTrim {g : Grid} (h : GridOk g) : GridOk { removeTrim g with crossing := .none } :=
  { h with
    appliedInc := rfl
    unset := fun e => by
      have hu := h.unset e
      obtain ⟨-, -, hb, ha, -⟩ := h.unset_items e
      rw [hu]; rfl
    holdover := fun e => ⟨(h.holdover e).1, rfl⟩ }

theorem GridOk.forgetCrossing {g : Grid} (h : GridOk g) : GridOk { g with crossing := .none } :=
  { h with unset := fun e => by rw [h.unset e]; rfl }

/-- R2: HOLDOVER. -/
theorem GridOk.enterHoldover {g : Grid} (h : GridOk g) (hs : g.state ≠ .unset) : GridOk (enterHoldover g) :=
  { h with appliedInc := rfl, unset := nofun, tempo := fun _ => h.tempo hs, glide := nofun, holdover := fun _ => ⟨rfl, rfl⟩ }

/-- From HOLDOVER or RUNNING to RUNNING (R77). -/
theorem GridOk.run {g : Grid} (h : GridOk g) (hs : g.state ≠ .unset) : GridOk { g with state := .running } :=
  { h with unset := nofun, tempo := fun _ => h.tempo hs, holdover := nofun }

/-! ### Positions and numbering (R6, R12, R14) -/

theorem GridOk.within {g : Grid} (h : GridOk g) (hs : g.state ≠ .unset)
    (hw : g.pos.frac.toNat + g.appliedInc < 4294967296) :
    GridOk { g with pos := g.pos.add g.appliedInc, crossing := .none, before := some g.pos } := by
  have hb := Pos.add_beat_same hw
  exact { h with
    numbering := by simpa only [hb] using h.numbering
    unset := fun e => absurd e hs
    before := by rintro p ⟨⟩; exact hb.symm }

/-- The position in the next beat, and the beat numbered (R12). -/
theorem GridOk.across {g : Grid} (h : GridOk g) (hs : g.state ≠ .unset) {p : Pos} (hp : p.beat = g.pos.beat + 1) :
    GridOk (numberBeat { g with pos := p, before := none }) := by
  have hlt := h.beatInBar
  unfold numberBeat crossesBar
  split
  · have hm : MeterOk (g.pendingMeter.getD g.meter) := by
      cases hpm : g.pendingMeter with
      | none => exact h.meter
      | some m => exact h.pendingMeter m hpm
    exact { h with
      meter := hm
      pendingMeter := nofun
      beatInBar := hm.1
      numbering := .inl (by simp)
      unset := fun e => absurd e hs
      before := nofun }
  · next hbar =>
    have hbar : g.beatInBar + 1 ≠ g.meter := by simpa using hbar
    refine { h with
      beatInBar := by simp only; omega
      numbering := .inl ?_
      unset := fun e => absurd e hs
      before := nofun }
    rcases h.numbering with hn | ⟨-, hn⟩
    · simp only [hp, ← hn]
      rw [BitVec.ofNat_add, ← BitVec.add_assoc]; rfl
    · exact absurd hn hbar

theorem GridOk.downbeat {g : Grid} (h : GridOk g) (hs : g.state = .running) (e : Int) (p : Beat) :
    GridOk (downbeat e p g) := by
  have hm := h.meter.1
  unfold Machine.downbeat
  generalize (if 0 ≤ e then p else p + 1) = m
  dsimp only
  split
  · next hahead =>
    exact { h with
      beatInBar := by simp only; omega
      numbering := .inr ⟨hahead, by simp only; omega⟩
      unset := fun hu => by simp [hs] at hu }
  · exact { h with
      beatInBar := Nat.mod_lt _ (by omega)
      numbering := .inl (by simp)
      unset := fun hu => by simp [hs] at hu }

/-! ### Start and clear (R8 to R10, R27) -/

theorem GridOk.started {g : Grid} (h : GridOk g) {t e : Nat} (ht : TempoOk t) (he : e ≤ 4800) :
    GridOk (startedGrid t e g) := by
  have hb := baseIncrement_le ht.2
  have hlag := Nat.mul_le_mul he hb
  have hbeat : ((Pos.beatStart 0).add (e * baseIncrement t)).beat = 0 :=
    Pos.add_beat_same (p := Pos.beatStart 0) (by simp only [Pos.beatStart]; simpa using by omega)
  exact {
    meter := h.meter, pendingMeter := h.pendingMeter, beatInBar := h.meter.1
    numbering := .inl (by simpa [startedGrid] using hbeat.symm)
    baseInc := rfl, appliedInc := rfl, unset := nofun, tempo := fun _ => ht, glide := nofun, holdover := nofun, before := nofun }

theorem gridOk_clear {m : Nat} (h : MeterOk m) : GridOk { Grid.reset with meter := m } := by
  have := h.1
  constructor <;> simp [Grid.reset, h, baseIncrement, roundNat, appliedIncrement, appliedPart, Config.tempoScale]
  omega

theorem GridOk.withMeter {g : Grid} (h : GridOk g) (hs : g.state = .unset) {m : Nat} (hm : MeterOk m) :
    GridOk { g with meter := m, pendingMeter := none } := by
  rw [h.unset hs]; exact gridOk_clear hm

theorem GridOk.withPendingMeter {g : Grid} (h : GridOk g) (hs : g.state ≠ .unset) {m : Nat} (hm : MeterOk m) :
    GridOk { g with pendingMeter := some m } :=
  { h with pendingMeter := by rintro n ⟨⟩; exact hm, unset := fun e => absurd e hs }

end Sys2Proof.Machine
end

section
/-! PROOF. Edits of a safe state: what each block of Safe speaks of, and one lemma for each part of the state that a
command may write, with what the written values must meet. -/

namespace Sys2Proof.Machine

/-! ### What each block speaks of -/

theorem FollowersOk.of_eq {s t : State} (h : FollowersOk s) (hf : ∀ i, t.follower i = s.follower i)
    (hl : ∀ i, (t.link i).present = false → (t.link i).emptyReported = false →
      (s.link i).present = false ∧ (s.link i).emptyReported = false) : FollowersOk t :=
  ⟨fun i => hf i ▸ h.follower i, fun i hp he => by
    obtain ⟨hp', he'⟩ := hl i hp he
    rw [hf]; exact h.absent i hp' he'⟩

theorem HouseOk.of_eq {s t : State} (h : HouseOk s) (hg : t.grid = s.grid) (hx : t.lead = s.lead) (hy : t.tc = s.tc)
    (hp : t.phase = .running ∨ t.phase = s.phase)
    (hl : ∀ i, (t.link i).present = false → (t.link i).lapseReported = false →
      (s.link i).present = false ∧ (s.link i).lapseReported = false) : HouseOk t where
  grid := hg ▸ h.grid
  lead := hx ▸ h.lead
  transport := hy ▸ h.transport
  running := by rw [hg, hx]; exact h.running
  holdover := by rw [hg, hx]; exact h.holdover
  unset := by rw [hg, hy]; exact h.unset
  before := fun hn => by
    rw [hg]
    rcases hp with hp | hp
    · exact absurd hp hn
    · exact h.before (hp ▸ hn)
  absent := fun i h1 h2 e he => by
    obtain ⟨h1', h2'⟩ := hl i h1 h2
    rw [hx] at he
    exact h.absent i h1' h2' e he

theorem LanesOk.of_eq {s t : State} (h : LanesOk s) (hl : ∀ l, t.lane l = s.lane l) : LanesOk t :=
  ⟨fun l => hl l ▸ h.lane l⟩

theorem PortsOk.of_eq {s t : State} (h : PortsOk s) (hp : ∀ p, t.port p = s.port p) : PortsOk t :=
  ⟨fun p => hp p ▸ h.port p⟩

theorem LinksOk.of_eq {s t : State} (h : LinksOk s) (hk : ∀ i, t.link i = s.link i) : LinksOk t :=
  ⟨fun i => hk i ▸ h.link i⟩

theorem StoreOk.of_eq {s t : State} (h : StoreOk s) (hs : t.store = s.store)
    (hi : ∀ i, (t.input i).setting = (s.input i).setting) : StoreOk t where
  saving := hs ▸ h.saving
  valid := hs ▸ h.valid
  answer := hs ▸ h.answer
  stored := hs ▸ h.stored
  snapshot := hs ▸ h.snapshot
  inputs := fun i => hi i ▸ h.inputs i

/-- Two lanes hold the same pins. -/
def SameHold (a b : Lane) : Prop :=
  (b.state ≠ .off ∧ b.settings.kind = .pin → a.state ≠ .off ∧ a.settings.kind = .pin ∧ a.settings.target = b.settings.target) ∧
  (a.state ≠ .off ∧ a.settings.kind = .pin → b.state ≠ .off ∧ b.settings.kind = .pin ∧ b.settings.target = a.settings.target)

theorem SameHold.refl (a : Lane) : SameHold a a := ⟨fun h => ⟨h.1, h.2, rfl⟩, fun h => ⟨h.1, h.2, rfl⟩⟩

theorem SameHold.trans {a b c : Lane} (h : SameHold a b) (h' : SameHold b c) : SameHold a c :=
  ⟨fun hc => by
    obtain ⟨hb, hk, ht⟩ := h'.1 hc
    obtain ⟨ha, hk', ht'⟩ := h.1 ⟨hb, hk⟩
    exact ⟨ha, hk', ht'.trans ht⟩,
   fun ha => by
    obtain ⟨hb, hk, ht⟩ := h.2 ha
    obtain ⟨hc, hk', ht'⟩ := h'.2 ⟨hb, hk⟩
    exact ⟨hc, hk', ht'.trans ht⟩⟩

/-- The state as to OFF, the kind and the target are all that a hold of a pin speaks of. -/
theorem SameHold.of_eq {a b : Lane} (hs : b.state = .off ↔ a.state = .off) (hk : b.settings.kind = a.settings.kind)
    (ht : b.settings.target = a.settings.target) : SameHold a b :=
  ⟨fun h => ⟨fun e => h.1 (hs.2 e), hk ▸ h.2, ht.symm⟩, fun h => ⟨fun e => h.1 (hs.1 e), hk.symm ▸ h.2, ht⟩⟩

theorem SameHold.holdsPin_iff {s t : State} {l : LaneId} (h : SameHold (s.lane l) (t.lane l)) (p : PinId) :
    holdsPin t l p ↔ holdsPin s l p := by
  unfold holdsPin
  constructor
  · rintro ⟨hs, hk, ht⟩
    obtain ⟨hs', hk', ht'⟩ := h.1 ⟨hs, hk⟩
    exact ⟨hs', hk', ht'.trans ht⟩
  · rintro ⟨hs, hk, ht⟩
    obtain ⟨hs', hk', ht'⟩ := h.2 ⟨hs, hk⟩
    exact ⟨hs', hk', ht'.trans ht⟩

/-- A pin's function and source stay, and a running timer has its frame. -/
structure PinStays (a b : Pin) : Prop where
  function : b.function = a.function
  source : b.source = a.source
  timer : (a.timing = true → a.activeUntil.isSome) → b.timing = true → b.activeUntil.isSome

theorem PinStays.refl (a : Pin) : PinStays a a := ⟨rfl, rfl, id⟩

theorem PinStays.trans {a b c : Pin} (h : PinStays a b) (h' : PinStays b c) : PinStays a c :=
  ⟨h'.function.trans h.function, h'.source.trans h.source, fun ha => h'.timer (h.timer ha)⟩

theorem PinsOk.of_stays {s t : State} (h : PinsOk s) (hl : ∀ l, SameHold (s.lane l) (t.lane l))
    (hp : ∀ p, PinStays (s.pin p) (t.pin p)) : PinsOk t where
  lane := fun p => by
    rw [(hp p).function, h.lane p]
    exact exists_congr fun l => ((hl l).holdsPin_iff p).symm
  unique := fun l m p h1 h2 => h.unique l m p (((hl l).holdsPin_iff p).1 h1) (((hl m).holdsPin_iff p).1 h2)
  source := fun p => by rw [(hp p).function, (hp p).source]; exact h.source p
  timer := fun p => (hp p).timer (h.timer p)

/-! ### Edits of one part -/

/-- A state is safe where each block is: a block that is not named is the one of the safe state in the context, whose
items it shares. -/
theorem safe_edit {t : State}
    (fru : FruOk t := by have h := ‹Safe _›; exact h.fru.of_eq rfl rfl)
    (followers : FollowersOk t := by have h := ‹Safe _›; exact h.followers.of_eq (fun _ => rfl) fun _ a b => ⟨a, b⟩)
    (house : HouseOk t := by have h := ‹Safe _›; exact h.house.of_eq rfl rfl rfl (.inr rfl) fun _ a b => ⟨a, b⟩)
    (lanes : LanesOk t := by have h := ‹Safe _›; exact h.lanes.of_eq fun _ => rfl)
    (pins : PinsOk t := by have h := ‹Safe _›; exact h.pins.of_stays (fun _ => SameHold.refl _) fun _ => PinStays.refl _)
    (ports : PortsOk t := by have h := ‹Safe _›; exact h.ports.of_eq fun _ => rfl)
    (links : LinksOk t := by have h := ‹Safe _›; exact h.links.of_eq fun _ => rfl)
    (store : StoreOk t := by have h := ‹Safe _›; exact h.store.of_eq rfl fun _ => rfl) : Safe t :=
  ⟨fru, followers, house, lanes, pins, ports, links, store⟩

theorem Safe.withHouse {s : State} (h : Safe s) (g : Grid) (x : Lead) (y : Transport)
    (hh : HouseOk { s with grid := g, lead := x, tc := y }) : Safe { s with grid := g, lead := x, tc := y } :=
  safe_edit (house := hh)

/-- Another grid of the same grid state. -/
theorem Safe.withGrid {s : State} (h : Safe s) {g : Grid} (hg : GridOk g) (hs : g.state = s.grid.state) :
    Safe { s with grid := g } :=
  h.withHouse g s.lead s.tc { h.house with
    grid := hg
    running := fun e => h.house.running (hs ▸ e)
    holdover := fun e => h.house.holdover (hs ▸ e)
    unset := fun e => h.house.unset (hs ▸ e)
    before := fun e => hs.trans (h.house.before e) }

/-- Another lead with the same holder, and no station in the queue that was in neither and may be absent. -/
theorem Safe.withLead {s : State} (h : Safe s) {x : Lead} (hx : LeadOk x) (hh : x.holder.isSome = s.lead.holder.isSome)
    (ha : ∀ e ∈ x.holder.toList ++ x.queue, (s.link e.station).present = true ∨
      ∃ e' ∈ s.lead.holder.toList ++ s.lead.queue, e'.station = e.station) : Safe { s with lead := x } :=
  h.withHouse s.grid x s.tc { h.house with
    lead := hx
    running := fun e => by simp only [hh]; exact h.house.running e
    holdover := fun e => by
      have hn := h.house.holdover e
      rw [hn] at hh
      exact Option.not_isSome_iff_eq_none.1 (by simp [hh])
    absent := fun i h1 h2 e he hi => by
      subst hi
      rcases ha e he with hp | ⟨e', he', heq⟩
      · exact absurd hp (by rw [show (s.link e.station).present = false from h1]; decide)
      · exact h.house.absent _ h1 h2 e' he' heq }

/-- The code and the latch take part in no agreement. -/
theorem Safe.withCode {s : State} (h : Safe s) (c : BitVec 16) (l : Option Latch) :
    Safe { s with lead := { s.lead with code := c, latch := l } } :=
  h.withLead { h.house.lead with } rfl fun e he => .inr ⟨e, he, rfl⟩

/-- No handover waits any more. -/
theorem Safe.withoutHandover {s : State} (h : Safe s) : Safe { s with lead := { s.lead with handover := none } } :=
  h.withLead { h.house.lead with handover := nofun } rfl fun e he => .inr ⟨e, he, rfl⟩

theorem Safe.withTransport {s : State} (h : Safe s) {y : Transport} (hy : TransportOk y)
    (hu : s.grid.state = .unset → y.state = .stopped) : Safe { s with tc := y } :=
  h.withHouse s.grid s.lead y { h.house with transport := hy, unset := hu }

theorem Safe.withPins {s : State} (h : Safe s) (v : Vector Pin 8) (hp : ∀ p : PinId, PinStays (s.pin p) v[p]) :
    Safe { s with pins := v } :=
  safe_edit (pins := h.pins.of_stays (fun _ => SameHold.refl _) hp)

/-- Every pin changed in one way that keeps its function and source. -/
theorem Safe.mapPins {s : State} (h : Safe s) (f : PinId → Pin → Pin) (hp : ∀ i p, PinStays p (f i p)) :
    Safe { s with pins := mapEach s.pins f } :=
  h.withPins _ fun p => by rw [mapEach_get]; exact hp p _

theorem Safe.setPin {s : State} (h : Safe s) {p : PinId} {x : Pin} (hx : PinStays (s.pin p) x) : Safe (s.setPin p x) :=
  h.withPins _ fun q => by
    show PinStays (s.pin q) ((s.setPin p x).pin q)
    rw [setPin_pin]; split
    · next e => exact e ▸ hx
    · exact PinStays.refl _

/-- A link's items changed, PRESENT or ABSENT and the departures reported as before. -/
structure LinkStays (a b : Link) : Prop where
  ok : LinkOk a → LinkOk b
  present : b.present = a.present
  lapse : b.lapseReported = a.lapseReported
  empty : b.emptyReported = a.emptyReported

theorem LinkStays.refl (a : Link) : LinkStays a a := ⟨id, rfl, rfl, rfl⟩

theorem Safe.withLinks {s : State} (h : Safe s) (v : Vector Link 4) (hk : ∀ i : Station, LinkStays (s.link i) v[i]) :
    Safe { s with links := v } :=
  safe_edit
    (followers := h.followers.of_eq (fun _ => rfl) fun i a b => ⟨(hk i).present ▸ a, (hk i).empty ▸ b⟩)
    (house := h.house.of_eq rfl rfl rfl (.inr rfl) fun i a b => ⟨(hk i).present ▸ a, (hk i).lapse ▸ b⟩)
    (links := ⟨fun i => (hk i).ok (h.links.link i)⟩)

theorem Safe.setLink {s : State} (h : Safe s) {i : Station} {k : Link} (hk : LinkStays (s.link i) k) :
    Safe (s.setLink i k) :=
  h.withLinks _ fun j => by
    show LinkStays (s.link j) ((s.setLink i k).link j)
    rw [setLink_link]; split
    · next e => exact e ▸ hk
    · exact LinkStays.refl _

/-- A link's items, and with them whether it is PRESENT and whether its departure waits, changed: a station ABSENT after
that, with no departure reported, has an empty record and no standing. -/
theorem Safe.setLinkAnew {s : State} (h : Safe s) {i : Station} {k : Link} (hk : LinkOk k)
    (hf : k.present = false → k.emptyReported = false → s.follower i = Follower.empty)
    (hx : k.present = false → k.lapseReported = false → ∀ e ∈ s.lead.holder.toList ++ s.lead.queue, e.station ≠ i) :
    Safe (s.setLink i k) :=
  safe_edit
    (followers := ⟨h.followers.follower, fun j hp he => by
      by_cases e : j = i
      · subst e; rw [setLink_link_same] at hp he; exact hf hp he
      · rw [setLink_link_ne _ _ _ _ e] at hp he; exact h.followers.absent j hp he⟩)
    (house := { h.house with
      absent := fun j hp he => by
        by_cases e : j = i
        · subst e; rw [setLink_link_same] at hp he; exact hx hp he
        · rw [setLink_link_ne _ _ _ _ e] at hp he; exact h.house.absent j hp he })
    (links := ⟨fun j => by rw [setLink_link]; split; exacts [hk, h.links.link j]⟩)

theorem Safe.withPorts {s : State} (h : Safe s) (v : Vector Port 4) (hp : ∀ p : PortId, PortOk v[p]) :
    Safe { s with ports := v } :=
  safe_edit (ports := ⟨hp⟩)

theorem Safe.setPort {s : State} (h : Safe s) {p : PortId} {x : Port} (hx : PortOk x) : Safe (s.setPort p x) :=
  h.withPorts _ fun q => by
    show PortOk ((s.setPort p x).port q)
    rw [setPort_port]; split
    exacts [hx, h.ports.port q]

theorem Safe.withLanes {s : State} (h : Safe s) (v : Vector Lane 16) (hl : ∀ l : LaneId, LaneOk v[l])
    (hh : ∀ l : LaneId, SameHold (s.lane l) v[l]) : Safe { s with lanes := v } :=
  safe_edit (lanes := ⟨hl⟩) (pins := h.pins.of_stays hh fun _ => PinStays.refl _)

/-- Every lane changed in one way that keeps its bounds and the pin it holds. -/
theorem Safe.mapLanes {s : State} (h : Safe s) (f : LaneId → Lane → Lane) (hf : ∀ l x, LaneOk x → LaneOk (f l x))
    (hh : ∀ l x, SameHold x (f l x)) : Safe { s with lanes := mapEach s.lanes f } :=
  h.withLanes _ (fun l => by rw [mapEach_get]; exact hf l _ (h.lanes.lane l)) fun l => by rw [mapEach_get]; exact hh l _

theorem Safe.setLane {s : State} (h : Safe s) {l : LaneId} {x : Lane} (hx : LaneOk x) (hh : SameHold (s.lane l) x) :
    Safe (s.setLane l x) :=
  h.withLanes _
    (fun m => by
      show LaneOk ((s.setLane l x).lane m)
      rw [setLane_lane]; split
      exacts [hx, h.lanes.lane m])
    fun m => by
      show SameHold (s.lane m) ((s.setLane l x).lane m)
      rw [setLane_lane]; split
      · next e => exact e ▸ hh
      · exact SameHold.refl _

theorem Safe.setFollower {s : State} (h : Safe s) {i : Station} {x : Follower} (hx : FollowerOk x)
    (he : s.follower i = Follower.empty → (s.link i).present = false → x = Follower.empty) : Safe (s.setFollower i x) :=
  safe_edit
    (followers := ⟨fun j => by rw [setFollower_follower]; split; exacts [hx, h.followers.follower j], fun j hp hr => by
      have hold := h.followers.absent j hp hr
      rw [setFollower_follower]; split
      · next e => subst e; exact he hold hp
      · exact hold⟩)

/-- Every follower record changed in one way that keeps its bounds and an empty record. -/
theorem Safe.mapFollowers {s : State} (h : Safe s) (f : Station → Follower → Follower)
    (hf : ∀ i x, FollowerOk x → FollowerOk (f i x)) (he : ∀ i, f i Follower.empty = Follower.empty) :
    Safe { s with followers := mapEach s.followers f } := by
  have hget : ∀ i : Station, State.follower { s with followers := mapEach s.followers f } i = f i (s.follower i) :=
    fun i => mapEach_get _ _ _
  exact safe_edit (followers := ⟨fun i => by rw [hget]; exact hf i _ (h.followers.follower i), fun i hp hr => by
    rw [hget, h.followers.absent i hp hr]; exact he i⟩)

theorem Safe.withInputs {s : State} (h : Safe s) (v : Vector MarkInput 2) (hv : ∀ i : InputId, InputOk v[i].setting) :
    Safe { s with inputs := v } :=
  safe_edit (store := { h.store with inputs := hv })

theorem Safe.setInput {s : State} (h : Safe s) {i : InputId} {x : MarkInput} (hx : InputOk x.setting) :
    Safe (s.setInput i x) :=
  h.withInputs _ fun j => by
    show InputOk ((s.setInput i x).input j).setting
    rw [setInput_input]; split
    exacts [hx, h.store.inputs j]

/-- The reference items, once frames have begun. -/
theorem Safe.withFru {s : State} (h : Safe s) {f : Fru} (hf : FruFits f) (hp : s.phase = .running) :
    Safe { s with fru := f } :=
  safe_edit (fru := FruFits.ok hf hp)

theorem Safe.withStore {s : State} (h : Safe s) {x : Store} (hx : StoreOk { s with store := x }) :
    Safe { s with store := x } :=
  safe_edit (store := hx)

/-- The rotation pointer and the commands that wait take part in no agreement. -/
theorem Safe.withRotation {s : State} (h : Safe s) (r : Station) : Safe { s with rotation := r } :=
  safe_edit

theorem Safe.withPending {s : State} (h : Safe s) (q : List Instr) : Safe { s with pending := q } :=
  safe_edit

/-! ### Notices, indicators and the taking of a request -/

@[simp] theorem txStart_lapseReported (k : Link) : (txStart k).lapseReported = k.lapseReported := by
  unfold txStart; split <;> rfl
@[simp] theorem txStart_emptyReported (k : Link) : (txStart k).emptyReported = k.emptyReported := by
  unfold txStart; split <;> rfl

theorem linkStays_placeHouse {k : Link} (hp : k.present = true) (n : HouseNotice) : LinkStays k (placeHouse n k) := by
  refine ⟨fun hk => hk.placeHouse hp _, placeHouse_present _ _, ?_, ?_⟩ <;>
    · unfold placeHouse; repeat' split
      all_goals simp

theorem linkStays_placeBeat {k : Link} (hp : k.present = true) (n : BeatNotice) : LinkStays k (placeBeat n k) := by
  refine ⟨fun hk => hk.placeBeat hp _, placeBeat_present _ _, ?_, ?_⟩ <;>
    · unfold placeBeat; repeat' split
      all_goals simp

theorem linkStays_placeAnswer {m : Message} (hm : isNotice m = false) (k : Link) : LinkStays k (placeAnswer m k) := by
  refine ⟨fun hk => hk.placeAnswer hm, placeAnswer_present _ _, ?_, ?_⟩ <;>
    · unfold placeAnswer; repeat' split
      all_goals simp

theorem Safe.raiseHouse {s : State} (h : Safe s) (r : Reason) : Safe (raiseHouse r s) :=
  h.withLinks _ fun i => by
    show LinkStays (s.link i) ((Machine.raiseHouse r s).link i)
    rw [raiseHouse_link]
    split
    exacts [linkStays_placeHouse ‹_› _, LinkStays.refl _]

theorem pinStays_level (p : Pin) (on : Bool) : PinStays p { p with level := on } := ⟨rfl, rfl, id⟩

theorem pinStays_activate (count : Frame) (n : Nat) (p : Pin) : PinStays p (activate count n p) :=
  ⟨rfl, rfl, fun _ _ => rfl⟩

theorem pinStays_timerEnd (count : Frame) (p : Pin) : PinStays p (timerEnd count p) := by
  unfold timerEnd
  split
  · split
    · exact ⟨rfl, rfl, nofun⟩
    · exact PinStays.refl p
  · exact PinStays.refl p

theorem pinStays_activeUntilExpire (count : Frame) (p : Pin) : PinStays p (activeUntilExpire count p) := by
  unfold activeUntilExpire
  split
  · split
    · next hr => exact ⟨rfl, rfl, fun _ ht => by simp_all⟩
    · exact PinStays.refl p
  · exact PinStays.refl p

theorem Safe.showSource {s : State} (h : Safe s) (x : Source) : Safe (showSource x s) := by
  unfold Machine.showSource
  split
  · exact h
  · exact h.mapPins _ fun _ p => by
      split
      exacts [pinStays_level p _, PinStays.refl p]

theorem Safe.pulseSource {s : State} (h : Safe s) (x : Source) : Safe (pulseSource x s) :=
  h.mapPins _ fun _ p => by
    split
    exacts [pinStays_activate _ _ p, PinStays.refl p]

theorem Safe.placeReply {s : State} (h : Safe s) (st : Station) (kind tag : Byte) (r : Reply) :
    Safe (placeReply st kind tag r s) := by
  cases r with
  | answer code detail => exact h.setLink (linkStays_placeAnswer rfl _)
  | report contents => exact h.setLink (linkStays_placeAnswer rfl _)
  | deferred => exact h

theorem Safe.afterTaking {s : State} (h : Safe s) (st : Station) : Safe (afterTaking st s) := by
  have hk : LinkStays (s.link st) { s.link st with rxQueue := (s.link st).rxQueue.tail } :=
    ⟨fun hk => { hk with
      rxQueue := by have := hk.rxQueue; simp only [List.length_tail]; omega
      bodies := fun b hb => hk.bodies b (List.mem_of_mem_tail hb) }, rfl, rfl, rfl⟩
  exact (h.setLink hk).withRotation (st + 1)

/-- A taking comes now, and takes the frame, or cannot come (R191). -/
theorem takeFrame_cases (st : Station) (body : List Byte) (s : State) :
    takeFrame st body s = none ∨ takeFrame st body s = some (afterTaking st s) := by
  unfold takeFrame
  split
  · split <;> simp
  · simp

/-- How the taking of a request ends: it cannot come now, or the frame is taken and the owner's part done, or the frame
is taken and its length refused (R191, R193). -/
theorem takeRequest_cases (st : Station) (kind tag : Byte) (f : List Byte) (lengths : List Nat)
    (owner : State → State × Reply) (s : State) :
    takeRequest st kind tag f lengths owner s = s ∨
    s.phase = .running ∧ ∃ r, takeRequest st kind tag f lengths owner s =
        placeReply st kind tag r (owner (afterTaking st s)).1 ∨
      takeRequest st kind tag f lengths owner s = placeReply st kind tag r (afterTaking st s) := by
  unfold takeRequest whenRunning
  split
  · next hp =>
    rcases takeFrame_cases st (kind :: tag :: f) s with ht | ht
    · simp [ht]
    · simp only [ht]
      split
      · exact .inr ⟨hp, _, .inl rfl⟩
      · exact .inr ⟨hp, _, .inr rfl⟩
  · exact .inl rfl

/-- The taking of a request keeps what its owner's part keeps, once frames have begun (R193, R196). -/
theorem Safe.takeRequest {s : State} (h : Safe s) {st : Station} {kind tag : Byte} {f : List Byte} {lengths : List Nat}
    {owner : State → State × Reply} (ho : ∀ s, Safe s → s.phase = .running → Safe (owner s).1) :
    Safe (takeRequest st kind tag f lengths owner s) := by
  have ht := h.afterTaking st
  rcases takeRequest_cases st kind tag f lengths owner s with e | ⟨hp, r, e | e⟩ <;> rw [e]
  · exact h
  · exact (ho _ ht hp).placeReply _ _ _ _
  · exact ht.placeReply _ _ _ _

theorem Safe.whenRunning {s : State} (h : Safe s) {f : State → State} (hf : s.phase = .running → Safe (f s)) :
    Safe (whenRunning f s) := by
  unfold Machine.whenRunning
  split
  · next hp => exact hf hp
  · exact h

end Sys2Proof.Machine
end

section
/-! PROOF. The lanes: what a patch, a request, the walk and the emission keep of a lane (LaneOk) and of the pin it holds. -/

namespace Sys2Proof.Machine

/-! ### Rates and settings (R106, R107, R116) -/

theorem limitRate_idem (k : LaneKind) (r : Rate) : RateOk k (limitRate k r) := by
  have h1 : ∀ n, clampNat 1 64 (clampNat 1 64 n) = clampNat 1 64 n := by
    intro n; rw [clampNat_eq _ (by omega), clampNat_eq _ (by omega)]; omega
  have h2 : ∀ b n, 1 ≤ b → clampNat 1 b (clampNat 1 b n) = clampNat 1 b n := by
    intro b n hb; rw [clampNat_eq _ hb, clampNat_eq _ hb]; omega
  unfold RateOk
  cases r with
  | perBeat p => simp only [limitRate]; rw [h2]; split <;> omega
  | every q => simp only [limitRate, h1]
  | perBar => rfl

/-- The settings of SettingsOk that no rate takes part in. -/
structure SettingsFit (x : Settings) : Prop where
  swing : 50 ≤ x.swing ∧ x.swing ≤ 75
  offset : -4800 ≤ x.offset ∧ x.offset ≤ 4800
  width : 24 ≤ x.width ∧ x.width ≤ 2400
  accent : ∀ a, x.accent = some a → 24 ≤ a ∧ a ≤ 2400
  spacing : 1 ≤ x.spacing ∧ x.spacing ≤ 255
  target : targetFits x.kind x.target = true
  notPin : x.kind ≠ .pin → x.waveform = .pulse ∧ x.width = 480 ∧ x.accent = none ∧ x.polarity = .normal
  notStream : x.kind ≠ .stream → x.codes = ⟨0, 0, 0, 0⟩ ∧ x.barCode = none

theorem SettingsOk.fit {x : Settings} (h : SettingsOk x) : SettingsFit x :=
  ⟨h.swing, h.offset, h.width, h.accent, h.spacing, h.target, h.notPin, h.notStream⟩

@[simp] theorem settledSwing_kind (x : Settings) : (settledSwing x).kind = x.kind := by unfold settledSwing; split <;> rfl
@[simp] theorem settledSwing_target (x : Settings) : (settledSwing x).target = x.target := by
  unfold settledSwing; split <;> rfl
@[simp] theorem settledSwing_rate (x : Settings) : (settledSwing x).rate = x.rate := by unfold settledSwing; split <;> rfl

/-- R107: swing settled, the settings are in order where their rate is. -/
theorem SettingsFit.settled {x : Settings} (h : SettingsFit x) (hr : RateOk x.kind x.rate) : SettingsOk (settledSwing x) := by
  unfold settledSwing
  split
  · next hs => exact { h with rate := hr, noSwing := fun hn => by simp [hs] at hn }
  · exact { h with rate := hr, noSwing := fun _ => rfl, swing := ⟨le_refl 50, by simp⟩ }

/-- The values a patch carries are those of a lane of this kind, in their ranges. -/
structure CarriedOk (k : LaneKind) (p : Patch) : Prop where
  kind : ∀ v, p.kind = some v → v = k
  target : ∀ v, p.target = some v → targetFits k v = true
  fits : fitsKind k p = true
  rate : ∀ r, p.rate = some r → RateOk k r
  swing : ∀ v, p.swing = some v → 50 ≤ v ∧ v ≤ 75
  offset : ∀ v, p.offset = some v → -4800 ≤ v ∧ v ≤ 4800
  width : ∀ v, p.width = some v → 24 ≤ v ∧ v ≤ 2400
  accent : ∀ a, p.accent = some (some a) → 24 ≤ a ∧ a ≤ 2400
  spacing : ∀ v, p.spacing = some v → 1 ≤ v ∧ v ≤ 255

theorem fitsKind_notPin {k : LaneKind} {p : Patch} (h : fitsKind k p = true) (hk : k ≠ .pin) :
    p.waveform = none ∧ p.width = none ∧ p.accent = none ∧ p.polarity = none := by
  simp [fitsKind, hk] at h; exact ⟨h.1.1.1.1, h.1.1.1.2, h.1.1.2, h.1.2⟩

theorem fitsKind_notStream {k : LaneKind} {p : Patch} (h : fitsKind k p = true) (hk : k ≠ .stream) :
    p.codes = none ∧ p.barCode = none := by
  simp [fitsKind, hk] at h; exact h.2

/-- Settings a carried patch is written into. -/
theorem SettingsFit.applyPatch {x : Settings} {p : Patch} (h : SettingsFit x) (hp : CarriedOk x.kind p) :
    SettingsFit (applyPatch p x) := by
  have hkind : (Machine.applyPatch p x).kind = x.kind := by
    unfold Machine.applyPatch
    cases hk : p.kind with
    | none => rfl
    | some v => exact hp.kind v hk
  constructor
  · cases hc : p.swing with
    | none => simpa [Machine.applyPatch, hc] using h.swing
    | some v => simpa [Machine.applyPatch, hc] using hp.swing v hc
  · cases hc : p.offset with
    | none => simpa [Machine.applyPatch, hc] using h.offset
    | some v => simpa [Machine.applyPatch, hc] using hp.offset v hc
  · cases hc : p.width with
    | none => simpa [Machine.applyPatch, hc] using h.width
    | some v => simpa [Machine.applyPatch, hc] using hp.width v hc
  · cases hc : p.accent with
    | none => simpa [Machine.applyPatch, hc] using h.accent
    | some v => intro a ha; exact hp.accent a (by simpa [Machine.applyPatch, hc] using ha)
  · cases hc : p.spacing with
    | none => simpa [Machine.applyPatch, hc] using h.spacing
    | some v => simpa [Machine.applyPatch, hc] using hp.spacing v hc
  · rw [hkind]
    cases hc : p.target with
    | none => simpa [Machine.applyPatch, hc] using h.target
    | some v => simpa [Machine.applyPatch, hc] using hp.target v hc
  · rw [hkind]
    intro hk
    obtain ⟨h1, h2, h3, h4⟩ := fitsKind_notPin hp.fits hk
    simpa [Machine.applyPatch, h1, h2, h3, h4] using h.notPin hk
  · rw [hkind]
    intro hk
    obtain ⟨h1, h2⟩ := fitsKind_notStream hp.fits hk
    simpa [Machine.applyPatch, h1, h2] using h.notStream hk

/-- A patch without kind and target leaves both. -/
theorem applyPatch_kind {p : Patch} (x : Settings) (h : p.kind = none) : (applyPatch p x).kind = x.kind := by
  simp [applyPatch, h]
theorem applyPatch_target {p : Patch} (x : Settings) (h : p.target = none) : (applyPatch p x).target = x.target := by
  simp [applyPatch, h]

theorem stageable_kind {p : Patch} (h : stageablePart p = p) : p.kind = none := by rw [← h]; rfl
theorem stageable_target {p : Patch} (h : stageablePart p = p) : p.target = none := by rw [← h]; rfl
theorem stageable_spacing {p : Patch} (h : stageablePart p = p) : p.spacing = none := by rw [← h]; rfl

theorem PatchOk.carried {k : LaneKind} {p : Patch} (h : PatchOk k p) : CarriedOk k p :=
  { h with
    kind := by simp [stageable_kind h.stageable]
    target := by simp [stageable_target h.stageable]
    spacing := by simp [stageable_spacing h.stageable] }

/-- A stageable patch written into settings of its kind (R120). -/
theorem SettingsOk.applyStageable {x : Settings} {p : Patch} (h : SettingsOk x) (hp : PatchOk x.kind p) :
    SettingsOk (settledSwing (applyPatch p x)) := by
  refine (h.fit.applyPatch hp.carried).settled ?_
  rw [applyPatch_kind x (stageable_kind hp.stageable)]
  cases hr : p.rate with
  | none => simpa [applyPatch, hr] using h.rate
  | some r => simpa [applyPatch, hr] using hp.rate r hr

/-- The stageable settings that a carried patch holds may be staged (R119). -/
theorem CarriedOk.stageable {k : LaneKind} {p : Patch} (h : CarriedOk k p) : PatchOk k (stageablePart p) :=
  { stageable := rfl, rate := h.rate, swing := h.swing, offset := h.offset, width := h.width, accent := h.accent
    fits := by
      have := h.fits
      simp only [fitsKind, stageablePart, Bool.and_eq_true, Bool.or_eq_true] at this ⊢
      tauto }

/-! ### A change of kind, and a patch as it is clamped (R107, R116) -/

@[simp] theorem settingsOfKind_kind (k : LaneKind) (x : Settings) : (settingsOfKind k x).kind = k := by
  unfold settingsOfKind
  split
  · simp_all
  · cases k <;> rfl

@[simp] theorem settingsOfKind_self (x : Settings) : settingsOfKind x.kind x = x := by simp [settingsOfKind]

@[simp] theorem settingsOfKind_rate (k : LaneKind) (x : Settings) : (settingsOfKind k x).rate = x.rate := by
  unfold settingsOfKind
  split
  · rfl
  · cases k <;> rfl

theorem SettingsFit.ofKind {x : Settings} (h : SettingsFit x) (k : LaneKind) : SettingsFit (settingsOfKind k x) := by
  unfold settingsOfKind
  split
  · exact h
  · next hk =>
    obtain ⟨hsw, hof, hwi, hac, hsp, -, hnp, hns⟩ := h
    cases k with
    | pin => exact ⟨hsw, hof, hwi, hac, hsp, rfl, fun h => absurd rfl h, fun _ => ⟨rfl, rfl⟩⟩
    | stream =>
      exact ⟨hsw, hof, ⟨by simp, by simp⟩, nofun, hsp, rfl, fun _ => ⟨rfl, rfl, rfl, rfl⟩, fun h => absurd rfl h⟩
    | notice =>
      exact ⟨hsw, hof, ⟨by simp, by simp⟩, nofun, hsp, rfl, fun _ => ⟨rfl, rfl, rfl, rfl⟩, fun _ => ⟨rfl, rfl⟩⟩

/-- A patch with its values clamped (R116 check 3). -/
theorem carriedOk_clampPatch {k : LaneKind} {r : Rate} {p : Patch} (hk : ∀ v, p.kind = some v → v = k)
    (ht : ∀ v, p.target = some v → targetFits k v = true) (hf : fitsKind k p = true) :
    CarriedOk k (clampPatch k r p) where
  kind := hk
  target := ht
  fits := by simpa [fitsKind, clampPatch] using hf
  rate := by
    intro v hv
    have hv : patchRate k r p = some v := hv
    unfold patchRate at hv
    split at hv
    · cases hv; exact limitRate_idem k _
    · split at hv
      · cases hv
      · cases hv; exact limitRate_idem k _
  swing := by
    simp only [clampPatch, Option.map_eq_some_iff]
    rintro v ⟨w, -, rfl⟩
    unfold limitSwing
    split
    · exact clampNat_range w (by omega)
    · omega
  offset := by
    simp only [clampPatch, Option.map_eq_some_iff]
    rintro v ⟨w, -, rfl⟩
    exact clampInt_range w (by omega)
  width := by
    simp only [clampPatch, Option.map_eq_some_iff]
    rintro v ⟨w, -, rfl⟩
    exact clampNat_range w (by omega)
  accent := by
    simp only [clampPatch, Option.map_eq_some_iff]
    rintro v ⟨w, -, hw⟩
    obtain ⟨a, -, rfl⟩ := hw
    exact clampNat_range a (by omega)
  spacing := by
    simp only [clampPatch, Option.map_eq_some_iff]
    rintro v ⟨w, -, rfl⟩
    exact clampNat_range w (by omega)

/-- The rate a clamped patch leaves is within the limits of the kind, whatever the lane held (R107). -/
theorem rateOk_clampPatch (k : LaneKind) (r : Rate) (p : Patch) : RateOk k ((clampPatch k r p).rate.getD r) := by
  show RateOk k ((patchRate k r p).getD r)
  unfold patchRate
  split
  · exact limitRate_idem k _
  · split
    · assumption
    · exact limitRate_idem k _

/-- A clamped patch written into the record (R117, R118). -/
theorem SettingsOk.writePatch {x : Settings} {k : LaneKind} {p : Patch} (h : SettingsOk x)
    (hc : CarriedOk k (clampPatch k x.rate p)) (hk : p.kind.getD x.kind = k) :
    SettingsOk (writePatch (clampPatch k x.rate p) x) := by
  have hk' : (clampPatch k x.rate p).kind.getD x.kind = k := hk
  unfold Machine.writePatch
  rw [hk']
  refine ((h.fit.ofKind k).applyPatch (by simpa using hc)).settled ?_
  have hkind : (Machine.applyPatch (clampPatch k x.rate p) (settingsOfKind k x)).kind = k := by
    cases hp : (clampPatch k x.rate p).kind with
    | none => simp [Machine.applyPatch, hp]
    | some v => simpa [Machine.applyPatch, hp] using hc.kind v hp
  rw [hkind]
  simpa [Machine.applyPatch] using rateOk_clampPatch k x.rate p

/-! ### Point queues (R141, R142, R144) -/

/-- A point queue within R141 and R142. -/
structure RecordsOk (q : List PointRecord) : Prop where
  length : q.length ≤ Config.pointQueueMax
  due : ∀ i, (h : i + 1 < q.length) → earlier q[i + 1].due q[i].due = false
  counts : ∀ r ∈ q, 1 ≤ r.count ∧ r.count ≤ 255

theorem LaneOk.records {ln : Lane} (h : LaneOk ln) : RecordsOk ln.queue := ⟨h.queue, h.due, h.counts⟩

theorem earlier_self (d : Frame) : earlier d d = false := by simp [earlier, interval]

theorem recordsOk_nil : RecordsOk [] := ⟨by simp [Config.pointQueueMax], by simp, by simp⟩

/-- The order of the due frames, told of neighbours in a list. -/
theorem dueOrder_iff (q : List PointRecord) :
    (∀ i, (h : i + 1 < q.length) → earlier q[i + 1].due q[i].due = false) ↔
      q.IsChain (fun a b => earlier b.due a.due = false) := by
  rw [List.isChain_iff_getElem]

theorem RecordsOk.joinQueue {q : List PointRecord} {r : PointRecord} (h : RecordsOk q) (hr : r.count = 1) :
    RecordsOk (joinQueue r q) := by
  obtain ⟨hlen, hdue, hcount⟩ := h
  rw [dueOrder_iff] at hdue
  unfold Machine.joinQueue
  split
  · exact ⟨by simp [Config.pointQueueMax], by simp, by simp [hr]⟩
  · next t ht =>
    obtain ⟨init, rfl⟩ : ∃ init, q = init ++ [t] := ⟨q.dropLast, (List.dropLast_append_getLast? t ht).symm⟩
    split
    · next hroom =>
      refine ⟨by simp only [List.length_append, List.length_singleton] at hroom ⊢; omega, ?_, ?_⟩
      · rw [dueOrder_iff, List.isChain_append]
        refine ⟨hdue, by simp, ?_⟩
        simp only [List.getLast?_append, List.getLast?_singleton, List.head?_cons]
        rintro a ⟨⟩ b ⟨⟩
        split
        · exact earlier_self _
        · next hn => exact Bool.eq_false_iff.2 hn
      · intro x hx
        rcases List.mem_append.1 hx with hx | hx
        · exact hcount x hx
        · obtain rfl := List.mem_singleton.1 hx
          split <;> simp [hr]
    · rw [List.dropLast_concat]
      refine ⟨by simpa using hlen, ?_, ?_⟩
      · rw [dueOrder_iff]
        rw [List.isChain_append] at hdue ⊢
        refine ⟨hdue.1, by simp, ?_⟩
        have hlast := hdue.2.2
        simp only [List.head?_cons] at hlast ⊢
        rintro a ha b ⟨⟩
        exact hlast a ha t rfl
      · intro x hx
        rcases List.mem_append.1 hx with hx | hx
        · exact hcount x (List.mem_append_left _ hx)
        · obtain rfl := List.mem_singleton.1 hx
          exact ⟨satInc_pos _ (by omega), satInc_le _ _⟩

theorem RecordsOk.emitted {r : PointRecord} {rest : List PointRecord} (h : RecordsOk (r :: rest)) :
    RecordsOk (recordAfter r ++ rest) := by
  obtain ⟨hlen, hdue, hcount⟩ := h
  rw [dueOrder_iff] at hdue
  have hr := hcount r (by simp)
  simp only [List.length_cons] at hlen
  unfold recordAfter
  split
  · refine ⟨by simpa using hlen, ?_, ?_⟩
    · rw [dueOrder_iff, List.singleton_append]
      cases rest with
      | nil => simp
      | cons a b => simpa using hdue
    · intro x hx
      rcases List.mem_append.1 hx with hx | hx
      · obtain rfl := List.mem_singleton.1 hx
        simp only; omega
      · exact hcount x (by simp [hx])
  · refine ⟨by simp only [List.nil_append]; omega, ?_, fun x hx => hcount x (by simp_all)⟩
    rw [dueOrder_iff, List.nil_append]
    exact hdue.tail

/-! ### The items of a walk (R136, R137) -/

theorem leastItem_mem {l : List WalkItem} {i : WalkItem} (h : leastItem l = some i) : i ∈ l := by
  induction l generalizing i with
  | nil => cases h
  | cons a rest ih =>
    unfold leastItem at h
    split at h
    · cases h; simp
    · next j hj =>
      split at h <;> cases h
      · exact List.mem_cons_of_mem _ (ih hj)
      · simp

theorem nextItem_mem {ref : Pos} {ln : Lane} {i : WalkItem} (h : nextItem ref ln = some i) : i ∈ laneItems ln :=
  List.mem_of_mem_filter (leastItem_mem h)

/-- What a lane holds where an item of its walk is found. -/
theorem laneItems_holds {ln : Lane} {i : WalkItem} (h : i ∈ laneItems ln) :
    match i with
    | .activation a => ln.state = .arming ∧ ln.activation = some a
    | .staged sp => ln.state = .active ∧ ln.staged = some sp
    | .disable d => ln.state = .active ∧ ln.disable = some d
    | .point n => ln.state = .active ∧ ln.nextPoint = some n := by
  unfold laneItems at h
  cases hs : ln.state <;> simp only [hs] at h
  · simp at h
  · simp only [Option.mem_toList, Option.map_eq_some_iff] at h
    obtain ⟨a, ha, rfl⟩ := h
    exact ⟨rfl, ha⟩
  · simp only [List.mem_append, Option.mem_toList, Option.map_eq_some_iff] at h
    rcases h with (⟨a, ha, rfl⟩ | ⟨a, ha, rfl⟩) | ⟨a, ha, rfl⟩ <;> exact ⟨rfl, ha⟩

/-! ### What happens to a lane -/

/-- An OFF lane holds nothing but its settings, its owner and its last emission frame (R112, R151). -/
theorem laneOk_off {ln : Lane} (h : SettingsOk ln.settings) : LaneOk (laneOff ln) :=
  { settings := h, staged := by rintro sp ⟨⟩, queue := recordsOk_nil.length, due := recordsOk_nil.due
    counts := recordsOk_nil.counts, off := fun _ => rfl, arming := by rintro ⟨⟩, active := by rintro ⟨⟩
    anchor := by rintro ⟨⟩, target := fun hn => absurd rfl hn }

theorem anchorAt_isSome (r : Rate) (b : Beat) : (anchorAt r b).isSome ↔ ∃ q, r = .every q := by
  cases r <;> simp [anchorAt]

theorem LaneOk.activate {ln : Lane} (h : LaneOk ln) (hs : ln.state = .arming) (p : Pos) : LaneOk (activateLane p ln) :=
  { h with
    off := nofun
    arming := nofun
    active := fun _ => ⟨rfl, rfl⟩
    anchor := fun _ => anchorAt_isSome _ _
    target := fun _ => h.target (by simp [hs]) }

theorem sameHold_activate {ln : Lane} (hs : ln.state = .arming) (p : Pos) : SameHold ln (activateLane p ln) :=
  SameHold.of_eq (by simp [activateLane, hs]) rfl rfl

theorem LaneOk.start {ln : Lane} (h : LaneOk ln) : LaneOk (startLane ln) := by
  unfold startLane
  split
  · next hs => exact h.activate hs _
  · exact h

theorem sameHold_start (ln : Lane) : SameHold ln (startLane ln) := by
  unfold startLane
  split
  · next hs => exact sameHold_activate hs _
  · exact SameHold.refl ln

/-- The anchor after settings were written is one exactly for an EVERY rate, where it was before (R120). -/
theorem anchorAfter_isSome {carried : Bool} {r r' : Rate} {b : Beat} {old : Option Beat} (hr : carried = false → r = r')
    (ho : old.isSome ↔ ∃ q, r' = .every q) : (anchorAfter carried r b old).isSome ↔ ∃ q, r = .every q := by
  unfold anchorAfter
  split
  · exact anchorAt_isSome r b
  · next hc =>
    have := hr (by simpa using hc)
    subst this
    cases r with
    | every q => simpa using ho
    | perBeat p => simp
    | perBar => simp

theorem rate_of_not_carried {p : Patch} (x : Settings) (h : p.rate.isSome = false) :
    (settledSwing (applyPatch p x)).rate = x.rate := by
  have : p.rate = none := by simpa using h
  simp [applyPatch, this]

theorem LaneOk.applyStaged {ln : Lane} {sp : Staged} (h : LaneOk ln) (hs : ln.state = .active)
    (hsp : ln.staged = some sp) (b : Beat) : LaneOk (applyStaged b sp ln) := by
  have hp := h.staged sp hsp
  exact { h with
    settings := h.settings.applyStageable hp
    staged := by rintro sp ⟨⟩
    off := fun e => by simp [Machine.applyStaged, hs] at e
    arming := fun e => by simp [Machine.applyStaged, hs] at e
    active := fun _ => ⟨(h.active hs).1, rfl⟩
    anchor := fun _ => anchorAfter_isSome (rate_of_not_carried ln.settings) (h.anchor hs)
    target := fun _ => by
      simp only [Machine.applyStaged, settledSwing_target, applyPatch_target _ (stageable_target hp.stageable)]
      exact h.target (by simp [hs]) }

theorem applyStaged_keeps {ln : Lane} {sp : Staged} (h : LaneOk ln) (hsp : ln.staged = some sp) (b : Beat) :
    (applyStaged b sp ln).state = ln.state ∧ (applyStaged b sp ln).settings.kind = ln.settings.kind ∧
      (applyStaged b sp ln).settings.target = ln.settings.target := by
  have hp := (h.staged sp hsp).stageable
  simp [applyStaged, applyPatch_kind _ (stageable_kind hp), applyPatch_target _ (stageable_target hp)]

theorem LaneOk.issue {ln : Lane} (h : LaneOk ln) (hs : ln.state = .active) (g : Grid) (count : Frame) (n : NextPoint) :
    LaneOk (issuePoint g count n ln) := by
  have hq := h.records.joinQueue (r := issuedRecord g count ln n) rfl
  exact { h with
    queue := hq.length
    due := hq.due
    counts := hq.counts
    off := fun e => by simp [issuePoint, hs] at e
    arming := fun e => by simp [issuePoint, hs] at e
    active := fun _ => ⟨(h.active hs).1, rfl⟩ }

theorem LaneOk.takePoint {ln : Lane} (h : LaneOk ln) (hs : ln.state = .active) (g : Grid) (count : Frame) (n : NextPoint) :
    LaneOk (takePoint g count n ln) := by
  unfold Machine.takePoint
  split
  · exact { h with
      off := fun e => by simp [hs] at e
      arming := fun e => by simp [hs] at e
      active := fun _ => ⟨(h.active hs).1, rfl⟩ }
  · exact h.issue hs g count n

theorem takePoint_keeps (g : Grid) (count : Frame) (n : NextPoint) (ln : Lane) :
    (takePoint g count n ln).state = ln.state ∧ (takePoint g count n ln).settings = ln.settings := by
  unfold takePoint
  split <;> exact ⟨rfl, rfl⟩

theorem LaneOk.emitted {ln : Lane} {r : PointRecord} {rest : List PointRecord} (h : LaneOk ln) (hq : ln.queue = r :: rest)
    (count : Frame) : LaneOk (laneEmitted count r rest ln) := by
  have hnew : RecordsOk (recordAfter r ++ rest) := RecordsOk.emitted (hq ▸ h.records)
  have hact : ln.state = .active := by
    cases hs : ln.state with
    | off => rw [h.off hs] at hq; cases hq
    | arming => rw [(h.arming hs).2.2.2.2.1] at hq; cases hq
    | active => rfl
  exact { h with
    queue := hnew.length
    due := hnew.due
    counts := hnew.counts
    off := fun e => by simp [laneEmitted, hact] at e
    arming := fun e => by simp [laneEmitted, hact] at e }

theorem LaneOk.lastEmissionExpire {ln : Lane} (h : LaneOk ln) (count : Frame) : LaneOk (lastEmissionExpire count ln) := by
  unfold Machine.lastEmissionExpire
  split
  · split
    · exact { h with off := fun e => by conv_lhs => rw [h.off e]
                                        rfl }
    · exact h
  · exact h

theorem sameHold_lastEmissionExpire (count : Frame) (ln : Lane) : SameHold ln (lastEmissionExpire count ln) := by
  unfold lastEmissionExpire
  split
  · split <;> exact SameHold.refl _
  · exact SameHold.refl _

/-- An owed mark takes part in no bound of a lane that is not OFF (R94). -/
theorem LaneOk.withOwed {ln : Lane} (h : LaneOk ln) (hs : ln.state ≠ .off) (o : Option Owed) : LaneOk { ln with owed := o } :=
  { h with off := fun e => absurd e hs }

/-- R125, R151: a lane after a Grid Clear. -/
theorem LaneOk.clear {ln : Lane} (h : LaneOk ln) : LaneOk (clearLane ln) := by
  have hset : SettingsOk (settingsAtClear ln) := by
    unfold settingsAtClear
    split
    · next sp hsp => exact h.settings.applyStageable (h.staged sp hsp)
    · exact h.settings
  have htarget : (settingsAtClear ln).target = ln.settings.target := by
    unfold settingsAtClear
    split
    · next sp hsp => simp [applyPatch_target _ (stageable_target (h.staged sp hsp).stageable)]
    · rfl
  have hoff := laneOk_off (ln := { ln with settings := settingsAtClear ln }) hset
  have hstate : stateAtClear ln ≠ .active := by unfold stateAtClear; split <;> (try split) <;> simp
  exact { hoff with
    off := fun e => by
      have e : stateAtClear ln = .off := e
      simp only [clearLane, e]; rfl
    arming := fun _ => ⟨rfl, rfl, rfl, rfl, rfl, rfl, rfl⟩
    active := fun e => absurd e hstate
    anchor := fun e => absurd e hstate
    target := fun e => by
      have hne : ln.state ≠ .off := by
        intro hl; apply e; simp [clearLane, stateAtClear, hl]
      simpa [clearLane, htarget] using h.target hne }

/-! ### The walk (R136, R137) -/

/-- What a walk leaves: a lane within its bounds, of the kind and target it had; OFF where a disable took effect, and
only there. -/
structure WalkedOk (ln : Lane) (w : Walked) : Prop where
  ok : LaneOk w.lane
  kind : w.lane.settings.kind = ln.settings.kind
  target : w.lane.settings.target = ln.settings.target
  stays : w.wentOff = none → (w.lane.state = .off ↔ ln.state = .off)
  off : w.wentOff ≠ none → ln.state ≠ .off ∧ w.lane.state = .off

theorem WalkedOk.sameHold {ln : Lane} {w : Walked} (h : WalkedOk ln w) (hw : w.wentOff = none) : SameHold ln w.lane :=
  SameHold.of_eq (h.stays hw) h.kind h.target

theorem walkedOk_takeItem {ln : Lane} (h : LaneOk ln) {i : WalkItem} (hi : i ∈ laneItems ln) (g : Grid) (count : Frame) :
    WalkedOk ln (takeItem g count i ln) := by
  have hh := laneItems_holds hi
  cases i with
  | activation a =>
    obtain ⟨hs, ha⟩ := hh
    have hact : ∀ p, WalkedOk ln ⟨activateLane p ln, none⟩ := fun p =>
      ⟨h.activate hs p, rfl, rfl, fun _ => by simp [activateLane, hs], by simp⟩
    cases a with
    | position p => exact hact p
    | barStart b =>
      simp only [takeItem]
      split
      · exact hact _
      · exact ⟨{ h with
            off := fun e => by simp [hs] at e
            active := fun e => by simp [hs] at e }, rfl, rfl, fun _ => Iff.rfl, by simp⟩
  | staged sp =>
    obtain ⟨hs, hsp⟩ := hh
    have hok := h.applyStaged hs hsp sp.boundary.beat
    obtain ⟨hst, hk, ht⟩ := applyStaged_keeps h hsp sp.boundary.beat
    simp only [takeItem]
    split
    · split
      · exact ⟨laneOk_off hok.settings, hk, ht, by simp, fun _ => ⟨by simp [hs], rfl⟩⟩
      · exact ⟨hok, hk, ht, fun _ => by rw [hst], by simp⟩
    · exact ⟨{ h with
          staged := by rintro sp' ⟨⟩; exact h.staged sp hsp
          off := fun e => by simp [hs] at e
          arming := fun e => by simp [hs] at e }, rfl, rfl, fun _ => Iff.rfl, by simp⟩
  | disable d =>
    obtain ⟨hs, hd⟩ := hh
    simp only [takeItem]
    split
    · exact ⟨laneOk_off h.settings, rfl, rfl, by simp, fun _ => ⟨by simp [hs], rfl⟩⟩
    · exact ⟨{ h with
          off := fun e => by simp [hs] at e
          arming := fun e => by simp [hs] at e }, rfl, rfl, fun _ => Iff.rfl, by simp⟩
  | point n =>
    obtain ⟨hst, hset⟩ := takePoint_keeps g count n ln
    exact ⟨h.takePoint hh.1 g count n, by simp [takeItem, hset], by simp [takeItem, hset],
      fun _ => by simp [takeItem, hst], by simp [takeItem]⟩

theorem walkedOk_walk {ln : Lane} (h : LaneOk ln) (g : Grid) (count : Frame) (n : Nat) :
    WalkedOk ln (walk g count n ln) := by
  induction n generalizing ln with
  | zero => exact ⟨h, rfl, rfl, fun _ => Iff.rfl, fun hn => absurd rfl hn⟩
  | succ n ih =>
    unfold walk
    split
    · exact ⟨h, rfl, rfl, fun _ => Iff.rfl, fun hn => absurd rfl hn⟩
    · next i hi =>
      have hw := walkedOk_takeItem h (nextItem_mem hi) g count
      dsimp only
      split
      · exact hw
      · next hnone =>
        have hrest := ih hw.ok
        exact ⟨hrest.ok, hrest.kind.trans hw.kind, hrest.target.trans hw.target,
          fun e => (hrest.stays e).trans (hw.stays hnone),
          fun e => ⟨fun hl => (hrest.off e).1 ((hw.stays hnone).2 hl), (hrest.off e).2⟩⟩

end Sys2Proof.Machine
end

section
/-! PROOF. Safe states kept by what happens to lanes, pins and ports: disables, enables, the walk and the emission of a
frame event, the lane requests, and the moments of a lane. -/

namespace Sys2Proof.Machine

/-! ### A lane takes and releases its pin (R153, R160) -/

theorem PinsOk.release {s t : State} {l : LaneId} (h : PinsOk s) (hoff : (t.lane l).state = .off)
    (hother : ∀ m, m ≠ l → t.lane m = s.lane m)
    (hpin : ∀ p, holdsPin s l p → t.pin p = pinReleased (s.pin p))
    (hkeep : ∀ p, ¬ holdsPin s l p → t.pin p = s.pin p) : PinsOk t := by
  have hback : ∀ {m p}, holdsPin t m p → m ≠ l ∧ holdsPin s m p := by
    intro m p hm
    have hne : m ≠ l := by rintro rfl; exact hm.1 hoff
    exact ⟨hne, by unfold holdsPin at hm ⊢; rwa [hother m hne] at hm⟩
  have hforth : ∀ {m p}, m ≠ l → holdsPin s m p → holdsPin t m p := by
    intro m p hne hm; unfold holdsPin at hm ⊢; rwa [hother m hne]
  refine ⟨fun p => ?_, fun a b p ha hb => h.unique a b p (hback ha).2 (hback hb).2, fun p => ?_, fun p => ?_⟩
  · by_cases hp : holdsPin s l p
    · rw [hpin p hp]
      simp only [pinReleased, false_iff, reduceCtorEq]
      rintro ⟨m, hm⟩
      exact (hback hm).1 (h.unique _ _ p (hback hm).2 hp)
    · rw [hkeep p hp, h.lane p]
      constructor
      · rintro ⟨m, hm⟩
        exact ⟨m, hforth (by rintro rfl; exact hp hm) hm⟩
      · rintro ⟨m, hm⟩; exact ⟨m, (hback hm).2⟩
  · by_cases hp : holdsPin s l p
    · have hfun := (h.lane p).2 ⟨l, hp⟩
      have hsrc := h.source p
      rw [hpin p hp]
      simp_all [pinReleased]
    · rw [hkeep p hp]; exact h.source p
  · by_cases hp : holdsPin s l p
    · rw [hpin p hp]; simp [pinReleased]
    · rw [hkeep p hp]; exact h.timer p

theorem PinsOk.take {s t : State} {l : LaneId} (h : PinsOk s) (hoff : (s.lane l).state = .off)
    (hother : ∀ m, m ≠ l → t.lane m = s.lane m) (hfree : ∀ m p, holdsPin t l p → ¬ holdsPin s m p)
    (hpin : ∀ p, holdsPin t l p → t.pin p = pinTaken (s.pin p))
    (hkeep : ∀ p, ¬ holdsPin t l p → t.pin p = s.pin p) : PinsOk t := by
  have hback : ∀ {m p}, m ≠ l → holdsPin t m p → holdsPin s m p := by
    intro m p hne hm; unfold holdsPin at hm ⊢; rwa [hother m hne] at hm
  have hforth : ∀ {m p}, holdsPin s m p → m ≠ l ∧ holdsPin t m p := by
    intro m p hm
    have hne : m ≠ l := by rintro rfl; exact hm.1 hoff
    exact ⟨hne, by unfold holdsPin at hm ⊢; rwa [hother m hne]⟩
  refine ⟨fun p => ?_, fun a b p ha hb => ?_, fun p => ?_, fun p => ?_⟩
  · by_cases hp : holdsPin t l p
    · rw [hpin p hp]; simp only [pinTaken, true_iff]; exact ⟨l, hp⟩
    · rw [hkeep p hp, h.lane p]
      constructor
      · rintro ⟨m, hm⟩; exact ⟨m, (hforth hm).2⟩
      · rintro ⟨m, hm⟩; exact ⟨m, hback (by rintro rfl; exact hp hm) hm⟩
  · by_cases ha' : a = l
    · by_cases hb' : b = l
      · rw [ha', hb']
      · exact absurd (hback hb' hb) (hfree b p (ha' ▸ ha))
    · by_cases hb' : b = l
      · exact absurd (hback ha' ha) (hfree a p (hb' ▸ hb))
      · exact h.unique a b p (hback ha' ha) (hback hb' hb)
  · by_cases hp : holdsPin t l p
    · rw [hpin p hp]; simp [pinTaken]
    · rw [hkeep p hp]; exact h.source p
  · by_cases hp : holdsPin t l p
    · rw [hpin p hp]; simp [pinTaken]
    · rw [hkeep p hp]; exact h.timer p

/-- What a release does, by the kind and the target of the lane (R160, R170). -/
theorem releaseTarget_cases (x : Settings) (e : Bool) (s : State) :
    (∃ p, x.kind = .pin ∧ x.target = .pin p ∧ releaseTarget x e s = s.setPin p (pinReleased (s.pin p))) ∨
    (∃ p, x.kind = .stream ∧ x.target = .port p ∧ e = true ∧
      releaseTarget x e s = s.setPort p (portTransport x.codes.stop (s.port p))) ∨
    (∀ p, ¬ (x.kind = .pin ∧ x.target = .pin p)) ∧ releaseTarget x e s = s := by
  unfold releaseTarget
  split
  · next p hk ht => exact .inl ⟨p, hk, ht, rfl⟩
  · next p hk ht =>
    split
    · next he => exact .inr (.inl ⟨p, hk, ht, he, rfl⟩)
    · exact .inr (.inr ⟨by simp [hk], rfl⟩)
  · next h1 h2 => exact .inr (.inr ⟨fun p hp => h1 p hp.1 hp.2, rfl⟩)

/-- A lane that goes OFF releases the pin it held (R112, R160, R170). -/
theorem Safe.laneGoesOff {s : State} (h : Safe s) {l : LaneId} {ln : Lane} (hwas : (s.lane l).state ≠ .off)
    (hln : LaneOk ln) (hoff : ln.state = .off) (hk : ln.settings.kind = (s.lane l).settings.kind)
    (ht : ln.settings.target = (s.lane l).settings.target) (e : Bool) :
    Safe (releaseTarget ln.settings e (s.setLane l ln)) := by
  have hlanes : LanesOk (s.setLane l ln) := ⟨fun m => by rw [setLane_lane]; split; exacts [hln, h.lanes.lane m]⟩
  have hholds : ∀ p, holdsPin s l p ↔ ln.settings.kind = .pin ∧ ln.settings.target = .pin p := by
    intro p; unfold holdsPin; rw [hk, ht]; simp [hwas]
  have hpins : ∀ v : Vector Pin 8, (∀ p : PinId, holdsPin s l p → v[p] = pinReleased (s.pin p)) →
      (∀ p : PinId, ¬ holdsPin s l p → v[p] = s.pin p) → Safe { s.setLane l ln with pins := v } := fun v h1 h2 =>
    safe_edit (lanes := hlanes.of_eq fun _ => rfl)
      (pins := h.pins.release (l := l) (by show ((s.setLane l ln).lane l).state = .off; rw [setLane_lane_same]; exact hoff)
        (fun m hm => by show (s.setLane l ln).lane m = s.lane m; exact setLane_lane_ne _ _ _ _ hm) h1 h2)
  rcases releaseTarget_cases ln.settings e (s.setLane l ln) with ⟨p, hkp, htp, heq⟩ | ⟨p, hkp, htp, -, heq⟩ | ⟨hno, heq⟩
  · rw [heq]
    refine hpins _ (fun q hq => ?_) fun q hq => ?_
    · obtain rfl : p = q := by simpa [htp] using ((hholds q).1 hq).2
      exact setPin_pin_same _ _ _
    · exact setPin_pin_ne s p q _ (by rintro rfl; exact hq ((hholds q).2 ⟨hkp, htp⟩))
  · rw [heq]
    have hs : Safe (s.setLane l ln) :=
      hpins s.pins (fun q hq => by simp [((hholds q).1 hq).1] at hkp) fun _ _ => rfl
    exact hs.setPort (hs.ports.port p).transport
  · rw [heq]
    exact hpins s.pins (fun q hq => absurd ((hholds q).1 hq) (hno q)) fun _ _ => rfl

theorem Safe.disableLane {s : State} (h : Safe s) {l : LaneId} (hs : (s.lane l).state ≠ .off) :
    Safe (disableLane l s) :=
  h.laneGoesOff (ln := laneOff (s.lane l)) hs (laneOk_off (h.lanes.lane l).settings) rfl rfl rfl _

/-- A walk's result written back (R137, R160). -/
theorem Safe.putWalked {s : State} (h : Safe s) {l : LaneId} {w : Walked} (hw : WalkedOk (s.lane l) w) :
    Safe (putWalked l w s) := by
  unfold Machine.putWalked
  split
  · next hn => exact h.setLane hw.ok (hw.sameHold hn)
  · next e he =>
    obtain ⟨hwas, hoff⟩ := hw.off (by simp [he])
    exact h.laneGoesOff hwas hw.ok hoff hw.kind hw.target e

/-! ### The frame event of a lane (R136, R143) -/

theorem Safe.walkLane {s : State} (h : Safe s) (l : LaneId) : Safe (walkLane l s) :=
  h.putWalked (walkedOk_walk (h.lanes.lane l) _ _ _)

theorem pinStays_emission (g : Grid) (count : Frame) (x : Settings) (e : Emitted) (p : Pin) :
    PinStays p (pinEmission g count x e p) := by
  have hoff : PinStays p { p with timing := false } := ⟨rfl, rfl, nofun⟩
  unfold pinEmission waveformActs
  split
  · exact PinStays.refl p
  · split
    · exact hoff.trans (pinStays_activate _ _ _)
    · exact hoff.trans (pinStays_activate _ _ _)
    · exact hoff.trans ⟨rfl, rfl, nofun⟩
    · exact hoff.trans ⟨rfl, rfl, nofun⟩

theorem Safe.deliver {s : State} (h : Safe s) (l : LaneId) (x : Settings) (e : Emitted) : Safe (deliver l x e s) := by
  unfold Machine.deliver
  split
  · exact h.setPin (pinStays_emission _ _ _ _ _)
  · exact h.setPort (h.ports.port _).emission
  · split
    · exact h
    · next hn => exact h.setLink (linkStays_placeBeat (by simp at hn; exact hn.2) _)
  · exact h

theorem Safe.emitLane {s : State} (h : Safe s) (l : LaneId) : Safe (emitLane l s) := by
  unfold Machine.emitLane
  split
  · exact h
  · next r rest hq =>
    split
    · exact (h.setLane ((h.lanes.lane l).emitted hq s.fru.count) (SameHold.refl _)).deliver _ _ _
    · exact h

theorem Safe.laneFrame {s : State} (h : Safe s) (l : LaneId) : Safe (laneFrame l s) := by
  unfold Machine.laneFrame
  split
  · exact h
  · exact (h.walkLane l).emitLane l

theorem Safe.foldl {α : Type} {f : State → α → State} (hf : ∀ s a, Safe s → Safe (f s a)) {s : State} (h : Safe s)
    (l : List α) : Safe (l.foldl f s) := by
  induction l generalizing s with
  | nil => exact h
  | cons a rest ih => exact ih (hf s a h)

theorem Safe.lanesFrame {s : State} (h : Safe s) (named : List LaneId) : Safe (lanesFrame named s) :=
  h.foldl (fun _ l hs => hs.laneFrame l) _

/-! ### The moments of a lane (R111, R120, R122, R145) -/

theorem Safe.takeDue {s : State} (h : Safe s) {l : LaneId} {i : WalkItem} (hi : dueItem l s = some i) :
    Safe (takeDue l i s) := by
  unfold dueItem at hi
  split at hi
  · cases hi
  · exact h.putWalked (walkedOk_takeItem (h.lanes.lane l) (nextItem_mem hi) _ _)

theorem Safe.activationMoment {s : State} (h : Safe s) (l : LaneId) : Safe (activationMoment l s) := by
  unfold Machine.activationMoment
  split
  · next hd => split; exacts [h.takeDue hd, h]
  · exact h

theorem Safe.stagedMoment {s : State} (h : Safe s) (l : LaneId) : Safe (stagedMoment l s) := by
  unfold Machine.stagedMoment
  split
  · next hd => split; exacts [h.takeDue hd, h]
  · exact h

theorem Safe.disableMoment {s : State} (h : Safe s) (l : LaneId) : Safe (disableMoment l s) := by
  unfold Machine.disableMoment
  split
  · next hd => split; exacts [h.takeDue hd, h]
  · exact h

/-! ### The common checks of a lane request (R113, R115) -/

theorem Safe.setLatch {s : State} (h : Safe s) (st : Station) (kind : Byte) : Safe (setLatch st kind s) :=
  (h.withCode s.lead.code _).showSource _

theorem Safe.checkedLane {s : State} (h : Safe s) {st : Station} {f : List Byte} {act : LaneId → State → State × Reply}
    (ha : ∀ l, laneField f = some l → Safe (act l s).1) : Safe (withLane st f act s).1 := by
  unfold withLane
  split
  · exact h
  · split
    · exact h
    · next hl => exact ha _ hl

theorem Safe.owned {s : State} (h : Safe s) {st : Station} {l : LaneId} {kind : Byte} {force : Bool} {code : BitVec 16}
    {act : State → State × Reply} (ha : Safe (act s).1) : Safe (owned st l kind force code act s).1 := by
  unfold Machine.owned
  split
  · next hr =>
    unfold ownerRefusal at hr
    repeat' split at hr
    all_goals cases hr
    all_goals first | exact h | exact h.setLatch _ _
  · exact ha

/-! ### LANE_SET (R116 to R119) -/

theorem readTarget_fits {k : LaneKind} {n : Nat} {t : Target} (h : readTarget k n = some t) : targetFits k t = true := by
  unfold readTarget at h
  split at h
  · cases h; cases k <;> rfl
  · cases k <;> (simp only at h; split at h <;> cases h; rfl)

/-- What a Lane Set's fields carry, where they were read (R116 check 2). -/
theorem readPatch_carries {f : List Byte} {k : LaneKind} {p : Patch} (h : readPatch f k = some p) :
    (p.kind = if carries f 0 then some k else none) ∧ (∀ v, p.target = some v → targetFits k v = true) ∧
      (carries f 1 = false → p.target = none) := by
  unfold readPatch at h
  split at h
  · next target rate align waveform polarity barCode ht _ _ _ _ _ =>
    cases h
    refine ⟨rfl, fun v hv => ?_, fun hc => ?_⟩
    · unfold carriedField at ht
      split at ht
      · simp only [Option.map_eq_some_iff] at ht
        obtain ⟨a, ha, rfl⟩ := ht
        cases hv
        exact readTarget_fits ha
      · cases ht; cases hv
    · unfold carriedField at ht
      rw [hc] at ht
      cases ht; rfl
  · cases h

/-- What stays of a lane's hold where a patch carries neither kind nor target. -/
theorem writePatch_keeps {p : Patch} (x : Settings) (hk : p.kind = none) (ht : p.target = none) :
    (writePatch p x).kind = x.kind ∧ (writePatch p x).target = x.target := by
  simp [writePatch, hk, applyPatch, ht]

theorem laneOk_stagePatch {ln : Lane} (h : LaneOk ln) (hs : ln.state = .active) {p : Patch}
    (hp : PatchOk ln.settings.kind p) (g : Grid) (a : ApplyAt) : LaneOk (stagePatch g a p ln) := by
  have hstaged : ∀ d, LaneOk { ln with staged := some ⟨p, d⟩ } := fun d => { h with
    staged := by rintro sp ⟨⟩; exact hp
    off := fun e => by simp [hs] at e
    arming := fun e => by simp [hs] at e }
  cases a with
  | now => exact { h with
      settings := h.settings.applyStageable hp
      staged := by rintro sp ⟨⟩
      off := fun e => by simp [stagePatch, applyNow, hs] at e
      arming := fun e => by simp [stagePatch, applyNow, hs] at e
      active := fun _ => ⟨(h.active hs).1, by
        simp only [stagePatch, applyNow]; split
        exacts [rfl, (h.active hs).2]⟩
      anchor := fun _ => anchorAfter_isSome (rate_of_not_carried ln.settings) (h.anchor hs)
      target := fun _ => by
        simp only [stagePatch, applyNow, settledSwing_target, applyPatch_target _ (stageable_target hp.stageable)]
        exact h.target (by simp [hs]) }
  | nextBeat => exact hstaged _
  | nextBar => exact hstaged _

/-- A clamped patch set on a lane, of a kind and a target carried only while it is OFF (R116, R117 to R119). -/
theorem LaneOk.setPatch {ln : Lane} (h : LaneOk ln) {k : LaneKind} {p : Patch}
    (hc : CarriedOk k (clampPatch k ln.settings.rate p)) (hk : p.kind.getD ln.settings.kind = k)
    (hlive : ln.state ≠ .off → p.kind = none ∧ p.target = none) (g : Grid) (a : ApplyAt) :
    LaneOk (setPatch g a (clampPatch k ln.settings.rate p) ln) := by
  have hw := h.settings.writePatch hc hk
  unfold Machine.setPatch
  split
  · next hs =>
    exact { h with
      settings := hw
      staged := fun sp hsp => by rw [h.off hs] at hsp; cases hsp
      off := fun e => by conv_lhs => rw [h.off e]
                         rfl
      anchor := fun e => by simp [hs] at e
      target := fun e => absurd hs e }
  · next hs =>
    obtain ⟨hpk, hpt⟩ := hlive (by simp [hs])
    obtain ⟨-, htgt⟩ := writePatch_keeps (p := clampPatch k ln.settings.rate p) ln.settings hpk hpt
    exact { h with
      settings := hw
      staged := fun sp hsp => by simp [(h.arming hs).2.1] at hsp
      off := fun e => by simp [hs] at e
      active := fun e => by simp [hs] at e
      anchor := fun e => by simp [hs] at e
      target := fun e => by simpa [htgt] using h.target e }
  · next hs =>
    obtain ⟨hpk, hpt⟩ := hlive (by simp [hs])
    have hkind : ln.settings.kind = k := by simpa [hpk] using hk
    have himm : CarriedOk ln.settings.kind (immediatePart (clampPatch k ln.settings.rate p)) := {
      kind := nofun, target := nofun, fits := by simp [fitsKind, immediatePart], rate := nofun, swing := nofun
      offset := nofun, width := nofun, accent := nofun, spacing := hc.spacing }
    have hfit := h.settings.fit.applyPatch himm
    have hln : LaneOk { ln with settings := applyPatch (immediatePart (clampPatch k ln.settings.rate p)) ln.settings } := {
      h with
      settings := { hfit with rate := h.settings.rate, noSwing := h.settings.noSwing }
      off := fun e => by simp [hs] at e }
    dsimp only
    split
    · exact hln
    · exact laneOk_stagePatch hln hs (p := stageablePart (clampPatch k ln.settings.rate p))
        (by rw [← hkind] at hc ⊢; exact hc.stageable) g a

/-- A patch of neither kind nor target leaves a live lane's state, kind and target. -/
theorem setPatch_keeps {ln : Lane} {p : Patch} (hk : p.kind = none) (ht : p.target = none) (g : Grid) (a : ApplyAt) :
    (setPatch g a p ln).state = ln.state ∧ (setPatch g a p ln).settings.kind = ln.settings.kind ∧
      (setPatch g a p ln).settings.target = ln.settings.target := by
  obtain ⟨hwk, hwt⟩ := writePatch_keeps ln.settings hk ht
  unfold setPatch
  split
  · exact ⟨rfl, hwk, hwt⟩
  · exact ⟨rfl, hwk, hwt⟩
  · dsimp only
    split
    · exact ⟨rfl, rfl, rfl⟩
    · cases a <;>
        simp [stagePatch, applyNow, immediatePart, applyPatch, stageablePart]

theorem setPatch_off {ln : Lane} {p : Patch} (hs : ln.state = .off) (g : Grid) (a : ApplyAt) :
    (setPatch g a p ln).state = .off := by
  simp [setPatch, hs]

theorem LaneOk.withOwner {ln : Lane} (h : LaneOk ln) (o : Option Station) : LaneOk { ln with owner := o } :=
  { h with off := fun e => by conv_lhs => rw [h.off e]
                              rfl }

theorem Safe.laneSetChecked {s : State} (h : Safe s) (st : Station) (f : List Byte) (l : LaneId) :
    Safe (laneSetChecked st f l s).1 := by
  unfold Machine.laneSetChecked
  dsimp only
  split
  · exact h
  · next hlive =>
    split
    · next k a hk ha =>
      split
      · next p hp =>
        split
        · next hfit =>
          obtain ⟨hpk, hpt, hnt⟩ := readPatch_carries hp
          have hkind : p.kind.getD (s.lane l).settings.kind = k := by
            rw [hpk]
            unfold kindAfter at hk
            split at hk
            · next hc => simp [hc]
            · next hc => simpa [hc] using hk
          have hnone : (s.lane l).state ≠ .off → p.kind = none ∧ p.target = none := fun hs => by
            simp [hs] at hlive
            exact ⟨by simp [hpk, hlive.1.1], hnt hlive.1.2⟩
          have hc : CarriedOk k (clampPatch k (s.lane l).settings.rate p) :=
            carriedOk_clampPatch (fun v hv => by rw [hpk] at hv; split at hv <;> simp_all) hpt hfit
          have hok := (h.lanes.lane l).setPatch hc hkind hnone s.grid a
          have hhold : SameHold (s.lane l) (setPatch s.grid a (clampPatch k (s.lane l).settings.rate p) (s.lane l)) := by
            by_cases hs : (s.lane l).state = .off
            · have := setPatch_off (p := clampPatch k (s.lane l).settings.rate p) hs s.grid a
              exact ⟨fun e => absurd this e.1, fun e => absurd hs e.1⟩
            · obtain ⟨hk', ht'⟩ := hnone hs
              obtain ⟨h1, h2, h3⟩ := setPatch_keeps (ln := s.lane l) (p := clampPatch k (s.lane l).settings.rate p)
                hk' ht' s.grid a
              exact SameHold.of_eq (by rw [h1]) h2 h3
          unfold laneSetWith
          dsimp only
          split
          · exact h.setLane (hok.withOwner _) hhold
          · exact h.setLane hok hhold
        · exact h
      · exact h
    · exact h

theorem Safe.laneSetOwner {s : State} (h : Safe s) (st : Station) (f : List Byte) : Safe (laneSetOwner st f s).1 :=
  h.checkedLane fun l _ => h.owned (h.laneSetChecked st f l)

/-! ### LANE_ENABLE (R121) -/

/-- No other lane holds the pin a lane would take, where the check of R121 passes. -/
theorem pinTakenBy_none {s : State} {l : LaneId} {p : PinId} (hn : pinTakenBy s l (s.lane l).settings = none)
    (hk : (s.lane l).settings.kind = .pin) (ht : (s.lane l).settings.target = .pin p) (m : LaneId) (hm : m ≠ l) :
    ¬ holdsPin s m p := by
  simp only [pinTakenBy, hk, ht, otherHolder, List.find?_eq_none, List.mem_finRange, forall_true_left] at hn
  have := hn m
  simp only [decide_eq_true_eq] at this
  exact fun hh => this ⟨hm, hh⟩

theorem takeTarget_cases (x : Settings) (s : State) :
    (∃ p, x.kind = .pin ∧ x.target = .pin p ∧ takeTarget x s = s.setPin p (pinTaken (s.pin p))) ∨
    (∀ p, ¬ (x.kind = .pin ∧ x.target = .pin p)) ∧ takeTarget x s = s := by
  unfold takeTarget
  split
  · next p hk ht => exact .inl ⟨p, hk, ht, rfl⟩
  · next h1 => exact .inr ⟨fun p hp => h1 p hp.1 hp.2, rfl⟩

theorem Safe.enableLane {s : State} (h : Safe s) {l : LaneId} (hs : (s.lane l).state = .off)
    (ht : (s.lane l).settings.target ≠ .none) (hn : pinTakenBy s l (s.lane l).settings = none) : Safe (enableLane l s) := by
  have hl := h.lanes.lane l
  have hoff := hl.off hs
  have hln : LaneOk { s.lane l with
      state := .arming, activation := activationFor s.grid (s.lane l).settings, owed := joinMark s.tc } := {
    hl with
    off := by rintro ⟨⟩
    arming := fun _ => by
      show (s.lane l).anchor = none ∧ (s.lane l).staged = none ∧ (s.lane l).disable = none ∧
        (s.lane l).nextPoint = none ∧ (s.lane l).queue = [] ∧ (s.lane l).playing = false ∧ (s.lane l).emittedPlaying = false
      rw [hoff]; exact ⟨rfl, rfl, rfl, rfl, rfl, rfl, rfl⟩
    active := by rintro ⟨⟩
    anchor := by rintro ⟨⟩
    target := fun _ => ht }
  unfold Machine.enableLane
  dsimp only
  generalize hx : ({ s.lane l with
      state := .arming, activation := activationFor s.grid (s.lane l).settings, owed := joinMark s.tc } : Lane) = ln at hln ⊢
  have hset : ln.settings = (s.lane l).settings := by rw [← hx]
  have hst : ln.state = .arming := by rw [← hx]
  have hholds : ∀ t : State, t.lane l = ln → ∀ p, holdsPin t l p ↔
      (s.lane l).settings.kind = .pin ∧ (s.lane l).settings.target = .pin p := by
    intro t htl p; unfold holdsPin; rw [htl, hset, hst]; simp
  have hlanes : LanesOk (s.setLane l ln) := ⟨fun m => by rw [setLane_lane]; split; exacts [hln, h.lanes.lane m]⟩
  have hpins : ∀ v : Vector Pin 8,
      (∀ p : PinId, (s.lane l).settings.kind = .pin ∧ (s.lane l).settings.target = .pin p → v[p] = pinTaken (s.pin p)) →
      (∀ p : PinId, ¬ ((s.lane l).settings.kind = .pin ∧ (s.lane l).settings.target = .pin p) → v[p] = s.pin p) →
      Safe { s.setLane l ln with pins := v } := fun v h1 h2 => by
    have hat : State.lane { s.setLane l ln with pins := v } l = ln := setLane_lane_same s l ln
    exact safe_edit (lanes := hlanes.of_eq fun _ => rfl)
      (pins := h.pins.take (l := l) hs (fun m hm => setLane_lane_ne s l m ln hm)
        (fun m p hp hm => by
          obtain ⟨hk, hp⟩ := (hholds _ hat p).1 hp
          exact pinTakenBy_none hn hk hp m (by rintro rfl; exact hm.1 hs) hm)
        (fun p hp => h1 p ((hholds _ hat p).1 hp)) fun p hp => h2 p fun e => hp ((hholds _ hat p).2 e))
  rcases takeTarget_cases (s.lane l).settings (s.setLane l ln) with ⟨p, hkp, htp, heq⟩ | ⟨hno, heq⟩
  · rw [heq]
    refine hpins _ (fun q hq => ?_) fun q hq => ?_
    · obtain rfl : p = q := by simpa [htp] using hq.2
      exact setPin_pin_same _ _ _
    · exact setPin_pin_ne s p q _ (by rintro rfl; exact hq ⟨hkp, htp⟩)
  · rw [heq]
    exact hpins s.pins (fun q hq => absurd hq (hno q)) fun _ _ => rfl

theorem LaneOk.withDisable {ln : Lane} (h : LaneOk ln) (hs : ln.state = .active) (d : Option LaneBoundary) :
    LaneOk { ln with disable := d } :=
  { h with off := fun e => by simp [hs] at e, arming := fun e => by simp [hs] at e }

theorem Safe.laneEnableChecked {s : State} (h : Safe s) (l : LaneId) : Safe (laneEnableChecked l s).1 := by
  unfold Machine.laneEnableChecked
  dsimp only
  split
  · exact h
  · next ht =>
    split
    · exact h
    · next hn =>
      split
      · next hs => exact h.enableLane hs ht hn
      · exact h
      · next hs =>
        split
        · exact h.setLane ((h.lanes.lane l).withDisable hs none) (SameHold.refl _)
        · exact h

theorem Safe.laneEnableOwner {s : State} (h : Safe s) (st : Station) (f : List Byte) : Safe (laneEnableOwner st f s).1 :=
  h.checkedLane fun l _ => h.owned (h.laneEnableChecked l)

/-! ### LANE_DISABLE and LANE_RELEASE (R122, R123) -/

theorem Safe.laneDisableWith {s : State} (h : Safe s) (l : LaneId) (a : ApplyAt) : Safe (laneDisableWith l a s).1 := by
  have hpend : (s.lane l).state = .active → ∀ bar, Safe (pendDisable l bar s).1 := fun hs bar =>
    h.setLane ((h.lanes.lane l).withDisable hs _) (SameHold.refl _)
  unfold Machine.laneDisableWith
  split
  · exact h
  · next hs => exact h.disableLane (by simp [hs])
  · next hs => exact h.disableLane (by simp [hs])
  · next hs => exact hpend hs false
  · next hs => exact hpend hs true

theorem Safe.laneDisableOwner {s : State} (h : Safe s) (st : Station) (f : List Byte) :
    Safe (laneDisableOwner st f s).1 :=
  h.checkedLane fun l _ => h.owned (by
    unfold laneDisableChecked
    split
    · exact h
    · exact h.laneDisableWith l _)

theorem Safe.laneReleaseOwner {s : State} (h : Safe s) (st : Station) (f : List Byte) :
    Safe (laneReleaseOwner st f s).1 :=
  h.checkedLane fun l _ => by
    unfold laneReleaseWith
    split
    · exact h
    · split
      · exact h.setLane ((h.lanes.lane l).withOwner none) (SameHold.refl _)
      · exact h

end Sys2Proof.Machine
end

section
/-! PROOF. The house: what the operations on the grid, the lead and the transport leave alone, and the safe states they
keep: the handover taking effect, the grid start, the crossing and the change of holder. -/

namespace Sys2Proof.Machine

/-! ### What the grid operations leave alone -/

@[simp] theorem setBase_keeps (t : Nat) (g : Grid) :
    (setBase t g).state = g.state ∧ (setBase t g).pos = g.pos ∧ (setBase t g).trim = g.trim ∧
      (setBase t g).glide = g.glide ∧ (setBase t g).meter = g.meter ∧ (setBase t g).pendingMeter = g.pendingMeter ∧
      (setBase t g).barStart = g.barStart ∧ (setBase t g).beatInBar = g.beatInBar ∧
      (setBase t g).barCount = g.barCount ∧ (setBase t g).crossing = g.crossing ∧ (setBase t g).before = g.before :=
  ⟨rfl, rfl, rfl, rfl, rfl, rfl, rfl, rfl, rfl, rfl, rfl⟩

@[simp] theorem tempoChange_keeps (v m : Nat) (g : Grid) :
    (tempoChange v m g).state = g.state ∧ (tempoChange v m g).pos = g.pos ∧ (tempoChange v m g).trim = g.trim ∧
      (tempoChange v m g).meter = g.meter ∧ (tempoChange v m g).pendingMeter = g.pendingMeter ∧
      (tempoChange v m g).barStart = g.barStart ∧ (tempoChange v m g).beatInBar = g.beatInBar ∧
      (tempoChange v m g).barCount = g.barCount ∧ (tempoChange v m g).crossing = g.crossing ∧
      (tempoChange v m g).before = g.before := by
  unfold tempoChange
  split
  · exact ⟨rfl, rfl, rfl, rfl, rfl, rfl, rfl, rfl, rfl, rfl⟩
  · exact ⟨rfl, rfl, rfl, rfl, rfl, rfl, rfl, rfl, rfl, rfl⟩

@[simp] theorem glideStep_keeps (g : Grid) :
    (glideStep g).state = g.state ∧ (glideStep g).pos = g.pos ∧ (glideStep g).trim = g.trim ∧
      (glideStep g).meter = g.meter ∧ (glideStep g).pendingMeter = g.pendingMeter ∧
      (glideStep g).barStart = g.barStart ∧ (glideStep g).beatInBar = g.beatInBar ∧
      (glideStep g).barCount = g.barCount ∧ (glideStep g).crossing = g.crossing ∧ (glideStep g).before = g.before := by
  unfold glideStep
  split
  · exact ⟨rfl, rfl, rfl, rfl, rfl, rfl, rfl, rfl, rfl, rfl⟩
  · dsimp only
    split
    · exact ⟨rfl, rfl, rfl, rfl, rfl, rfl, rfl, rfl, rfl, rfl⟩
    · exact ⟨rfl, rfl, rfl, rfl, rfl, rfl, rfl, rfl, rfl, rfl⟩

@[simp] theorem numberBeat_keeps (g : Grid) :
    (numberBeat g).state = g.state ∧ (numberBeat g).pos = g.pos ∧ (numberBeat g).trim = g.trim ∧
      (numberBeat g).glide = g.glide ∧ (numberBeat g).base = g.base ∧ (numberBeat g).baseInc = g.baseInc ∧
      (numberBeat g).appliedInc = g.appliedInc ∧ (numberBeat g).before = g.before := by
  unfold numberBeat
  split
  · exact ⟨rfl, rfl, rfl, rfl, rfl, rfl, rfl, rfl⟩
  · exact ⟨rfl, rfl, rfl, rfl, rfl, rfl, rfl, rfl⟩

@[simp] theorem downbeat_keeps (e : Int) (p : Beat) (g : Grid) :
    (downbeat e p g).state = g.state ∧ (downbeat e p g).pos = g.pos ∧ (downbeat e p g).trim = g.trim ∧
      (downbeat e p g).base = g.base ∧ (downbeat e p g).baseInc = g.baseInc := by
  unfold downbeat
  generalize (if 0 ≤ e then p else p + 1) = m
  dsimp only
  split
  · exact ⟨rfl, rfl, rfl, rfl, rfl⟩
  · exact ⟨rfl, rfl, rfl, rfl, rfl⟩

/-! ### What the handover and the crossing leave alone -/

/-- The grid and the handover record alone change where a handover takes effect (R82). -/
theorem handoverTakes_eq (s : State) :
    handoverTakes s = { s with
      grid := match s.lead.handover with
        | none => s.grid
        | some h => match handoverTempo h s with
          | some v => tempoChange v h.terms.followGlide s.grid
          | none => s.grid
      lead := { s.lead with handover := none } } := by
  unfold handoverTakes
  cases hh : s.lead.handover with
  | none => dsimp only; rw [← hh]
  | some h => cases handoverTempo h s <;> rfl

@[simp] theorem handoverTakes_keeps (s : State) :
    (handoverTakes s).phase = s.phase ∧ (handoverTakes s).straps = s.straps ∧ (handoverTakes s).fru = s.fru ∧
      (handoverTakes s).followers = s.followers ∧ (handoverTakes s).inputs = s.inputs ∧ (handoverTakes s).tc = s.tc ∧
      (handoverTakes s).lanes = s.lanes ∧ (handoverTakes s).pins = s.pins ∧ (handoverTakes s).ports = s.ports ∧
      (handoverTakes s).links = s.links ∧ (handoverTakes s).rotation = s.rotation ∧ (handoverTakes s).store = s.store ∧
      (handoverTakes s).pending = s.pending ∧ (handoverTakes s).lead = { s.lead with handover := none } := by
  rw [handoverTakes_eq]
  exact ⟨rfl, rfl, rfl, rfl, rfl, rfl, rfl, rfl, rfl, rfl, rfl, rfl, rfl, rfl⟩

@[simp] theorem handoverTakes_grid (s : State) :
    (handoverTakes s).grid.state = s.grid.state ∧ (handoverTakes s).grid.pos = s.grid.pos ∧
      (handoverTakes s).grid.trim = s.grid.trim ∧ (handoverTakes s).grid.meter = s.grid.meter ∧
      (handoverTakes s).grid.pendingMeter = s.grid.pendingMeter ∧ (handoverTakes s).grid.barStart = s.grid.barStart ∧
      (handoverTakes s).grid.beatInBar = s.grid.beatInBar ∧ (handoverTakes s).grid.barCount = s.grid.barCount ∧
      (handoverTakes s).grid.crossing = s.grid.crossing ∧ (handoverTakes s).grid.before = s.grid.before := by
  rw [handoverTakes_eq]
  dsimp only
  repeat' split
  all_goals simp

/-- A handover whose boundary the crossing is not waits (R82). -/
theorem handoverAtCrossing_cases (s : State) :
    handoverAtCrossing s = s ∨ handoverAtCrossing s = handoverTakes s := by
  unfold handoverAtCrossing
  split
  · exact .inl rfl
  · split
    · exact .inr rfl
    · exact .inl rfl

@[simp] theorem handoverAtCrossing_keeps (s : State) :
    (handoverAtCrossing s).phase = s.phase ∧ (handoverAtCrossing s).straps = s.straps ∧
      (handoverAtCrossing s).fru = s.fru ∧ (handoverAtCrossing s).followers = s.followers ∧
      (handoverAtCrossing s).inputs = s.inputs ∧ (handoverAtCrossing s).tc = s.tc ∧
      (handoverAtCrossing s).lanes = s.lanes ∧ (handoverAtCrossing s).pins = s.pins ∧
      (handoverAtCrossing s).ports = s.ports ∧ (handoverAtCrossing s).links = s.links ∧
      (handoverAtCrossing s).rotation = s.rotation ∧ (handoverAtCrossing s).store = s.store ∧
      (handoverAtCrossing s).pending = s.pending ∧ (handoverAtCrossing s).grid.state = s.grid.state ∧
      (handoverAtCrossing s).grid.pos = s.grid.pos ∧ (handoverAtCrossing s).grid.trim = s.grid.trim ∧
      (handoverAtCrossing s).grid.meter = s.grid.meter ∧
      (handoverAtCrossing s).grid.pendingMeter = s.grid.pendingMeter ∧
      (handoverAtCrossing s).grid.barStart = s.grid.barStart ∧
      (handoverAtCrossing s).grid.beatInBar = s.grid.beatInBar ∧
      (handoverAtCrossing s).grid.barCount = s.grid.barCount ∧
      (handoverAtCrossing s).grid.crossing = s.grid.crossing := by
  rcases handoverAtCrossing_cases s with e | e <;> simp [e]

@[simp] theorem transportReached_keeps (s : State) :
    (transportReached s).phase = s.phase ∧ (transportReached s).straps = s.straps ∧ (transportReached s).fru = s.fru ∧
      (transportReached s).grid = s.grid ∧ (transportReached s).followers = s.followers ∧
      (transportReached s).inputs = s.inputs ∧ (transportReached s).lead = s.lead ∧
      (transportReached s).lanes = s.lanes ∧ (transportReached s).ports = s.ports ∧
      (transportReached s).rotation = s.rotation ∧ (transportReached s).store = s.store ∧
      (transportReached s).pending = s.pending := by
  unfold transportReached
  repeat' split
  all_goals simp

@[simp] theorem countSongBar_keeps (s : State) :
    (countSongBar s).phase = s.phase ∧ (countSongBar s).straps = s.straps ∧ (countSongBar s).fru = s.fru ∧
      (countSongBar s).grid = s.grid ∧ (countSongBar s).followers = s.followers ∧ (countSongBar s).inputs = s.inputs ∧
      (countSongBar s).lead = s.lead ∧ (countSongBar s).lanes = s.lanes ∧ (countSongBar s).pins = s.pins ∧
      (countSongBar s).ports = s.ports ∧ (countSongBar s).links = s.links ∧ (countSongBar s).rotation = s.rotation ∧
      (countSongBar s).store = s.store ∧ (countSongBar s).pending = s.pending := by
  unfold countSongBar
  split
  · exact ⟨rfl, rfl, rfl, rfl, rfl, rfl, rfl, rfl, rfl, rfl, rfl, rfl, rfl, rfl⟩
  · exact ⟨rfl, rfl, rfl, rfl, rfl, rfl, rfl, rfl, rfl, rfl, rfl, rfl, rfl, rfl⟩

@[simp] theorem tcCrossing_keeps (s : State) :
    (tcCrossing s).phase = s.phase ∧ (tcCrossing s).straps = s.straps ∧ (tcCrossing s).fru = s.fru ∧
      (tcCrossing s).grid = s.grid ∧ (tcCrossing s).followers = s.followers ∧ (tcCrossing s).inputs = s.inputs ∧
      (tcCrossing s).lead = s.lead ∧ (tcCrossing s).lanes = s.lanes ∧ (tcCrossing s).ports = s.ports ∧
      (tcCrossing s).rotation = s.rotation ∧ (tcCrossing s).store = s.store ∧ (tcCrossing s).pending = s.pending := by
  simp [tcCrossing]

@[simp] theorem pdCrossing_keeps (s : State) :
    (pdCrossing s).phase = s.phase ∧ (pdCrossing s).straps = s.straps ∧ (pdCrossing s).fru = s.fru ∧
      (pdCrossing s).grid = s.grid ∧ (pdCrossing s).followers = s.followers ∧ (pdCrossing s).inputs = s.inputs ∧
      (pdCrossing s).lead = s.lead ∧ (pdCrossing s).tc = s.tc ∧ (pdCrossing s).lanes = s.lanes ∧
      (pdCrossing s).ports = s.ports ∧ (pdCrossing s).links = s.links ∧ (pdCrossing s).rotation = s.rotation ∧
      (pdCrossing s).store = s.store ∧ (pdCrossing s).pending = s.pending := by
  unfold pdCrossing
  dsimp only
  split
  · simp
  · simp

@[simp] theorem startGrid_keeps (t e : Nat) (s : State) :
    (startGrid t e s).phase = s.phase ∧ (startGrid t e s).straps = s.straps ∧ (startGrid t e s).fru = s.fru ∧
      (startGrid t e s).followers = s.followers ∧ (startGrid t e s).inputs = s.inputs ∧
      (startGrid t e s).lead = { s.lead with handover := none } ∧ (startGrid t e s).ports = s.ports ∧
      (startGrid t e s).rotation = s.rotation ∧ (startGrid t e s).store = s.store ∧
      (startGrid t e s).pending = s.pending ∧ (startGrid t e s).grid.state = .running := by
  simp [startGrid, startedGrid]

@[simp] theorem crossingStages_keeps (s : State) :
    (crossingStages s).phase = s.phase ∧ (crossingStages s).straps = s.straps ∧ (crossingStages s).fru = s.fru ∧
      (crossingStages s).followers = s.followers ∧ (crossingStages s).inputs = s.inputs ∧
      (crossingStages s).tc = s.tc ∧ (crossingStages s).lanes = s.lanes ∧ (crossingStages s).pins = s.pins ∧
      (crossingStages s).ports = s.ports ∧ (crossingStages s).links = s.links ∧
      (crossingStages s).rotation = s.rotation ∧ (crossingStages s).store = s.store ∧
      (crossingStages s).pending = s.pending ∧ (crossingStages s).grid.state = s.grid.state ∧
      (crossingStages s).grid.pos = s.grid.pos ∧ (crossingStages s).grid.trim = trimAdvanced s.grid.trim ∧
      (crossingStages s).grid.meter = s.grid.meter ∧
      (crossingStages s).grid.pendingMeter = s.grid.pendingMeter ∧
      (crossingStages s).grid.barStart = s.grid.barStart ∧ (crossingStages s).grid.beatInBar = s.grid.beatInBar ∧
      (crossingStages s).grid.barCount = s.grid.barCount ∧ (crossingStages s).grid.crossing = s.grid.crossing := by
  simp [crossingStages, recompute]

/-- The grid after a crossing is that of its stages on the numbered grid: the notices, the transport and the indicators
leave it. -/
@[simp] theorem beatCrossing_keeps (b : Bool) (s : State) :
    (beatCrossing b s).phase = s.phase ∧ (beatCrossing b s).straps = s.straps ∧ (beatCrossing b s).fru = s.fru ∧
      (beatCrossing b s).followers = s.followers ∧ (beatCrossing b s).inputs = s.inputs ∧
      (beatCrossing b s).lanes = s.lanes ∧ (beatCrossing b s).ports = s.ports ∧
      (beatCrossing b s).rotation = s.rotation ∧ (beatCrossing b s).store = s.store ∧
      (beatCrossing b s).pending = s.pending ∧
      (beatCrossing b s).grid = (crossingStages { s with grid := numberBeat s.grid }).grid ∧
      (beatCrossing b s).lead = (crossingStages { s with grid := numberBeat s.grid }).lead := by
  unfold beatCrossing
  dsimp only
  repeat' split
  all_goals simp

theorem gridFrame_unset {b : Bool} {s : State} (hs : s.grid.state = .unset) : gridFrame b s = s := if_pos hs

/-- A frame event within a beat (R6). -/
theorem gridFrame_within {b : Bool} {s : State} (hs : s.grid.state ≠ .unset)
    (h : s.grid.pos.frac.toNat + s.grid.appliedInc < 4294967296) :
    gridFrame b s = { s with grid := { s.grid with
      pos := s.grid.pos.add s.grid.appliedInc, crossing := .none, before := some s.grid.pos } } := by
  have h : ¬ Config.beatU ≤ s.grid.pos.frac.toNat + s.grid.appliedInc := by simp only [Config.beatU]; omega
  exact (if_neg hs).trans (if_neg h)

/-- A frame event into the next beat (R6, R11). -/
theorem gridFrame_across {b : Bool} {s : State} (hs : s.grid.state ≠ .unset)
    (h : 4294967296 ≤ s.grid.pos.frac.toNat + s.grid.appliedInc) :
    gridFrame b s = beatCrossing b { s with grid := { s.grid with
      pos := s.grid.pos.add s.grid.appliedInc, before := none } } := by
  have h : Config.beatU ≤ s.grid.pos.frac.toNat + s.grid.appliedInc := by simp only [Config.beatU]; omega
  exact (if_neg hs).trans (if_pos h)

/-- The three forms of the Grid Engine's part of a frame event. -/
theorem gridFrame_cases (b : Bool) (s : State) :
    gridFrame b s = s ∨
    (s.grid.state ≠ .unset ∧ gridFrame b s = { s with grid := { s.grid with
      pos := s.grid.pos.add s.grid.appliedInc, crossing := .none, before := some s.grid.pos } }) ∨
    (s.grid.state ≠ .unset ∧ gridFrame b s = beatCrossing b { s with grid := { s.grid with
      pos := s.grid.pos.add s.grid.appliedInc, before := none } }) := by
  by_cases hs : s.grid.state = .unset
  · exact .inl (gridFrame_unset hs)
  · by_cases h : 4294967296 ≤ s.grid.pos.frac.toNat + s.grid.appliedInc
    · exact .inr (.inr ⟨hs, gridFrame_across hs h⟩)
    · exact .inr (.inl ⟨hs, gridFrame_within hs (Nat.not_le.1 h)⟩)

@[simp] theorem gridFrame_keeps (b : Bool) (s : State) :
    (gridFrame b s).phase = s.phase ∧ (gridFrame b s).straps = s.straps ∧ (gridFrame b s).fru = s.fru ∧
      (gridFrame b s).followers = s.followers ∧ (gridFrame b s).inputs = s.inputs ∧
      (gridFrame b s).lanes = s.lanes ∧ (gridFrame b s).ports = s.ports ∧ (gridFrame b s).rotation = s.rotation ∧
      (gridFrame b s).store = s.store ∧ (gridFrame b s).pending = s.pending ∧
      (gridFrame b s).grid.state = s.grid.state := by
  rcases gridFrame_cases b s with e | ⟨-, e⟩ | ⟨-, e⟩ <;> simp [e]

/-! ### The handover, the transport and the crossing keep a safe state -/

/-- In a safe state with a holder a started grid runs (R1). -/
theorem Safe.running {s : State} (h : Safe s) (hh : s.lead.holder.isSome) (hs : s.grid.state ≠ .unset) :
    s.grid.state = .running := by
  cases hg : s.grid.state with
  | unset => exact absurd hg hs
  | running => rfl
  | holdover => simp [h.house.holdover hg] at hh

theorem Safe.holder_of_handover {s : State} (h : Safe s) {w : Handover} (hw : s.lead.handover = some w) :
    s.lead.holder.isSome := by
  have := (h.house.lead.handover w hw).2.2
  cases hh : s.lead.holder <;> simp_all

theorem Safe.handoverTakes {s : State} (h : Safe s) (hs : s.grid.state ≠ .unset) : Safe (handoverTakes s) := by
  unfold Machine.handoverTakes
  split
  · exact h
  · next w hw =>
    obtain ⟨hterms, -, -⟩ := h.house.lead.handover w hw
    have hrun := h.running (h.holder_of_handover hw) hs
    dsimp only
    split
    · next v hv =>
      have hvok : TempoOk v := by
        unfold handoverTempo at hv
        split at hv
        · next ht => cases hv; exact hterms.tempo v ht
        · split at hv
          · exact (h.followers.follower _).estimate_range hv
          · cases hv
      exact (h.withGrid (h.house.grid.tempoChange hrun hvok hterms.followGlide) (by simp)).withoutHandover
    · exact h.withoutHandover

theorem Safe.handoverAtCrossing {s : State} (h : Safe s) (hs : s.grid.state ≠ .unset) :
    Safe (handoverAtCrossing s) := by
  rcases handoverAtCrossing_cases s with e | e <;> rw [e]
  · exact h
  · exact h.handoverTakes hs

theorem Safe.transportReached {s : State} (h : Safe s) : Safe (transportReached s) := by
  unfold Machine.transportReached
  split
  · exact h
  · next p hp =>
    split
    · have hmoving := h.house.transport.pending.1 (by simp [hp])
      have hs : s.grid.state ≠ .unset := fun e => by simp [h.house.unset e] at hmoving
      refine ((h.withTransport ?_ fun e => absurd e hs).showSource _).raiseHouse _
      cases p.kind <;> constructor <;> simp
    · exact h

theorem Safe.countSongBar {s : State} (h : Safe s) : Safe (countSongBar s) := by
  unfold Machine.countSongBar
  split
  · exact h.withTransport { h.house.transport with } h.house.unset
  · exact h

theorem Safe.tcCrossing {s : State} (h : Safe s) : Safe (tcCrossing s) := h.countSongBar.transportReached

theorem Safe.pdCrossing {s : State} (h : Safe s) : Safe (pdCrossing s) := by
  unfold Machine.pdCrossing
  dsimp only
  split
  · exact (h.pulseSource _).pulseSource _
  · exact h.pulseSource _

/-- R8 to R10: a grid that starts under a holder. -/
theorem Safe.startGrid {s : State} (h : Safe s) (hp : s.phase = .running) (hh : s.lead.holder.isSome) {t e : Nat}
    (ht : TempoOk t) (he : e ≤ 4800) : Safe (startGrid t e s) := by
  have hstart : Safe { s with grid := startedGrid t e s.grid } := h.withHouse _ s.lead s.tc { h.house with
    grid := h.house.grid.started ht he
    running := fun _ => hh
    holdover := nofun
    unset := nofun
    before := fun hn => absurd hp hn }
  have htake := hstart.handoverTakes (by simp [startedGrid])
  exact (htake.mapLanes _ (fun _ _ hl => hl.start) fun _ x => sameHold_start x).tcCrossing.pdCrossing

theorem Safe.crossingStages {s : State} (h : Safe s) (hs : s.grid.state ≠ .unset) : Safe (crossingStages s) := by
  have hstep : Safe { s with grid := glideStep s.grid } := h.withGrid (h.house.grid.glideStep hs) (by simp)
  have htake := hstep.handoverAtCrossing (by simpa using hs)
  exact htake.withGrid (htake.house.grid.advanceTrim (by simpa using hs)) rfl

theorem Safe.beatCrossing {s : State} {g : Grid} (h : Safe { s with grid := numberBeat g }) (hs : g.state ≠ .unset)
    (b : Bool) : Safe (beatCrossing b { s with grid := g }) := by
  have hstages := h.crossingStages (by simpa using hs)
  unfold Machine.beatCrossing
  dsimp only
  split
  · split
    · exact (hstages.tcCrossing.raiseHouse _).pdCrossing
    · exact (hstages.raiseHouse _).tcCrossing.pdCrossing
  · exact hstages.tcCrossing.pdCrossing

theorem Safe.gridFrame {s : State} (h : Safe s) (b : Bool) : Safe (gridFrame b s) := by
  by_cases hs : s.grid.state = .unset
  · rw [gridFrame_unset hs]; exact h
  · have hinc := h.house.grid.appliedInc_le hs
    by_cases hcross : 4294967296 ≤ s.grid.pos.frac.toNat + s.grid.appliedInc
    · rw [gridFrame_across hs hcross]
      have hbeat := Pos.add_beat_next (p := s.grid.pos) hcross (by omega)
      have hnum := h.withGrid (h.house.grid.across hs hbeat) (by simp)
      exact hnum.beatCrossing (g := { s.grid with pos := s.grid.pos.add s.grid.appliedInc, before := none }) hs b
    · have hstay := Nat.not_le.1 hcross
      rw [gridFrame_within hs hstay]
      exact h.withGrid (h.house.grid.within hs hstay) rfl

/-! ### The change of holder (R77 to R79, R84) -/

/-- A safe state whose lead is not looked at: what a change of holder starts from. -/
structure Unled (s : State) : Prop where
  fru : FruOk s
  followers : FollowersOk s
  lanes : LanesOk s
  pins : PinsOk s
  ports : PortsOk s
  links : LinksOk s
  store : StoreOk s
  grid : GridOk s.grid
  transport : TransportOk s.tc
  unset : s.grid.state = .unset → s.tc.state = .stopped
  before : s.phase ≠ .running → s.grid.state = .unset

theorem Safe.unled {s : State} (h : Safe s) : Unled s :=
  { h with
    grid := h.house.grid, transport := h.house.transport, unset := h.house.unset, before := h.house.before }

/-- A state is safe once it has a grid of a state that fits its lead. -/
theorem Unled.safe {s : State} (h : Unled s) {g : Grid} {x : Lead} (hg : GridOk g)
    (hu : g.state = .unset ↔ s.grid.state = .unset) (hx : LeadOk x)
    (hr : g.state = .running → x.holder.isSome) (hh : g.state = .holdover → x.holder = none)
    (ha : ∀ i, (s.link i).present = false → (s.link i).lapseReported = false →
      ∀ e ∈ x.holder.toList ++ x.queue, e.station ≠ i) : Safe { s with grid := g, lead := x } where
  fru := h.fru.of_eq rfl rfl
  followers := h.followers.of_eq (fun _ => rfl) fun _ a b => ⟨a, b⟩
  house := {
    grid := hg, lead := hx, transport := h.transport, running := hr, holdover := hh
    unset := fun e => h.unset (hu.1 e), before := fun e => hu.2 (h.before e), absent := ha }
  lanes := h.lanes.of_eq fun _ => rfl
  pins := h.pins.of_stays (fun _ => SameHold.refl _) fun _ => PinStays.refl _
  ports := h.ports.of_eq fun _ => rfl
  links := h.links.of_eq fun _ => rfl
  store := h.store.of_eq rfl fun _ => rfl

theorem Unled.removePhaseError {s : State} (h : Unled s) (st : Station) : Unled (removePhaseError st s) :=
  { h with
    fru := h.fru.of_eq rfl rfl
    followers := ⟨fun i => by
        rw [Machine.removePhaseError, setFollower_follower]; split
        exacts [(h.followers.follower st).withoutPhaseError, h.followers.follower i],
      fun i hp he => by
        have hold := h.followers.absent i hp he
        rw [Machine.removePhaseError, setFollower_follower]; split
        · next e => subst e; rw [hold]; rfl
        · exact hold⟩
    lanes := h.lanes.of_eq fun _ => rfl
    pins := h.pins.of_stays (fun _ => SameHold.refl _) fun _ => PinStays.refl _
    ports := h.ports.of_eq fun _ => rfl
    links := h.links.of_eq fun _ => rfl
    store := h.store.of_eq rfl fun _ => rfl }

theorem Unled.phaseHandOff {s : State} (h : Unled s) : Unled (phaseHandOff s) := by
  unfold Machine.phaseHandOff
  split
  · exact h.removePhaseError _
  · exact h

@[simp] theorem phaseHandOff_keeps (s : State) :
    (phaseHandOff s).phase = s.phase ∧ (phaseHandOff s).straps = s.straps ∧ (phaseHandOff s).fru = s.fru ∧
      (phaseHandOff s).grid = s.grid ∧ (phaseHandOff s).inputs = s.inputs ∧ (phaseHandOff s).lead = s.lead ∧
      (phaseHandOff s).tc = s.tc ∧ (phaseHandOff s).lanes = s.lanes ∧ (phaseHandOff s).pins = s.pins ∧
      (phaseHandOff s).ports = s.ports ∧ (phaseHandOff s).links = s.links ∧
      (phaseHandOff s).rotation = s.rotation ∧ (phaseHandOff s).store = s.store ∧
      (phaseHandOff s).pending = s.pending ∧ ∀ i, (phaseHandOff s).link i = s.link i := by
  unfold phaseHandOff removePhaseError
  split <;> simp

/-- A holder and a queue that a change of holder may write (R64 to R66): terms in range, no station twice, no queue
without a holder. -/
structure Standing (new : Option LeadEntry) (q : List LeadEntry) : Prop where
  terms : ∀ e ∈ new.toList ++ q, TermsOk e.terms
  empty : new = none → q = []
  stations : ((new.toList ++ q).map LeadEntry.station).Nodup

theorem LeadOk.standing {x : Lead} (h : LeadOk x) : Standing x.holder x.queue where
  terms := fun e he => by
    rcases List.mem_append.1 he with he | he
    · exact h.holder e (by simpa using he)
    · exact h.queue e he
  empty := h.empty
  stations := h.stations

theorem Standing.leadOk {new : Option LeadEntry} {q : List LeadEntry} (h : Standing new q) {x : Lead}
    (hx : x.holder = new) (hq : x.queue = q)
    (hw : ∀ w, x.handover = some w → TermsOk w.terms ∧ w.align = w.terms.align ∧
      new.map LeadEntry.station = some w.station) : LeadOk x where
  holder := fun e he => h.terms e (by simp [← hx, he])
  queue := fun e he => h.terms e (List.mem_append_right _ (hq ▸ he))
  empty := fun e => hq.trans (h.empty (hx.symm.trans e))
  stations := by rw [hx, hq]; exact h.stations
  handover := by rw [hx]; exact hw

/-- Step 4 of R77 makes the grid state follow the lead. -/
theorem Unled.gridHandOff {s : State} (h : Unled s) (hp : s.phase = .running) (hx : LeadOk s.lead)
    (ha : ∀ i, (s.link i).present = false → (s.link i).lapseReported = false →
      ∀ e ∈ s.lead.holder.toList ++ s.lead.queue, e.station ≠ i) : Safe (gridHandOff s) := by
  unfold Machine.gridHandOff
  split
  · next hnone =>
    split
    · next hs =>
      exact h.safe (g := enterHoldover s.grid) (x := s.lead) (h.grid.enterHoldover (by simp [hs]))
        (by simp [enterHoldover, removeTrim, hs]) hx (by rintro ⟨⟩) (fun _ => hnone) ha
    · next hs => exact h.safe (g := s.grid) (x := s.lead) h.grid Iff.rfl hx (fun e => absurd e hs) (fun _ => hnone) ha
  · next w hw =>
    have hsome : s.lead.holder.isSome := by simp [hw]
    split
    · next hs =>
      have hsafe : Safe s := h.safe (g := s.grid) (x := s.lead) h.grid Iff.rfl hx (fun e => by simp [hs] at e)
        (fun e => by simp [hs] at e) ha
      split
      · next t ht => exact hsafe.startGrid hp hsome ((hx.holder w hw).tempo t ht) (by omega)
      · exact hsafe
    · next hs =>
      have hs : s.grid.state ≠ .unset := hs
      have hrun : Safe { s with grid := { s.grid with state := .running } } :=
        h.safe (g := { s.grid with state := .running }) (x := s.lead) (h.grid.run hs) (by simp [hs]) hx
          (fun _ => hsome) (by rintro ⟨⟩) ha
      dsimp only
      split
      · exact hrun.handoverTakes (by simp)
      · exact hrun

/-- The change of holder leads to a safe state, whatever the lead was (R77). -/
theorem Unled.changeHolder {s : State} (h : Unled s) (hp : s.phase = .running) {new : Option LeadEntry}
    {q : List LeadEntry} (hn : Standing new q) (r : Reason)
    (ha : ∀ i, (s.link i).present = false → (s.link i).lapseReported = false →
      ∀ e ∈ new.toList ++ q, e.station ≠ i) : Safe (changeHolder new q r s) := by
  unfold Machine.changeHolder
  dsimp only
  refine Safe.raiseHouse (Safe.showSource (Safe.showSource ?_ _) _) _
  have h1 := h.phaseHandOff
  refine Unled.gridHandOff { h1 with
    fru := h1.fru.of_eq rfl rfl
    followers := h1.followers.of_eq (fun _ => rfl) fun _ a b => ⟨a, b⟩
    lanes := h1.lanes.of_eq fun _ => rfl
    pins := h1.pins.of_stays (fun _ => SameHold.refl _) fun _ => PinStays.refl _
    ports := h1.ports.of_eq fun _ => rfl
    links := h1.links.of_eq fun _ => rfl
    store := h1.store.of_eq rfl fun _ => rfl
    grid := h1.grid.removeTrim } (by simpa using hp) (hn.leadOk rfl rfl ?_) (by simpa [State.link] using ha)
  simp only [Option.map_eq_some_iff]
  rintro w ⟨e, rfl, rfl⟩
  exact ⟨hn.terms e (by simp), rfl, e, rfl, rfl⟩

/-- The head of a queue, and the rest of it, may follow the holder that leaves (R79). -/
theorem Standing.promote {new : Option LeadEntry} {e : LeadEntry} {q : List LeadEntry} (h : Standing new (e :: q)) :
    Standing (some e) q where
  terms := fun x hx => h.terms x (List.mem_append_right _ (by simpa using hx))
  empty := nofun
  stations := by
    have := h.stations
    rw [List.map_append] at this
    exact this.of_append_right

theorem standing_none : Standing none [] := ⟨by simp, fun _ => rfl, by simp⟩

theorem Unled.leaveLead {s : State} (h : Unled s) (hp : s.phase = .running) (hx : LeadOk s.lead) (r : Reason)
    (ha : ∀ i, (s.link i).present = false → (s.link i).lapseReported = false → ∀ e ∈ s.lead.queue, e.station ≠ i) :
    Safe (leaveLead r s) := by
  have hst := hx.standing
  unfold Machine.leaveLead
  split
  · next e q hq =>
    rw [hq] at hst ha
    exact h.changeHolder hp hst.promote _ (by simpa using ha)
  · exact h.changeHolder hp standing_none _ (by simp)

theorem Standing.filter {new : Option LeadEntry} {q : List LeadEntry} (h : Standing new q) (st : Station) :
    Standing new (withoutEntry st q) := by
  have hsub : (new.toList ++ withoutEntry st q).Sublist (new.toList ++ q) :=
    (List.Sublist.refl _).append List.filter_sublist
  exact ⟨fun e he => h.terms e (hsub.subset he), fun e => by simp [h.empty e, withoutEntry],
    h.stations.sublist (hsub.map _)⟩

theorem holds_iff (s : State) (st : Station) : holds s st = true ↔ ∃ e, s.lead.holder = some e ∧ e.station = st := by
  simp [holds]

theorem entryOf_isSome (st : Station) (q : List LeadEntry) : (entryOf st q).isSome ↔ ∃ e ∈ q, e.station = st := by
  simp [entryOf, List.find?_isSome]

theorem mem_withoutEntry {st : Station} {q : List LeadEntry} {e : LeadEntry} :
    e ∈ withoutEntry st q ↔ e ∈ q ∧ e.station ≠ st := by
  simp [withoutEntry]

/-- The queue without an entry, under the same holder. -/
theorem Safe.dropEntry {s : State} (h : Safe s) (st : Station) :
    Safe { s with lead := { s.lead with queue := withoutEntry st s.lead.queue } } := by
  refine h.withLead ((h.house.lead.standing.filter st).leadOk rfl rfl h.house.lead.handover) rfl fun e he => .inr ⟨e, ?_, rfl⟩
  rcases List.mem_append.1 he with he | he
  · exact List.mem_append_left _ he
  · exact List.mem_append_right _ (mem_withoutEntry.1 he).1

/-- R84: a reported departure is acted on. -/
theorem Safe.leadLapse {s : State} (h : Safe s) (hp : s.phase = .running) (st : Station) : Safe (leadLapse st s) := by
  unfold Machine.leadLapse
  split
  · next hrep =>
    have hlink : LinkOk { s.link st with lapseReported := false } :=
      { h.links.link st with returned := fun e => ⟨rfl, ((h.links.link st).returned e).2⟩ }
    have habs : ∀ t : State, Safe t → t.link st = s.link st → (∀ e ∈ t.lead.holder.toList ++ t.lead.queue, e.station ≠ st) →
        Safe (t.setLink st { t.link st with lapseReported := false }) := fun t ht heq hno =>
      ht.setLinkAnew (heq ▸ hlink) (fun hn he => ht.followers.absent st hn he) fun _ _ => hno
    unfold lapseStation
    split
    · next hh =>
      obtain ⟨e, he, hst⟩ := (holds_iff _ _).1 hh
      have he : s.lead.holder = some e := he
      have hnd := h.house.lead.stations
      have hu : Unled (s.setLink st { s.link st with lapseReported := false }) := { h.unled with
        fru := h.fru.of_eq rfl rfl
        followers := h.followers.of_eq (fun _ => rfl) fun i hi hei => by
          rw [setLink_link] at hi hei
          split at hi
          · next e => subst e; rw [if_pos rfl] at hei; exact ⟨hi, hei⟩
          · next e => rw [if_neg e] at hei; exact ⟨hi, hei⟩
        lanes := h.lanes.of_eq fun _ => rfl
        pins := h.pins.of_stays (fun _ => SameHold.refl _) fun _ => PinStays.refl _
        ports := h.ports.of_eq fun _ => rfl
        links := ⟨fun i => by rw [setLink_link]; split; exacts [hlink, h.links.link i]⟩
        store := h.store.of_eq rfl fun _ => rfl }
      refine hu.leaveLead hp h.house.lead _ fun i hi hl x hx hxi => ?_
      by_cases hsi : i = st
      · have hx : x ∈ s.lead.queue := hx
        rw [he] at hnd
        simp only [Option.toList_some, List.singleton_append, List.map_cons, List.nodup_cons] at hnd
        exact hnd.1 (List.mem_map.2 ⟨x, hx, by rw [hxi, hsi, hst]⟩)
      · rw [setLink_link_ne _ _ _ _ hsi] at hi hl
        exact h.house.absent i hi hl x (List.mem_append_right _ hx) hxi
    · next hh =>
      have hno : ∀ e ∈ s.lead.holder.toList, e.station ≠ st := by
        intro e he hst
        exact hh ((holds_iff _ _).2 ⟨e, by simpa using he, hst⟩)
      split
      · refine Safe.raiseHouse (habs _ (h.dropEntry st) rfl ?_) _
        intro e he
        rcases List.mem_append.1 he with he | he
        · exact hno e he
        · exact (mem_withoutEntry.1 he).2
      · next hq =>
        refine habs s h rfl fun e he hst => ?_
        rcases List.mem_append.1 he with he | he
        · exact hno e he hst
        · exact hq ((entryOf_isSome _ _).2 ⟨e, he, hst⟩)
  · exact h

/-- R60: a reported departure empties the follower record. -/
theorem Safe.emptyFollower {s : State} (h : Safe s) (st : Station) : Safe (emptyFollower st s) := by
  unfold Machine.emptyFollower
  split
  · have hlink : LinkOk { s.link st with emptyReported := false } :=
      { h.links.link st with returned := fun e => ⟨((h.links.link st).returned e).1, rfl⟩ }
    have hf : Safe (s.setFollower st Follower.empty) := h.setFollower followerOk_empty fun _ _ => rfl
    exact hf.setLinkAnew hlink (fun _ _ => setFollower_follower_same _ _ _) fun hn hl => h.house.absent st hn hl
  · exact h

end Sys2Proof.Machine
end

section
/-! PROOF. Safe states kept by the requests of the Lead Arbiter, the Grid Engine, the Mark Follower and the Transport
Controller, and by the moments of the lead, the marks and the transport. -/

namespace Sys2Proof.Machine

/-! ### The lead requests (R67 to R75) -/

theorem readTerms_ok {f : List Byte} {i : Nat} {t : Terms} {c : Bool} (h : readTerms f i = some (t, c)) : TermsOk t := by
  unfold readTerms at h
  split at h
  · cases h
    have h1 := clampNat_range (lo := 0) (hi := 32) (f1 f (i + 1)) (by omega)
    have h2 := clampNat_range (lo := 0) (hi := 1000) (f2 f (i + 2)) (by omega)
    refine ⟨h1.2, h2.2, clampNat_range _ (by omega), fun v hv => ?_⟩
    dsimp only at hv
    split at hv <;> cases hv
    exact clampNat_range _ (by decide)
  · cases h

theorem termsOk_default : TermsOk Terms.default := ⟨by decide, by decide, by decide, nofun⟩

theorem queueWith_new {st : Station} {t : Terms} {q : List LeadEntry} (h : ∀ e ∈ q, e.station ≠ st) :
    queueWith st t q = q ++ [⟨st, t⟩] := by
  have hn : ¬ (entryOf st q).isSome := by
    rw [entryOf_isSome]
    rintro ⟨e, he, hst⟩
    exact h e he hst
  simp [queueWith, hn]

theorem queueWith_held {st : Station} {t : Terms} {q : List LeadEntry} (h : ∃ e ∈ q, e.station = st) :
    queueWith st t q = q.map fun e => if e.station = st then ⟨st, t⟩ else e :=
  if_pos ((entryOf_isSome st q).2 h)

/-- R71: another station in the queue, or new terms for it there. -/
theorem Standing.queueWith {w : LeadEntry} {q : List LeadEntry} (h : Standing (some w) q) {st : Station} {t : Terms}
    (ht : TermsOk t) (hw : w.station ≠ st) : Standing (some w) (queueWith st t q) := by
  by_cases hq : ∃ e ∈ q, e.station = st
  · rw [queueWith_held hq]
    have hst : (q.map fun e => if e.station = st then (⟨st, t⟩ : LeadEntry) else e).map LeadEntry.station =
        q.map LeadEntry.station := by
      rw [List.map_map]
      apply List.map_congr_left
      intro e _
      simp only [Function.comp]
      split <;> simp_all
    refine ⟨fun e he => ?_, nofun, ?_⟩
    · rcases List.mem_append.1 he with he | he
      · exact h.terms e (List.mem_append_left _ he)
      · obtain ⟨e', he', rfl⟩ := List.mem_map.1 he
        split
        · exact ht
        · exact h.terms e' (List.mem_append_right _ he')
    · have := h.stations
      rw [List.map_append] at this ⊢
      rwa [hst]
  · rw [queueWith_new (by simpa using hq)]
    refine ⟨fun e he => ?_, nofun, ?_⟩
    · rw [← List.append_assoc] at he
      rcases List.mem_append.1 he with he | he
      · exact h.terms e he
      · obtain rfl := List.mem_singleton.1 he; exact ht
    · have := h.stations
      rw [← List.append_assoc, List.map_append]
      refine this.append (by simp) ?_
      simp only [List.map_cons, List.map_nil, List.disjoint_singleton]
      simp only [Option.toList_some, List.singleton_append, List.map_cons, List.mem_cons, List.mem_map, not_or]
      exact ⟨fun e => hw e.symm, hq⟩

theorem mem_queueWith {st : Station} {t : Terms} {q : List LeadEntry} {e : LeadEntry} (h : e ∈ queueWith st t q) :
    e.station = st ∨ e ∈ q := by
  by_cases hq : ∃ e ∈ q, e.station = st
  · rw [queueWith_held hq] at h
    obtain ⟨e', he', rfl⟩ := List.mem_map.1 h
    split
    · exact .inl rfl
    · exact .inr he'
  · rw [queueWith_new (by simpa using hq)] at h
    rcases List.mem_append.1 h with h | h
    · exact .inr h
    · obtain rfl := List.mem_singleton.1 h; exact .inl rfl

/-- R70: the holder's terms are replaced. -/
theorem Safe.replaceTerms {s : State} (h : Safe s) (hp : s.phase = .running) {st : Station} {t : Terms} (ht : TermsOk t)
    {w : LeadEntry} (hw : s.lead.holder = some w) (hst : w.station = st) : Safe (replaceTerms st t s) := by
  subst hst
  have hstand : Standing (some ⟨w.station, t⟩) s.lead.queue := by
    have hs := h.house.lead.standing
    rw [hw] at hs
    refine ⟨fun e he => ?_, nofun, hs.stations⟩
    simp only [Option.toList_some, List.singleton_append, List.mem_cons] at he
    rcases he with rfl | he
    · exact ht
    · exact hs.terms e (by simp [he])
  have hgrid : Safe { s with grid := if s.lead.handover.isSome then { s.grid with crossing := .none } else s.grid } := by
    split
    · exact h.withGrid h.house.grid.forgetCrossing rfl
    · exact h
  have hs1 : Safe { s with
      grid := if s.lead.handover.isSome then { s.grid with crossing := .none } else s.grid
      lead := { s.lead with
        holder := some ⟨w.station, t⟩, handover := s.lead.handover.map (handoverTerms t) } } := by
    refine hgrid.withLead (x := { s.lead with
      holder := some ⟨w.station, t⟩, handover := s.lead.handover.map (handoverTerms t) })
      (hstand.leadOk rfl rfl ?_) (by simp [hw]) fun e he => .inr ?_
    · simp only [Option.map_eq_some_iff]
      rintro v ⟨v', hv', rfl⟩
      have hold := (h.house.lead.handover v' hv').2.2
      rw [hw] at hold
      exact ⟨ht, rfl, ⟨w.station, t⟩, rfl, by simpa [handoverTerms] using hold⟩
    · rcases List.mem_append.1 he with he | he
      · obtain rfl : e = ⟨w.station, t⟩ := by simpa using he
        exact ⟨w, by simp [hw], rfl⟩
      · exact ⟨e, List.mem_append_right _ he, rfl⟩
  have hstate : (if s.lead.handover.isSome then { s.grid with crossing := .none } else s.grid).state = s.grid.state := by
    split <;> rfl
  unfold Machine.replaceTerms
  dsimp only
  split
  · split
    · next v hv => exact hs1.startGrid hp rfl (ht.tempo v hv) (by omega)
    · exact hs1
  · next hs =>
    split
    · exact hs1.handoverTakes (by rw [hstate]; exact hs)
    · exact hs1

theorem Safe.takeLeadOwner {s : State} (h : Safe s) (hp : s.phase = .running) (st : Station) (f : List Byte) :
    Safe (takeLeadOwner st f s).1 := by
  unfold Machine.takeLeadOwner
  split
  · exact h
  · next hpres =>
    have hpres : (s.link st).present = true := by simpa using hpres
    split
    · exact h
    · next t c hr =>
      have ht := readTerms_ok hr
      unfold takeLeadWith
      split
      · have hstand : Standing (some ⟨st, t⟩) [] := by
          refine ⟨fun e he => ?_, nofun, by simp⟩
          obtain rfl : e = ⟨st, t⟩ := by simpa using he
          exact ht
        refine h.unled.changeHolder hp hstand _ ?_
        · intro i hi _ e he hei
          obtain rfl : e = ⟨st, t⟩ := by simpa using he
          subst hei
          simp [hpres] at hi
      · next w hw =>
        split
        · next hst => exact h.replaceTerms hp ht hw hst
        · next hst =>
          have hs := h.house.lead.standing
          have hor := h.house.lead.handover
          rw [hw] at hs hor
          refine Safe.raiseHouse (h.withLead ((hs.queueWith ht hst).leadOk (x := { s.lead with queue := queueWith st t s.lead.queue }) hw rfl hor) rfl fun e he => ?_) _
          rcases List.mem_append.1 he with he | he
          · exact .inr ⟨e, List.mem_append_left _ he, rfl⟩
          · rcases mem_queueWith he with hes | he
            · exact .inl (hes ▸ hpres)
            · exact .inr ⟨e, List.mem_append_right _ he, rfl⟩

theorem Safe.leaveLead {s : State} (h : Safe s) (hp : s.phase = .running) (r : Reason) : Safe (leaveLead r s) :=
  h.unled.leaveLead hp h.house.lead r fun i h1 h2 e he => h.house.absent i h1 h2 e (List.mem_append_right _ he)

theorem Safe.yieldOwner {s : State} (h : Safe s) (hp : s.phase = .running) (st : Station) : Safe (yieldOwner st s).1 := by
  unfold Machine.yieldOwner
  split
  · exact h
  · split
    · exact h.leaveLead hp _
    · split
      · exact (h.dropEntry st).raiseHouse _
      · exact h

theorem Safe.seizeWith {s : State} (h : Safe s) (hp : s.phase = .running) {st : Station} {t : Terms} (ht : TermsOk t)
    (hpres : (s.link st).present = true) (c : Bool) : Safe (seizeWith st t c s).1 := by
  have hs := h.house.lead.standing
  have hstand : Standing (some ⟨st, t⟩) (withoutEntry st s.lead.queue) := by
    refine ⟨fun e he => ?_, nofun, ?_⟩
    · rcases List.mem_append.1 he with he | he
      · obtain rfl : e = ⟨st, t⟩ := by simpa using he
        exact ht
      · exact hs.terms e (List.mem_append_right _ (mem_withoutEntry.1 he).1)
    · have hn := (hs.filter st).stations
      rw [List.map_append] at hn
      simp only [Option.toList_some, List.singleton_append, List.map_cons, List.nodup_cons]
      refine ⟨fun hm => ?_, hn.of_append_right⟩
      obtain ⟨e, he, hes⟩ := List.mem_map.1 hm
      exact (mem_withoutEntry.1 he).2 hes
  refine h.unled.changeHolder hp hstand _ ?_
  intro i hi hl e he hei
  rcases List.mem_append.1 he with he | he
  · obtain rfl : e = ⟨st, t⟩ := by simpa using he
    subst hei
    simp [hpres] at hi
  · exact h.house.absent i hi hl e (List.mem_append_right _ (mem_withoutEntry.1 he).1) hei

theorem Safe.ownTerms {s : State} (h : Safe s) (st : Station) : TermsOk (ownTerms st s) := by
  unfold Machine.ownTerms
  split
  · next e he => exact h.house.lead.queue e (List.mem_of_find?_eq_some he)
  · exact termsOk_default

theorem Safe.seizeOwner {s : State} (h : Safe s) (hp : s.phase = .running) (st : Station) (f : List Byte) :
    Safe (seizeOwner st f s).1 := by
  unfold Machine.seizeOwner
  split
  · exact h
  · next hpres =>
    have hpres : (s.link st).present = true := by simpa using hpres
    split
    · exact h
    · split
      · exact h.setLatch _ _
      · split
        · exact h
        · split
          · exact h.seizeWith hp (h.ownTerms st) hpres _
          · split
            · exact h
            · next hr => exact h.seizeWith hp (readTerms_ok hr) hpres _

theorem Safe.seizeCodeSetOwner {s : State} (h : Safe s) (st : Station) (f : List Byte) :
    Safe (seizeCodeSetOwner st f s).1 := by
  unfold Machine.seizeCodeSetOwner
  split
  · exact h
  · split
    · exact h.setLatch _ _
    · split
      · exact h
      · exact h.withCode _ s.lead.latch

/-! ### The Grid Engine's requests (R23 to R25) -/

theorem holderTerms_some {s : State} {st : Station} {t : Terms} (h : holderTerms s st = some t) :
    s.lead.holder = some ⟨st, t⟩ := by
  unfold holderTerms at h
  split at h
  · next e he =>
    split at h
    · next hst => cases h; subst hst; exact he
    · cases h
  · cases h

theorem holderTerms_of_holder {s : State} {st : Station} {t : Terms} (h : s.lead.holder = some ⟨st, t⟩) :
    holderTerms s st = some t := by
  simp [holderTerms, h]

theorem Safe.tempoOwner {s : State} (h : Safe s) (hp : s.phase = .running) (st : Station) (f : List Byte) :
    Safe (tempoOwner st f s).1 := by
  unfold Machine.tempoOwner
  split
  · exact h
  · next t ht =>
    have hsome : s.lead.holder.isSome := by simp [holderTerms_some ht]
    split
    · exact h
    · have hv : TempoOk (clampNat Config.tempoMin Config.tempoMax (tempoTarget f)) := clampNat_range _ (by decide)
      have hm := clampNat_range (lo := 0) (hi := 32) (tempoGlide f) (by omega)
      unfold tempoWith
      dsimp only
      split
      · exact h.withoutHandover.startGrid hp hsome hv (by omega)
      · next hs =>
        exact (h.withGrid (h.house.grid.tempoChange (h.running hsome hs) hv hm.2) (by simp)).withoutHandover

theorem Safe.nudgeOwner {s : State} (h : Safe s) (st : Station) (f : List Byte) : Safe (nudgeOwner st f s).1 := by
  unfold Machine.nudgeOwner
  split
  · exact h
  · next hh =>
    obtain ⟨e, he, -⟩ := (holds_iff s st).1 (by simpa using hh)
    split
    · exact h
    · next hs =>
      dsimp only
      split
      · exact h
      · exact h.withGrid (h.house.grid.armTrim (h.running (by simp [he]) hs) _ _) rfl

theorem Safe.setMeterOwner {s : State} (h : Safe s) (st : Station) (f : List Byte) : Safe (setMeterOwner st f s).1 := by
  unfold Machine.setMeterOwner
  split
  · exact h
  · split
    · exact h
    · next hr =>
      have hm : MeterOk (meterField f) := ⟨by omega, by omega⟩
      split
      · next hs =>
        have hset := h.withGrid (h.house.grid.withMeter hs hm) rfl
        unfold meterAtOnce
        dsimp only
        split
        · exact hset
        · exact hset.raiseHouse _
      · next hs =>
        have hset := h.withGrid (h.house.grid.withPendingMeter hs hm) rfl
        unfold meterPending
        split
        · exact hset
        · split
          · exact h
          · exact hset

/-! ### Marks (R41 to R60) -/

theorem GridOk.followTarget {g : Grid} (h : GridOk g) (hs : g.state = .running) {e : Nat} (he : TempoOk e) {t : Terms}
    (ht : TermsOk t) : GridOk (followTarget e t g) := by
  unfold Machine.followTarget
  split
  · exact h
  · exact h.tempoChange hs he ht.followGlide

@[simp] theorem followTarget_state (e : Nat) (t : Terms) (g : Grid) : (followTarget e t g).state = g.state := by
  unfold followTarget; split <;> simp

@[simp] theorem followTarget_pos (e : Nat) (t : Terms) (g : Grid) : (followTarget e t g).pos = g.pos := by
  unfold followTarget; split <;> simp

/-- The grid after the phase hand-offs of a mark (R54, R57). -/
def phaseCorrected (t : Terms) (stamp count : Frame) (down : Bool) (g : Grid) : Grid :=
  let p := positionAtStamp stamp count g
  let e := phaseError p
  armTrim e t.gain (if down then downbeat e p.beat g else g)

theorem phaseHandOffs_eq (st : Station) (t : Terms) (stamp : Frame) (down : Bool) (s : State) :
    phaseHandOffs st t stamp down s =
      { s.setFollower st { s.follower st with
          phaseError := some (phaseError (positionAtStamp stamp s.fru.count s.grid)) } with
        grid := phaseCorrected t stamp s.fru.count down s.grid } := rfl

@[simp] theorem phaseCorrected_state (t : Terms) (stamp count : Frame) (down : Bool) (g : Grid) :
    (phaseCorrected t stamp count down g).state = g.state := by
  unfold phaseCorrected armTrim; dsimp only; split <;> simp

@[simp] theorem phaseCorrected_pos (t : Terms) (stamp count : Frame) (down : Bool) (g : Grid) :
    (phaseCorrected t stamp count down g).pos = g.pos := by
  unfold phaseCorrected armTrim; dsimp only; split <;> simp

theorem GridOk.phaseCorrected {g : Grid} (h : GridOk g) (hs : g.state = .running) (t : Terms) (stamp count : Frame)
    (down : Bool) : GridOk (phaseCorrected t stamp count down g) := by
  unfold Machine.phaseCorrected
  dsimp only
  split
  · exact (h.downbeat hs _ _).armTrim (by simp [hs]) _ _
  · exact h.armTrim hs _ _

theorem Safe.phaseHandOffs {s : State} (h : Safe s) {st : Station} (hpres : (s.link st).present = true)
    (hs : s.grid.state = .running) (t : Terms) (stamp : Frame) (down : Bool) : Safe (phaseHandOffs st t stamp down s) := by
  rw [phaseHandOffs_eq]
  have hf : Safe (s.setFollower st { s.follower st with
      phaseError := some (phaseError (positionAtStamp stamp s.fru.count s.grid)) }) :=
    h.setFollower ((h.followers.follower st).withPhaseError _) fun _ ha => by simp [hpres] at ha
  exact hf.withGrid (h.house.grid.phaseCorrected hs t stamp s.fru.count down) (by simp)

theorem Safe.followHandOff {s : State} (h : Safe s) {st : Station} {t : Terms} (ht : TermsOk t)
    (hs : s.grid.state = .running) (o : MarkOutcome) : Safe (followHandOff st t o s) := by
  unfold Machine.followHandOff
  split
  · next e he =>
    split
    · exact h.withGrid (h.house.grid.followTarget hs ((h.followers.follower st).estimate_range he) ht) (by simp)
    · exact h
  · exact h

theorem Safe.markHandOffs {s : State} (h : Safe s) (hp : s.phase = .running) {st : Station}
    (hpres : (s.link st).present = true) (o : MarkOutcome) {stamp : Frame} (hl : interval stamp s.fru.count ≤ 4800)
    (down : Bool) : Safe (markHandOffs st o stamp down s) := by
  unfold Machine.markHandOffs
  split
  · exact h
  · next t ht =>
    have hw := holderTerms_some ht
    have htok := h.house.lead.holder _ hw
    split
    · next hs =>
      split
      · exact (h.phaseHandOffs hpres hs t stamp down).followHandOff htok (by simpa [phaseHandOffs_eq] using hs) o
      · exact h
    · unfold startHandOff
      split
      · next e he =>
        split
        · exact h.startGrid hp (by simp [hw]) ((h.followers.follower st).estimate_range he) hl
        · exact h
      · exact h
    · exact h

theorem Safe.beatMark {s : State} (h : Safe s) (hp : s.phase = .running) {st : Station}
    (hpres : (s.link st).present = true) {stamp : Frame} (hl : interval stamp s.fru.count ≤ 4800) (down : Bool) :
    Safe (beatMark st stamp down s) :=
  (h.setFollower ((h.followers.follower st).followerAfter stamp) fun _ ha => by simp [hpres] at ha).markHandOffs
    hp hpres _ hl down

/-- R40: a stamp lies 4,800 frames back at most. -/
theorem interval_markStamp (count : Frame) (back : Nat) :
    interval (markStamp count back) count = clampNat 0 Config.timeBackMax back := by
  have hc := (clampNat_range (lo := 0) (hi := Config.timeBackMax) back (by omega)).2
  simp only [Config.timeBackMax] at hc
  unfold interval markStamp
  rw [show count - (count - BitVec.ofNat 32 (clampNat 0 Config.timeBackMax back)) =
    BitVec.ofNat 32 (clampNat 0 Config.timeBackMax back) by bv_omega, BitVec.toNat_ofNat]
  exact Nat.mod_eq_of_lt (by simp only [Config.timeBackMax]; omega)

theorem Safe.markOwner {s : State} (h : Safe s) (hp : s.phase = .running) (st : Station) (f : List Byte) :
    Safe (markOwner st f s).1 := by
  unfold Machine.markOwner
  split
  · exact h
  · next hpres =>
    refine h.beatMark hp (by simpa using hpres) ?_ _
    rw [interval_markStamp]
    exact (clampNat_range _ (by omega)).2

theorem Safe.inputSetOwner {s : State} (h : Safe s) (st : Station) (f : List Byte) : Safe (inputSetOwner st f s).1 := by
  unfold Machine.inputSetOwner
  split
  · exact h
  · split
    · exact h
    · dsimp only
      split
      · exact h
      · split
        · exact h
        · next new hr =>
          unfold readInputSetting at hr
          split at hr
          · cases hr
            exact h.setInput (clampNat_range _ (by omega))
          · cases hr

theorem Safe.inputEdge {s : State} (h : Safe s) (hp : s.phase = .running) (i : InputId) (c : LevelChange) :
    Safe (inputEdge i c s) := by
  unfold Machine.inputEdge
  dsimp only
  split
  · exact h
  · next st hst =>
    split
    · have hin : Safe (s.setInput i { s.input i with
          lastEdge := some s.fru.count, lastOutcome := some (deliveredOutcome st (s.input i) s) }) :=
        h.setInput (h.store.inputs i)
      unfold deliveredMark
      split
      · exact hin
      · next hpres =>
        have hpres := hpres
        simp only [setInput_link, Bool.not_eq_true', Bool.not_eq_false] at hpres
        split
        · split
          · split
            · next hs => exact hin.phaseHandOffs hpres hs _ _ _
            · exact hin
          · exact hin
        · exact hin.beatMark hp hpres (by simp [interval]) _
    · exact h

theorem InputOk.edgeExpire {m : MarkInput} (h : InputOk m.setting) (count : Frame) :
    InputOk (edgeExpire count m).setting := by
  unfold Machine.edgeExpire
  split
  · split <;> exact h
  · exact h

/-! ### The transport (R90 to R99) -/

theorem Safe.onLanes {s : State} (h : Safe s) {f : Lane → Lane} (hf : ∀ ln, ∃ o, f ln = { ln with owed := o }) :
    Safe (onLanes f s) := by
  refine h.mapLanes _ (fun _ ln hl => ?_) fun _ ln => ?_
  · split
    · exact hl
    · next hs => obtain ⟨o, ho⟩ := hf ln; rw [ho]; exact hl.withOwed hs o
  · split
    · exact SameHold.refl ln
    · obtain ⟨o, ho⟩ := hf ln; rw [ho]; exact SameHold.refl ln

theorem Safe.transportChange {s : State} (h : Safe s) {y : Transport} (hy : TransportOk y) (hs : s.grid.state ≠ .unset) :
    Safe (transportChange y s) :=
  ((h.withTransport hy fun e => absurd e hs).showSource _).raiseHouse _

theorem cancelStart_owed (b : Beat) (ln : Lane) : ∃ o, cancelStart b ln = { ln with owed := o } := by
  unfold cancelStart
  repeat' split
  exacts [⟨_, rfl⟩, ⟨_, rfl⟩, ⟨ln.owed, rfl⟩]

theorem cancelStop_owed (b : Beat) (ln : Lane) : ∃ o, cancelStop b ln = { ln with owed := o } := by
  unfold cancelStop
  repeat' split
  exacts [⟨_, rfl⟩, ⟨_, rfl⟩, ⟨ln.owed, rfl⟩]

theorem Safe.cancelBoundary {s : State} (h : Safe s) {f : Beat → Lane → Lane}
    (hf : ∀ b ln, ∃ o, f b ln = { ln with owed := o }) {y : TransportState} (hy : y = .stopped ∨ y = .playing)
    (hs : s.grid.state ≠ .unset) : Safe (cancelBoundary f y s).1 := by
  have hok : TransportOk ⟨y, none, s.tc.songBar⟩ := by
    rcases hy with rfl | rfl <;> constructor <;> simp
  unfold Machine.cancelBoundary
  dsimp only
  split
  · exact (h.onLanes (hf _)).transportChange hok hs
  · exact h.transportChange hok hs

theorem Safe.fixBoundary {s : State} (h : Safe s) (measured : Measured) {k : TransportKind} (q : Quantum)
    {y : TransportState} (hy : y = .starting ∧ k ≠ .stop ∨ y = .stopping ∧ k = .stop) (hs : s.grid.state ≠ .unset) :
    Safe (fixBoundary measured k q y s).1 := by
  refine (h.onLanes fun ln => ⟨_, rfl⟩).transportChange ?_ hs
  rcases hy with ⟨rfl, hk⟩ | ⟨rfl, hk⟩ <;> constructor <;> simp [hk]

theorem Safe.transportOwner {s : State} (h : Safe s) (st : Station) (b : TransportBody) :
    Safe (transportOwner st b s).1 := by
  unfold Machine.transportOwner
  split
  · exact h
  · split
    · split
      · exact h
      · next hs =>
        unfold transportWith
        split
        · next hk => exact h.fixBoundary _ _ (.inl ⟨rfl, by simpa using hk⟩) hs
        · exact h
        · exact h.cancelBoundary cancelStart_owed (.inl rfl) hs
        · exact h
        · next hk => exact h.fixBoundary _ _ (.inr ⟨rfl, by simpa using hk⟩) hs
        · exact h
        · exact h.cancelBoundary cancelStop_owed (.inr rfl) hs
        · exact h
    · exact h

theorem Safe.handoverMoment {s : State} (h : Safe s) : Safe (handoverMoment s) := by
  unfold Machine.handoverMoment
  split
  · exact h
  · next hs => exact h.handoverAtCrossing hs

theorem Safe.transportMoment {s : State} (h : Safe s) : Safe (transportMoment s) := by
  unfold Machine.transportMoment
  split
  · exact h
  · exact h.transportReached

end Sys2Proof.Machine
end

section
/-! PROOF. Safe states kept by the links, the Frame Reference Unit and the frame event, and by the requests of the pins,
the ports, the links and the reference. -/

namespace Sys2Proof.Machine

/-! ### Requests of the links (R185, R193, R200) -/

theorem LinkOk.withWindow {k : Link} (h : LinkOk k) (hp : k.present = true) {w : Nat} (hw : 100 ≤ w ∧ w ≤ 2000) :
    LinkOk { k with windowMs := w, countdown := some (windowFrames w) } :=
  { h with
    window := hw
    countdown := by rintro n ⟨⟩; exact windowFrames_range hw.1 hw.2
    presence := hp }

theorem Safe.presenceOwner {s : State} (h : Safe s) (st : Station) (f : List Byte) : Safe (presenceOwner st f s).1 := by
  unfold Machine.presenceOwner
  split
  · exact h
  · next hp =>
    have hp : (s.link st).present = true := by simpa using hp
    exact h.setLink ⟨fun hk => hk.withWindow hp (clampNat_range _ (by omega)), rfl, rfl, rfl⟩

theorem Safe.takeUnknown {s : State} (h : Safe s) (st : Station) (kind tag : Byte) (f : List Byte) :
    Safe (takeUnknown st kind tag f s) := by
  unfold Machine.takeUnknown
  split
  · exact h
  · rcases takeFrame_cases st (kind :: tag :: f) s with ht | ht
    · simp only [ht]; exact h
    · simp only [ht]; exact (h.afterTaking st).placeReply _ _ _ _

theorem LinkOk.cleared {k : Link} (h : LinkOk k) :
    LinkOk { k with framing := 0, crc := 0, gap := 0, overrun := 0, answerLost := false } :=
  { h with
    absent := fun hp => by obtain ⟨hq, hs, -⟩ := h.absent hp; exact ⟨hq, hs, rfl⟩
    counts := ⟨Nat.zero_le _, Nat.zero_le _, Nat.zero_le _, Nat.zero_le _⟩ }

theorem Safe.clearShown {s : State} (h : Safe s) (st : Station) (t : Topic) : Safe (clearShown st t s) := by
  cases t with
  | lead => exact (h.withCode s.lead.code none).showSource .seizeFailed
  | port p => exact h.setPort { h.ports.port p with }
  | link => exact h.setLink ⟨fun hk => hk.cleared, rfl, rfl, rfl⟩
  | grid => exact h
  | transport => exact h
  | lane l => exact h
  | pin p => exact h
  | input i => exact h
  | reference => exact h
  | store => exact h

theorem Safe.queryOwner {s : State} (h : Safe s) (st : Station) (f : List Byte) : Safe (queryOwner st f s).1 := by
  unfold Machine.queryOwner
  split
  · exact h
  · split
    · exact h
    · split
      · exact h
      · exact h.clearShown _ _

/-! ### Requests of the pins and the ports (R162, R171) -/

/-- A pin that no lane holds, written anew. -/
theorem Safe.writePin {s : State} (h : Safe s) {p : PinId} {x : Pin} (hp : (s.pin p).function ≠ .lane)
    (hf : x.function ≠ .lane) (hs : x.source.isSome ↔ x.function = .indicator) (ht : x.timing = false) :
    Safe (s.setPin p x) := by
  refine safe_edit (pins := ⟨fun q => ?_, h.pins.unique, fun q => ?_, fun q => ?_⟩)
  · by_cases e : q = p
    · subst e
      rw [setPin_pin_same]
      exact ⟨fun hx => absurd hx hf, fun hx => absurd ((h.pins.lane q).2 hx) hp⟩
    · rw [setPin_pin_ne _ _ _ _ e]
      exact h.pins.lane q
  · rw [setPin_pin]
    split
    exacts [hs, h.pins.source q]
  · rw [setPin_pin]
    split
    exacts [fun hx => by simp [ht] at hx, h.pins.timer q]

theorem readPinItems_function {f : List Byte} {s : State} {x : PinItems} (h : readPinItems f s = some x) :
    x.function ≠ .lane ∧ (x.source.isSome ↔ x.function = .indicator) := by
  unfold readPinItems at h
  split at h
  · obtain ⟨lv, -, rfl⟩ := Option.map_eq_some_iff.1 h
    simp
  · obtain ⟨src, -, rfl⟩ := Option.map_eq_some_iff.1 h
    simp
  · cases h

theorem Safe.pinSetOwner {s : State} (h : Safe s) (st : Station) (f : List Byte) : Safe (pinSetOwner st f s).1 := by
  unfold Machine.pinSetOwner
  split
  · exact h
  · split
    · exact h
    · split
      · exact h
      · next hp =>
        split
        · exact h
        · next x hx =>
          obtain ⟨hf, hs⟩ := readPinItems_function hx
          split
          · exact h
          · exact h.writePin hp hf hs rfl

theorem Safe.portSetOwner {s : State} (h : Safe s) (st : Station) (f : List Byte) : Safe (portSetOwner st f s).1 := by
  unfold Machine.portSetOwner
  split
  · exact h
  · split
    · exact h
    · split
      · exact h
      · split
        · exact h
        · split
          · exact h
          · exact h.setPort ((h.ports.port _).withRate _)

/-! ### The reference request (R38) -/

theorem readDivisor_range {n d : Nat} (h : readDivisor n = some d) : d = 1 ∨ d = 2 := by
  unfold readDivisor at h
  split at h <;> simp_all

theorem FruFits.requestInternal {f : Fru} (h : FruFits f) {d : Nat} (hd : d = 1 ∨ d = 2) (hs : f.state = .internal) :
    FruFits { f with requested := .internal, divisor := d, nextDivisor := d } := by
  have hrun := h.runZero (.inl hs)
  have hsw := h.idle hs
  constructor <;> simp [hd, hs, hrun, hsw, Config.qualifyRun, isQualifying]

theorem FruFits.startQualifying {f : Fru} (h : FruFits f) {d : Nat} (hd : d = 1 ∨ d = 2) :
    FruFits { f with
      requested := .external, divisor := d, nextDivisor := d, state := .qualifying, run := 0, switch := .none
      periodOpen := false } := by
  have := h.run
  constructor <;> simp [hd, Config.qualifyRun, isQualifying]

theorem FruFits.requalify {f : Fru} (hs : isQualifying f.state = true) {d : Nat} (hd : d = 1 ∨ d = 2) :
    FruFits { f with
      requested := .external, divisor := d, nextDivisor := d, run := 0, switch := .none, periodOpen := false } := by
  cases hst : f.state <;> simp [hst, isQualifying] at hs <;>
    constructor <;> simp [hd, Config.qualifyRun, isQualifying]

theorem FruFits.leaveQualifying {f : Fru} (hs : isQualifying f.state = true) {d : Nat} (hd : d = 1 ∨ d = 2) :
    FruFits { f with
      requested := .internal, divisor := d, nextDivisor := d, run := 0, switch := .toInternal } := by
  cases hst : f.state <;> simp [hst, isQualifying] at hs <;>
    constructor <;> simp [hd, Config.qualifyRun, isQualifying]

theorem FruFits.leaveExternal {f : Fru} (h : FruFits f) (hs : f.state = .external) {r : RefSource} {d : Nat}
    (hd : d = 1 ∨ d = 2) : FruFits { f with requested := r, nextDivisor := d, switch := .toInternal } := by
  have hrun := h.runZero (.inr (.inl hs))
  have hdiv := h.divisor
  constructor <;> simp [hd, hs, hrun, hdiv, Config.qualifyRun, isQualifying]

theorem FruFits.stayExternal {f : Fru} (h : FruFits f) (hs : f.state = .external) {d : Nat} (hd : d = 1 ∨ d = 2) :
    FruFits { f with requested := .external, nextDivisor := d, switch := .none } := by
  have hrun := h.runZero (.inr (.inl hs))
  have hdiv := h.divisor
  constructor <;> simp [hd, hs, hrun, hdiv, Config.qualifyRun, isQualifying]

theorem Safe.referenceChange {s : State} (h : Safe s) {f : Fru} (hf : FruFits f) (hp : s.phase = .running) :
    Safe (referenceChange f s) :=
  ((h.withFru hf hp).showSource _).raiseHouse _

theorem FruFits.withRequested {f : Fru} (h : FruFits f) {src : RefSource} (hi : f.state ≠ .internal)
    (hq : isQualifying f.state = true → (f.switch = .toInternal ↔ src = .internal)) :
    FruFits { f with requested := src } :=
  { h with requestedInternal := fun e => absurd e hi, requested := hq }

theorem Safe.setFromInternal {s : State} (h : Safe s) (hp : s.phase = .running) {src : RefSource} {d : Nat}
    (hd : d = 1 ∨ d = 2) (hs : s.fru.state = .internal) :
    Safe (setFromInternal src d { s with fru := { s.fru with requested := src } }).1 := by
  cases src with
  | internal => exact h.withFru (h.fru.fits.requestInternal hd hs) hp
  | external => exact h.referenceChange (h.fru.fits.startQualifying hd) hp

theorem Safe.setWhileQualifying {s : State} (h : Safe s) (hp : s.phase = .running) {src : RefSource} {d : Nat}
    (hd : d = 1 ∨ d = 2) (hs : isQualifying s.fru.state = true) :
    Safe (setWhileQualifying src d { s with fru := { s.fru with requested := src } }).1 := by
  have hf := h.fru.fits
  have hni : s.fru.state ≠ .internal := by intro e; simp [e, isQualifying] at hs
  unfold Machine.setWhileQualifying
  split
  · exact h.withFru (FruFits.leaveQualifying hs hd) hp
  · next hsw =>
    have hsw : s.fru.switch ≠ .toInternal := by simpa using hsw
    split
    · exact h.withFru (hf.withRequested hni fun _ => by simp [hsw]) hp
    · exact h.withFru (FruFits.requalify hs hd) hp
  · next hsw =>
    have hsw : s.fru.switch = .toInternal := by simpa using hsw
    have hrun := hf.runZero (.inr (.inr hsw))
    have hold := FruFits.leaveQualifying hs hd
    rw [← hrun, ← hsw] at hold
    exact h.withFru hold hp
  · exact h.withFru (FruFits.requalify hs hd) hp

theorem Safe.setFromExternal {s : State} (h : Safe s) (hp : s.phase = .running) {src : RefSource} {d : Nat}
    (hd : d = 1 ∨ d = 2) (hs : s.fru.state = .external) :
    Safe (setFromExternal src d { s with fru := { s.fru with requested := src } }).1 := by
  have hf := h.fru.fits
  have hni : s.fru.state ≠ .internal := by simp [hs]
  have hnq : isQualifying s.fru.state ≠ true := by simp [hs, isQualifying]
  unfold Machine.setFromExternal
  split
  · exact h.withFru (hf.leaveExternal hs hd) hp
  · split
    · exact h.withFru (hf.withRequested hni fun e => absurd e hnq) hp
    · exact h.withFru (hf.leaveExternal hs hd) hp
  · next hsw =>
    have hsw : s.fru.switch = .toInternal := by simpa using hsw
    have hold := hf.leaveExternal hs (r := .internal) hd
    rw [← hsw] at hold
    exact h.withFru hold hp
  · next hsw =>
    have hsw : s.fru.switch = .toInternal := by simpa using hsw
    have hold := hf.leaveExternal hs (r := .external) hd
    rw [← hsw] at hold
    split
    · exact h.withFru (hf.stayExternal hs hd) hp
    · exact h.withFru hold hp

theorem Safe.referenceSetOwner {s : State} (h : Safe s) (hp : s.phase = .running) (st : Station) (f : List Byte) :
    Safe (referenceSetOwner st f s).1 := by
  unfold Machine.referenceSetOwner
  split
  · exact h
  · split
    · next hd =>
      have hd := readDivisor_range hd
      unfold referenceSetWith
      dsimp only
      split
      · next hs => exact h.setFromInternal hp hd hs
      · next hs => exact h.setFromExternal hp hd hs
      · next hs => exact h.setWhileQualifying hp hd (by simp [hs, isQualifying])
      · next hs => exact h.setWhileQualifying hp hd (by simp [hs, isQualifying])
    · exact h

/-! ### A link departs (R184, R206) -/

theorem StoreOk.departure {s : State} (h : StoreOk s) (st : Station) :
    StoreOk { s with store := storeDeparture st s.store } where
  saving := h.saving
  valid := h.valid
  answer := by
    show (s.store.answer.map _).isSome ↔ _
    rw [Option.isSome_map]
    exact h.answer
  stored := h.stored
  snapshot := h.snapshot
  inputs := h.inputs

theorem Safe.departLink {s : State} (h : Safe s) (st : Station) : Safe (departLink st s) := by
  rw [departLink_eq]
  have hk : Safe (s.setLink st (departed (s.link st))) :=
    h.setLinkAnew (h.links.link st).departed (by simp [departed]) (by simp [departed])
  exact hk.withStore (hk.store.departure st)

theorem linkStays_gapTest (count : Frame) (k : Link) : LinkStays k (gapTest count k) :=
  ⟨fun hk => hk.gapTest count, by simp, by simp, by simp⟩

theorem linkStays_countDown (k : Link) : LinkStays k (countDown k) :=
  ⟨fun hk => hk.countDown, by simp, by simp, by simp⟩

theorem Safe.breakMoment {s : State} (h : Safe s) (st : Station) (a : Frame) : Safe (breakMoment st a s) := by
  have hk : Safe (s.setLink st { s.link st with receiver := .hunt, heldAtSpace := true }) :=
    h.setLink ⟨fun hk => { hk with receiver := trivial }, rfl, rfl, rfl⟩
  unfold Machine.breakMoment
  split
  · dsimp only
    split
    exacts [hk.departLink st, hk]
  · exact h

theorem Safe.expiryMoment {s : State} (h : Safe s) (st : Station) : Safe (expiryMoment st s) := by
  unfold Machine.expiryMoment
  split
  exacts [h.departLink st, h]

theorem linkStays_messageEnd (k : Link) : LinkStays k (messageEnd k) := by
  refine ⟨fun hk => hk.messageEnd, ?_, ?_, ?_⟩ <;>
    · unfold messageEnd; split
      · simp
      · rfl

theorem linkStays_lineAtMark (k : Link) : LinkStays k (lineAtMark k) := by
  refine ⟨fun hk => hk.lineAtMark, ?_, ?_, ?_⟩ <;>
    · unfold lineAtMark; split <;> rfl

/-! ### Characters (R177 to R179, R182, R183) -/

/-- The departures reported, but not yet acted on, are the same at every link. -/
def LinksTold (v w : Vector Link 4) : Prop :=
  ∀ i : Station, w[i].lapseReported = v[i].lapseReported ∧ w[i].emptyReported = v[i].emptyReported

theorem LinksTold.refl (v : Vector Link 4) : LinksTold v v := fun _ => ⟨rfl, rfl⟩

theorem LinksTold.trans {u v w : Vector Link 4} (h : LinksTold u v) (h' : LinksTold v w) : LinksTold u w := fun i =>
  ⟨(h' i).1.trans (h i).1, (h' i).2.trans (h i).2⟩

theorem linksTold_raiseHouse (r : Reason) (s : State) : LinksTold s.links (raiseHouse r s).links := fun i => by
  show ((raiseHouse r s).link i).lapseReported = (s.link i).lapseReported ∧ _
  rw [show (raiseHouse r s).links[i] = (raiseHouse r s).link i from rfl, raiseHouse_link]
  split
  · next hp => exact ⟨(linkStays_placeHouse hp _).lapse, (linkStays_placeHouse hp _).empty⟩
  · exact ⟨rfl, rfl⟩

theorem linksTold_transportReached (s : State) : LinksTold s.links (transportReached s).links := by
  unfold transportReached
  split
  · exact LinksTold.refl _
  · split
    · refine LinksTold.trans ?_ (linksTold_raiseHouse _ _)
      simp [LinksTold.refl]
    · exact LinksTold.refl _

theorem linksTold_startGrid (t e : Nat) (s : State) : LinksTold s.links (startGrid t e s).links := by
  simp only [startGrid, tcCrossing, pdCrossing_keeps]
  refine LinksTold.trans ?_ (linksTold_transportReached _)
  simp [LinksTold.refl]

theorem linksTold_gridHandOff (s : State) : LinksTold s.links (gridHandOff s).links := by
  unfold gridHandOff
  split
  · split <;> exact LinksTold.refl _
  · split
    · split
      · exact linksTold_startGrid _ _ _
      · exact LinksTold.refl _
    · dsimp only
      split <;> simp [LinksTold.refl]

theorem linksTold_changeHolder (new : Option LeadEntry) (q : List LeadEntry) (r : Reason) (s : State) :
    LinksTold s.links (changeHolder new q r s).links := by
  unfold changeHolder
  refine LinksTold.trans ?_ (linksTold_raiseHouse _ _)
  simp only [showSource_links]
  refine LinksTold.trans ?_ (linksTold_gridHandOff _)
  simp [LinksTold.refl]

theorem linksTold_lapseStation (st : Station) (s : State) : LinksTold s.links (lapseStation st s).links := by
  unfold lapseStation leaveLead
  split
  · split <;> exact linksTold_changeHolder _ _ _ _
  · split
    · exact LinksTold.trans (LinksTold.refl _) (linksTold_raiseHouse _ _)
    · exact LinksTold.refl _

/-- A departure that was settled waits no more (R60, R84). -/
theorem settleDeparture_told (st : Station) (s : State) :
    ((settleDeparture st s).link st).lapseReported = false ∧ ((settleDeparture st s).link st).emptyReported = false := by
  have hlead : ((leadLapse st s).link st).lapseReported = false := by
    unfold leadLapse
    split
    · have htold := linksTold_lapseStation st (s.setLink st { s.link st with lapseReported := false }) st
      exact htold.1.trans (by rw [show (s.setLink st _).links[st] = (s.setLink st _).link st from rfl]; simp)
    · next hn => simpa using hn
  unfold settleDeparture emptyFollower
  split
  · simp [hlead]
  · next hn => exact ⟨hlead, by simpa using hn⟩

/-- A byte that ends no frame leaves PRESENT and the reports; one that ends a frame makes the link PRESENT (R183). -/
theorem byteTaken_presence (b : Byte) (k : Link) :
    ((byteTaken b k).2 = true ∧ (byteTaken b k).1.present = true) ∨
    ((byteTaken b k).2 = false ∧ (byteTaken b k).1.present = k.present ∧
      (byteTaken b k).1.lapseReported = k.lapseReported ∧ (byteTaken b k).1.emptyReported = k.emptyReported) := by
  unfold byteTaken
  split
  · split <;> exact .inr ⟨rfl, rfl, rfl, rfl⟩
  · split <;> exact .inr ⟨rfl, rfl, rfl, rfl⟩
  · dsimp only
    split <;> exact .inr ⟨rfl, rfl, rfl, rfl⟩
  · exact .inr ⟨rfl, rfl, rfl, rfl⟩
  · dsimp only
    split
    · exact .inl ⟨rfl, rfl⟩
    · exact .inr ⟨rfl, rfl, rfl, rfl⟩

/-- A byte taken at a link where no departure waits, if the byte ends a frame (R178, R179). -/
theorem Safe.byteTaken {s : State} (h : Safe s) (st : Station) (b : Byte)
    (hs : (byteTaken b (s.link st)).2 = true → (s.link st).lapseReported = false ∧ (s.link st).emptyReported = false) :
    Safe (s.setLink st (byteTaken b { s.link st with lastByte := s.fru.count }).1) := by
  have hk : LinkOk { s.link st with lastByte := s.fru.count } := { h.links.link st with }
  have hend := byteTaken_frame_congr (k := s.link st) (k' := { s.link st with lastByte := s.fru.count }) b rfl
  refine h.setLinkAnew (hk.byteTaken fun e => hs (hend ▸ e)) (fun hp he => ?_) fun hp hl => ?_
  · rcases byteTaken_presence b { s.link st with lastByte := s.fru.count } with ⟨-, hpres⟩ | ⟨-, hpres, -, hempty⟩
    · simp [hpres] at hp
    · exact h.followers.absent st (hpres ▸ hp) (hempty ▸ he)
  · rcases byteTaken_presence b { s.link st with lastByte := s.fru.count } with ⟨-, hpres⟩ | ⟨-, hpres, hlapse, -⟩
    · simp [hpres] at hp
    · exact h.house.absent st (hpres ▸ hp) (hlapse ▸ hl)

/-- A byte that ends a frame pulses the link's indicators (R161). -/
theorem Safe.byteEnds {s : State} (h : Safe s) (st : Station) (b : Byte)
    (hs : (Machine.byteTaken b (s.link st)).2 = true →
      (s.link st).lapseReported = false ∧ (s.link st).emptyReported = false) :
    Safe (if (Machine.byteTaken b { s.link st with lastByte := s.fru.count }).2 = true then
      Machine.pulseSource (.linkActivity st)
        (s.setLink st (Machine.byteTaken b { s.link st with lastByte := s.fru.count }).1)
    else s.setLink st (Machine.byteTaken b { s.link st with lastByte := s.fru.count }).1) := by
  have htaken := h.byteTaken st b hs
  split
  exacts [htaken.pulseSource _, htaken]

theorem Safe.settleDeparture {s : State} (h : Safe s) (hp : s.phase = .running) (st : Station) :
    Safe (settleDeparture st s) :=
  (h.leadLapse hp st).emptyFollower st

theorem Safe.characterTaken {s : State} (h : Safe s) (hp : s.phase = .running) (st : Station) (c : LineChar) :
    Safe (characterTaken st c s) := by
  unfold Machine.characterTaken
  split
  · exact h
  · cases c with
    | framingError => exact h.setLink ⟨fun hk => hk.framingError, rfl, rfl, rfl⟩
    | byte b =>
      dsimp only
      split
      · exact (h.settleDeparture hp st).byteEnds st b fun _ => settleDeparture_told st s
      · next hn => exact h.byteEnds st b fun e => absurd e hn

/-! ### The frame event (R29) -/

theorem Safe.linkFrameEvent {s : State} (h : Safe s) (st : Station) : Safe (linkFrameEvent st s) := by
  have h1 : Safe (s.setLink st (gapTest s.fru.count (s.link st))) := h.setLink (linkStays_gapTest _ _)
  unfold Machine.linkFrameEvent
  dsimp only
  split
  exacts [h1.departLink st, h1.setLink (linkStays_countDown _)]

theorem Safe.linksFrame {s : State} (h : Safe s) : Safe (linksFrame s) := h.foldl (fun _ st hs => hs.linkFrameEvent st) _

theorem Safe.timersEnd {s : State} (h : Safe s) (sel : PinId → Bool) : Safe (timersEnd sel s) :=
  h.mapPins _ fun _ p => by
    split
    exacts [pinStays_timerEnd _ p, PinStays.refl p]

theorem Safe.frameExpiries {s : State} (h : Safe s) : Safe (frameExpiries s) := by
  have h1 : Safe { s with followers := mapEach s.followers fun _ f => followerExpire s.fru.count f } :=
    h.mapFollowers _ (fun _ _ hx => hx.followerExpire _) fun _ => rfl
  have h2 : Safe { s with
      followers := mapEach s.followers fun _ f => followerExpire s.fru.count f
      inputs := mapEach s.inputs fun _ m => edgeExpire s.fru.count m } :=
    h1.withInputs _ fun i => by rw [mapEach_get]; exact (h.store.inputs i).edgeExpire _
  have h3 : Safe { s with
      followers := mapEach s.followers fun _ f => followerExpire s.fru.count f
      inputs := mapEach s.inputs fun _ m => edgeExpire s.fru.count m
      pins := mapEach s.pins fun _ p => activeUntilExpire s.fru.count p } :=
    h2.mapPins _ fun _ p => pinStays_activeUntilExpire _ p
  exact h3.mapLanes _ (fun _ _ hl => hl.lastEmissionExpire _) fun _ ln => sameHold_lastEmissionExpire _ ln

/-! ### What the parts of a frame event leave alone -/

@[simp] theorem releaseTarget_keeps (x : Settings) (e : Bool) (s : State) :
    (releaseTarget x e s).phase = s.phase ∧ (releaseTarget x e s).straps = s.straps ∧ (releaseTarget x e s).fru = s.fru ∧
      (releaseTarget x e s).grid = s.grid ∧ (releaseTarget x e s).followers = s.followers ∧
      (releaseTarget x e s).inputs = s.inputs ∧ (releaseTarget x e s).lead = s.lead ∧ (releaseTarget x e s).tc = s.tc ∧
      (releaseTarget x e s).links = s.links ∧ (releaseTarget x e s).rotation = s.rotation ∧
      (releaseTarget x e s).store = s.store ∧ (releaseTarget x e s).pending = s.pending := by
  rcases releaseTarget_cases x e s with ⟨p, -, -, h⟩ | ⟨p, -, -, -, h⟩ | ⟨-, h⟩ <;> simp [h]

@[simp] theorem putWalked_keeps (l : LaneId) (w : Walked) (s : State) :
    (putWalked l w s).phase = s.phase ∧ (putWalked l w s).straps = s.straps ∧ (putWalked l w s).fru = s.fru ∧
      (putWalked l w s).grid = s.grid ∧ (putWalked l w s).followers = s.followers ∧
      (putWalked l w s).inputs = s.inputs ∧ (putWalked l w s).lead = s.lead ∧ (putWalked l w s).tc = s.tc ∧
      (putWalked l w s).links = s.links ∧ (putWalked l w s).rotation = s.rotation ∧
      (putWalked l w s).store = s.store ∧ (putWalked l w s).pending = s.pending := by
  unfold putWalked
  split <;> simp

@[simp] theorem deliver_keeps (l : LaneId) (x : Settings) (e : Emitted) (s : State) :
    (deliver l x e s).phase = s.phase ∧ (deliver l x e s).straps = s.straps ∧ (deliver l x e s).fru = s.fru ∧
      (deliver l x e s).grid = s.grid ∧ (deliver l x e s).followers = s.followers ∧
      (deliver l x e s).inputs = s.inputs ∧ (deliver l x e s).lead = s.lead ∧ (deliver l x e s).tc = s.tc ∧
      (deliver l x e s).rotation = s.rotation ∧ (deliver l x e s).store = s.store ∧
      (deliver l x e s).pending = s.pending := by
  unfold deliver
  repeat' split
  all_goals simp

@[simp] theorem laneFrame_keeps (l : LaneId) (s : State) :
    (laneFrame l s).phase = s.phase ∧ (laneFrame l s).straps = s.straps ∧ (laneFrame l s).fru = s.fru ∧
      (laneFrame l s).grid = s.grid ∧ (laneFrame l s).followers = s.followers ∧ (laneFrame l s).inputs = s.inputs ∧
      (laneFrame l s).lead = s.lead ∧ (laneFrame l s).tc = s.tc ∧ (laneFrame l s).rotation = s.rotation ∧
      (laneFrame l s).store = s.store ∧ (laneFrame l s).pending = s.pending := by
  unfold laneFrame emitLane walkLane
  repeat' split
  all_goals simp

theorem foldl_keeps {α β γ : Type} (f : α → β → α) (g : α → γ) (h : ∀ s b, g (f s b) = g s) (l : List β) (s : α) :
    g (l.foldl f s) = g s := by
  induction l generalizing s with
  | nil => rfl
  | cons b rest ih => exact (ih (f s b)).trans (h s b)

@[simp] theorem lanesFrame_keeps (named : List LaneId) (s : State) :
    (lanesFrame named s).phase = s.phase ∧ (lanesFrame named s).straps = s.straps ∧
      (lanesFrame named s).fru = s.fru ∧ (lanesFrame named s).grid = s.grid ∧
      (lanesFrame named s).followers = s.followers ∧ (lanesFrame named s).inputs = s.inputs ∧
      (lanesFrame named s).lead = s.lead ∧ (lanesFrame named s).tc = s.tc ∧
      (lanesFrame named s).rotation = s.rotation ∧ (lanesFrame named s).store = s.store ∧
      (lanesFrame named s).pending = s.pending := by
  unfold lanesFrame
  refine ⟨?_, ?_, ?_, ?_, ?_, ?_, ?_, ?_, ?_, ?_, ?_⟩
  · exact foldl_keeps _ State.phase (by simp) _ _
  · exact foldl_keeps _ State.straps (by simp) _ _
  · exact foldl_keeps _ State.fru (by simp) _ _
  · exact foldl_keeps _ State.grid (by simp) _ _
  · exact foldl_keeps _ State.followers (by simp) _ _
  · exact foldl_keeps _ State.inputs (by simp) _ _
  · exact foldl_keeps _ State.lead (by simp) _ _
  · exact foldl_keeps _ State.tc (by simp) _ _
  · exact foldl_keeps _ State.rotation (by simp) _ _
  · exact foldl_keeps _ State.store (by simp) _ _
  · exact foldl_keeps _ State.pending (by simp) _ _

@[simp] theorem linkFrameEvent_keeps (st : Station) (s : State) :
    (linkFrameEvent st s).phase = s.phase ∧ (linkFrameEvent st s).straps = s.straps ∧
      (linkFrameEvent st s).fru = s.fru ∧ (linkFrameEvent st s).grid = s.grid ∧
      (linkFrameEvent st s).followers = s.followers ∧ (linkFrameEvent st s).inputs = s.inputs ∧
      (linkFrameEvent st s).lead = s.lead ∧ (linkFrameEvent st s).tc = s.tc ∧ (linkFrameEvent st s).lanes = s.lanes ∧
      (linkFrameEvent st s).pins = s.pins ∧ (linkFrameEvent st s).ports = s.ports ∧
      (linkFrameEvent st s).rotation = s.rotation ∧ (linkFrameEvent st s).pending = s.pending := by
  unfold linkFrameEvent
  dsimp only
  split <;> simp [departLink]

@[simp] theorem linksFrame_keeps (s : State) :
    (linksFrame s).phase = s.phase ∧ (linksFrame s).straps = s.straps ∧ (linksFrame s).fru = s.fru ∧
      (linksFrame s).grid = s.grid ∧ (linksFrame s).followers = s.followers ∧ (linksFrame s).inputs = s.inputs ∧
      (linksFrame s).lead = s.lead ∧ (linksFrame s).tc = s.tc ∧ (linksFrame s).lanes = s.lanes ∧
      (linksFrame s).pins = s.pins ∧ (linksFrame s).ports = s.ports ∧ (linksFrame s).rotation = s.rotation ∧
      (linksFrame s).pending = s.pending := by
  unfold linksFrame
  refine ⟨?_, ?_, ?_, ?_, ?_, ?_, ?_, ?_, ?_, ?_, ?_, ?_, ?_⟩
  · exact foldl_keeps _ State.phase (by simp) _ _
  · exact foldl_keeps _ State.straps (by simp) _ _
  · exact foldl_keeps _ State.fru (by simp) _ _
  · exact foldl_keeps _ State.grid (by simp) _ _
  · exact foldl_keeps _ State.followers (by simp) _ _
  · exact foldl_keeps _ State.inputs (by simp) _ _
  · exact foldl_keeps _ State.lead (by simp) _ _
  · exact foldl_keeps _ State.tc (by simp) _ _
  · exact foldl_keeps _ State.lanes (by simp) _ _
  · exact foldl_keeps _ State.pins (by simp) _ _
  · exact foldl_keeps _ State.ports (by simp) _ _
  · exact foldl_keeps _ State.rotation (by simp) _ _
  · exact foldl_keeps _ State.pending (by simp) _ _

/-- What the Grid Engine's part of a frame event acts on (R29; log entry 9). -/
def frameBegun (o : FrameOrder) (s : State) : State :=
  timersEnd (fun p => !o.latePins.contains p) (frameExpiries { s with fru := { s.fru with count := s.fru.count + 1 } })

theorem frameEventWhole_eq (o : FrameOrder) (s : State) :
    frameEventWhole o s = linksFrame (timersEnd (fun p => o.latePins.contains p)
      (lanesFrame o.lanes (gridFrame o.transportFirst (frameBegun o s)))) := rfl

@[simp] theorem frameBegun_keeps (o : FrameOrder) (s : State) :
    (frameBegun o s).phase = s.phase ∧ (frameBegun o s).straps = s.straps ∧
      (frameBegun o s).fru = { s.fru with count := s.fru.count + 1 } ∧ (frameBegun o s).grid = s.grid ∧
      (frameBegun o s).lead = s.lead ∧ (frameBegun o s).tc = s.tc ∧ (frameBegun o s).ports = s.ports ∧
      (frameBegun o s).links = s.links ∧ (frameBegun o s).rotation = s.rotation ∧
      (frameBegun o s).store = s.store ∧ (frameBegun o s).pending = s.pending :=
  ⟨rfl, rfl, rfl, rfl, rfl, rfl, rfl, rfl, rfl, rfl, rfl⟩

@[simp] theorem timersEnd_keeps (sel : PinId → Bool) (s : State) :
    (timersEnd sel s).phase = s.phase ∧ (timersEnd sel s).straps = s.straps ∧ (timersEnd sel s).fru = s.fru ∧
      (timersEnd sel s).grid = s.grid ∧ (timersEnd sel s).followers = s.followers ∧
      (timersEnd sel s).inputs = s.inputs ∧ (timersEnd sel s).lead = s.lead ∧ (timersEnd sel s).tc = s.tc ∧
      (timersEnd sel s).lanes = s.lanes ∧ (timersEnd sel s).ports = s.ports ∧ (timersEnd sel s).links = s.links ∧
      (timersEnd sel s).rotation = s.rotation ∧ (timersEnd sel s).store = s.store ∧
      (timersEnd sel s).pending = s.pending :=
  ⟨rfl, rfl, rfl, rfl, rfl, rfl, rfl, rfl, rfl, rfl, rfl, rfl, rfl, rfl⟩

@[simp] theorem frameEventWhole_keeps (o : FrameOrder) (s : State) :
    (frameEventWhole o s).phase = s.phase ∧ (frameEventWhole o s).straps = s.straps ∧
      (frameEventWhole o s).fru = { s.fru with count := s.fru.count + 1 } ∧
      (frameEventWhole o s).followers = (frameBegun o s).followers ∧
      (frameEventWhole o s).inputs = (frameBegun o s).inputs ∧ (frameEventWhole o s).rotation = s.rotation ∧
      (frameEventWhole o s).pending = s.pending ∧
      (frameEventWhole o s).grid = (gridFrame o.transportFirst (frameBegun o s)).grid ∧
      (frameEventWhole o s).lead = (gridFrame o.transportFirst (frameBegun o s)).lead ∧
      (frameEventWhole o s).tc = (gridFrame o.transportFirst (frameBegun o s)).tc := by
  simp [frameEventWhole_eq]

theorem Safe.frameEventWhole {s : State} (h : Safe s) (hp : s.phase = .running) (o : FrameOrder) :
    Safe (frameEventWhole o s) := by
  have hcount : Safe { s with fru := { s.fru with count := s.fru.count + 1 } } :=
    h.withFru (h.fru.fits.withCount _) hp
  have hgrid := ((hcount.frameExpiries).timersEnd fun p => !o.latePins.contains p).gridFrame o.transportFirst
  exact ((hgrid.lanesFrame o.lanes).timersEnd _).linksFrame

/-! ### The switches of the reference (R33 to R36) -/

theorem Safe.fallback {s : State} (h : Safe s) (hp : s.phase = .running) : Safe (fallback s) :=
  h.referenceChange h.fru.fits.fallback hp

theorem Safe.switchInternal {s : State} (h : Safe s) (hp : s.phase = .running) (hs : s.fru.switch = .toInternal) :
    Safe (switchInternal s) :=
  h.referenceChange (h.fru.fits.switchInternal hs) hp

theorem Safe.internalBoundary {s : State} (h : Safe s) (hp : s.phase = .running) (o : FrameOrder) :
    Safe (internalBoundary o s) := by
  have hf := h.frameEventWhole hp o
  have hp' : (Machine.frameEventWhole o s).phase = .running := by simpa using hp
  unfold Machine.internalBoundary
  dsimp only
  split
  · exact hf
  · exact hf.referenceChange hf.fru.fits.switchExternal hp'
  · next hs => exact hf.switchInternal hp' hs

theorem Safe.wckFrameEdge {s : State} (h : Safe s) (hp : s.phase = .running) (o : FrameOrder) :
    Safe (wckFrameEdge o s) := by
  have hf := h.frameEventWhole hp o
  unfold Machine.wckFrameEdge
  dsimp only
  split
  · next hs => exact hf.switchInternal (by simpa using hp) hs
  · exact hf
  · exact hf

theorem Safe.wckFrameEvent {s : State} (h : Safe s) (hp : s.phase = .running) (o : FrameOrder) :
    Safe (wckFrameEvent o s) := by
  have hplace : Safe { s with fru := { s.fru with periodOpen := true, place := placeAfterFrame s.fru.divisor } } :=
    h.withFru (h.fru.fits.withPlace _ _) hp
  exact hplace.wckFrameEdge hp o

theorem Safe.frameMoment {s : State} (h : Safe s) (hp : s.phase = .running) (o : FrameOrder) : Safe (frameMoment o s) := by
  unfold Machine.frameMoment
  split
  exacts [h.internalBoundary hp o, h.internalBoundary hp o, h.wckFrameEvent hp o, h.internalBoundary hp o]

theorem Safe.externalEdge {s : State} (h : Safe s) (hp : s.phase = .running) (w : WckPeriod) (o : FrameOrder) :
    Safe (externalEdge w o s) := by
  have hplace : Safe { s with fru := { s.fru with periodOpen := true, place := placeAfter w s.fru } } :=
    h.withFru (h.fru.fits.withPlace _ _) hp
  unfold Machine.externalEdge
  split
  · exact h.fallback hp
  · dsimp only
    split
    · exact hplace.wckFrameEdge hp o
    · exact hplace

theorem Safe.wckMoment {s : State} (h : Safe s) (hp : s.phase = .running) (w : WckPeriod) (o : FrameOrder) :
    Safe (wckMoment w o s) := by
  unfold Machine.wckMoment
  split
  · exact h
  · next hs => exact h.withFru (h.fru.fits.qualifyEdge (by simp [hs, isQualifying]) w) hp
  · next hs => exact h.withFru (h.fru.fits.qualifyEdge (by simp [hs, isQualifying]) w) hp
  · exact h.externalEdge hp w o

theorem Safe.silence {s : State} (h : Safe s) (hp : s.phase = .running) : Safe (silence s) := by
  unfold Machine.silence
  split
  · exact h
  · exact h.fallback hp
  · split
    · exact h
    · next hs => exact h.withFru (h.fru.fits.silence hs) hp

theorem Safe.toExternalMoment {s : State} (h : Safe s) (hp : s.phase = .running) (o : FrameOrder) :
    Safe (toExternalMoment o s) := by
  unfold Machine.toExternalMoment
  split
  exacts [h.internalBoundary hp o, h]

theorem Safe.toInternalMoment {s : State} (h : Safe s) (hp : s.phase = .running) (o : FrameOrder) :
    Safe (toInternalMoment o s) := by
  unfold Machine.toInternalMoment
  split
  · split
    exacts [h, h.internalBoundary hp o, h.internalBoundary hp o, h.wckFrameEvent hp o]
  · exact h

end Sys2Proof.Machine
end

section
/-! PROOF. Safe states at reset, through start-up, the scene store and a Grid Clear, and at every step (O2, O3). -/

namespace Sys2Proof.Machine

/-! ### The reset values (R28, R39, R62, R89, R105, R127, R152, R175, R176, R192, R203, R210) -/

@[simp] theorem reset_follower (i : Station) : State.reset.follower i = Follower.empty := by
  simp [State.follower, State.reset]
@[simp] theorem reset_input (i : InputId) : State.reset.input i = MarkInput.reset := by
  simp [State.input, State.reset]
@[simp] theorem reset_lane (l : LaneId) : State.reset.lane l = Lane.reset := by simp [State.lane, State.reset]
@[simp] theorem reset_pin (p : PinId) : State.reset.pin p = Pin.reset := by simp [State.pin, State.reset]
@[simp] theorem reset_port (p : PortId) : State.reset.port p = Port.reset := by simp [State.port, State.reset]
@[simp] theorem reset_link (i : Station) : State.reset.link i = Link.reset := by simp [State.link, State.reset]

theorem settingsOk_default : SettingsOk Settings.default := by
  constructor <;> simp [Settings.default, RateOk, limitRate, clampNat, targetFits]

theorem portOk_reset : PortOk Port.reset := by
  constructor <;> simp [Port.reset]

theorem fruOk_reset : FruOk State.reset := by
  constructor <;> simp [State.reset, Fru.reset, Config.qualifyRun, isQualifying]

theorem houseOk_reset : HouseOk State.reset where
  grid := gridOk_clear (m := 4) ⟨by decide, by decide⟩
  lead := by constructor <;> simp [State.reset, Lead.reset]
  transport := by constructor <;> simp [State.reset, Transport.reset]
  running := nofun
  holdover := nofun
  unset := fun _ => rfl
  before := fun _ => rfl
  absent := fun _ _ _ e he => by simp [State.reset, Lead.reset] at he

theorem pinsOk_reset : PinsOk State.reset := by
  constructor <;> simp [holdsPin, Lane.reset, Pin.reset]

theorem safe_reset : Safe State.reset where
  fru := fruOk_reset
  followers := ⟨fun i => by rw [reset_follower]; exact followerOk_empty, fun i _ _ => reset_follower i⟩
  house := houseOk_reset
  lanes := ⟨fun l => by rw [reset_lane]; exact laneOk_off (ln := Lane.reset) settingsOk_default⟩
  pins := pinsOk_reset
  ports := ⟨fun p => by rw [reset_port]; exact portOk_reset⟩
  links := ⟨fun i => by rw [reset_link]; exact linkOk_reset⟩
  store := {
    saving := nofun, valid := nofun, answer := by simp [State.reset, Store.reset], stored := nofun, snapshot := nofun
    inputs := fun i => by rw [reset_input]; exact ⟨by decide, by decide⟩ }

/-- Settles O2, block by block from the reset values. -/
theorem resetIsSafe : Obligations.ResetIsSafe := safe_reset

/-! ### Reset and release (R203, R206, R210) -/

theorem Safe.resetPart {s : State} (h : Safe s) : Safe (resetPart s) := by
  have hreset := safe_reset.withPending s.pending
  have hst : StoreOk { State.reset with store := resetStore s.store, pending := s.pending } := by
    unfold resetStore
    split
    · exact { safe_reset.store with }
    · exact { safe_reset.store with saving := nofun, valid := h.store.valid, stored := h.store.stored }
  exact hreset.withStore (x := resetStore s.store) hst

theorem Safe.releasePart {s : State} (h : Safe s) (x : Straps) : Safe (releasePart x s) := by
  unfold Machine.releasePart
  split
  · next hp =>
    obtain ⟨hstate, hrun, hswitch, hcount⟩ := h.fru.before (by simp [hp])
    have hone := h.fru.oneDivisor hstate
    have hfru : FruOk { s with
        phase := .starting, straps := x
        fru := { s.fru with
          requested := if x.external then .external else .internal
          state := if x.external then .qualifying else .internal } } := by
      have hd := h.fru.divisor
      cases x.external <;> constructor <;> simp [hd, hrun, hswitch, hcount, hone, Config.qualifyRun, isQualifying]
    exact safe_edit (fru := hfru) (house := { h.house with before := fun _ => h.house.before (by simp [hp]) })
  · exact h

/-! ### The scene load (R126, R204, R207) -/

/-- A lane loaded as ARMING takes its pin, and no other pin. -/
theorem takeLoaded_eq (l : LaneId) (s : State) : ∃ v, takeLoaded l s = { s with pins := v } ∧
    (∀ p : PinId, holdsPin s l p → v[p] = pinTaken (s.pin p)) ∧ ∀ p : PinId, ¬ holdsPin s l p → v[p] = s.pin p := by
  unfold takeLoaded
  split
  · next hoff => exact ⟨s.pins, rfl, fun p hp => absurd hoff hp.1, fun _ _ => rfl⟩
  · next hon =>
    rcases takeTarget_cases (s.lane l).settings s with ⟨q, hk, ht, heq⟩ | ⟨hno, heq⟩
    · refine ⟨_, heq, fun p hp => ?_, fun p hp => ?_⟩
      · obtain rfl : q = p := by simpa [ht] using hp.2.2
        exact setPin_pin_same _ _ _
      · exact setPin_pin_ne s q p _ (by rintro rfl; exact hp ⟨hon, hk, ht⟩)
    · exact ⟨s.pins, heq, fun p hp => absurd hp.2 (hno p), fun _ _ => rfl⟩

theorem pinTaken_pinTaken (p : Pin) : pinTaken (pinTaken p) = pinTaken p := rfl

/-- The lanes of a scene take their pins in any order (R126). -/
theorem foldl_takeLoaded (ls : List LaneId) (s : State) : ∃ v, ls.foldl (fun s l => takeLoaded l s) s = { s with pins := v } ∧
    (∀ p : PinId, (∃ l ∈ ls, holdsPin s l p) → v[p] = pinTaken (s.pin p)) ∧
    ∀ p : PinId, (¬ ∃ l ∈ ls, holdsPin s l p) → v[p] = s.pin p := by
  induction ls generalizing s with
  | nil => exact ⟨s.pins, rfl, fun p hp => by simp at hp, fun _ _ => rfl⟩
  | cons a rest ih =>
    obtain ⟨v, hv, hheld, hfree⟩ := takeLoaded_eq a s
    obtain ⟨w, hw, hheld', hfree'⟩ := ih { s with pins := v }
    refine ⟨w, by rw [List.foldl_cons, hv, hw], fun p hp => ?_, fun p hp => ?_⟩
    · by_cases hrest : ∃ l ∈ rest, holdsPin s l p
      · rw [hheld' p hrest]
        show pinTaken v[p] = _
        by_cases ha : holdsPin s a p
        · rw [hheld p ha, pinTaken_pinTaken]
        · rw [hfree p ha]
      · rw [hfree' p hrest]
        show v[p] = _
        obtain ⟨l, hl, hhold⟩ := hp
        rcases List.mem_cons.1 hl with rfl | hl
        · exact hheld p hhold
        · exact absurd ⟨l, hl, hhold⟩ hrest
    · rw [hfree' p fun ⟨l, hl, hhold⟩ => hp ⟨l, List.mem_cons_of_mem _ hl, hhold⟩]
      exact hfree p fun hhold => hp ⟨a, List.mem_cons_self, hhold⟩

theorem laneOk_loaded {x : SceneLane} (hs : SettingsOk x.settings) (ht : x.off = false → x.settings.target ≠ .none) :
    LaneOk (loadedLane x) := by
  have hoff := laneOk_off (ln := { Lane.reset with settings := x.settings }) hs
  cases ho : x.off with
  | true => simp only [loadedLane, ho]; exact hoff
  | false =>
    simp only [loadedLane, ho]
    exact { hoff with
      off := nofun, arming := fun _ => ⟨rfl, rfl, rfl, rfl, rfl, rfl, rfl⟩, active := nofun, anchor := nofun
      target := fun _ => ht ho }

theorem loadedLane_off (x : SceneLane) : (loadedLane x).state ≠ .off ↔ x.off = false := by
  unfold loadedLane
  cases x.off <;> simp

/-- The items of a scene, before the lanes take their targets. -/
def sceneItems (sc : Scene) (s : State) : State :=
  { s with
    lanes := mapEach sc.lanes fun _ x => loadedLane x
    pins := mapEach sc.pins fun _ x => loadedPin s x
    inputs := mapEach sc.inputs fun _ x => ⟨x, none, none⟩
    ports := mapEach s.ports fun i p => { p with rate := sc.rates[i] }
    grid := { s.grid with meter := sc.meter }
    lead := { s.lead with code := sc.code } }

theorem loadScene_eq (sc : Scene) (s : State) :
    loadScene sc s = (List.finRange 16).foldl (fun s l => takeLoaded l s) (sceneItems sc s) := rfl

/-- The lanes and the pins of a loaded scene agree (R126, R153). -/
theorem pinsOk_loaded {sc : Scene} (hsc : SceneOk sc) {s u : State} {v : Vector Pin 8}
    (hl : ∀ l, u.lane l = loadedLane sc.lanes[l])
    (hheld : ∀ p : PinId, (∃ l, holdsPin u l p) → v[p] = pinTaken (loadedPin s sc.pins[p]))
    (hfree : ∀ p : PinId, (¬ ∃ l, holdsPin u l p) → v[p] = loadedPin s sc.pins[p]) : PinsOk { u with pins := v } := by
  have hiff : ∀ l p, holdsPin u l p ↔
      sc.lanes[l].off = false ∧ sc.lanes[l].settings.kind = .pin ∧ sc.lanes[l].settings.target = .pin p := by
    intro l p
    unfold holdsPin
    rw [hl, loadedLane_off]
    exact Iff.rfl
  refine ⟨fun p => ?_, fun l m p h1 h2 => ?_, fun p => ?_, fun p => ?_⟩
  · show v[p].function = .lane ↔ ∃ l, holdsPin u l p
    by_cases hp : ∃ l, holdsPin u l p
    · rw [hheld p hp]; exact iff_of_true rfl hp
    · rw [hfree p hp]; exact iff_of_false (hsc.pins p) hp
  · obtain ⟨ho, hk, ht⟩ := (hiff l p).1 h1
    obtain ⟨ho', hk', ht'⟩ := (hiff m p).1 h2
    exact hsc.unique l m p ho ho' hk hk' ht ht'
  · show v[p].source.isSome ↔ v[p].function = .indicator
    by_cases hp : ∃ l, holdsPin u l p
    · rw [hheld p hp]; simp [pinTaken]
    · rw [hfree p hp]; exact hsc.sources p
  · show v[p].timing = true → v[p].activeUntil.isSome
    by_cases hp : ∃ l, holdsPin u l p
    · rw [hheld p hp]; simp [pinTaken]
    · rw [hfree p hp]; simp [loadedPin]

/-- Every block but the pins is told on the state before the pins were written. -/
theorem safe_of_pins {u : State} {v : Vector Pin 8} (fru : FruOk u) (followers : FollowersOk u) (house : HouseOk u)
    (lanes : LanesOk u) (ports : PortsOk u) (links : LinksOk u) (store : StoreOk u)
    (pins : PinsOk { u with pins := v }) : Safe { u with pins := v } where
  fru := fru.of_eq rfl rfl
  followers := followers.of_eq (fun _ => rfl) fun _ a b => ⟨a, b⟩
  house := house.of_eq rfl rfl rfl (.inr rfl) fun _ a b => ⟨a, b⟩
  lanes := lanes.of_eq fun _ => rfl
  pins := pins
  ports := ports.of_eq fun _ => rfl
  links := links.of_eq fun _ => rfl
  store := store.of_eq rfl fun _ => rfl

/-- The items of a scene and its pins as the lanes took them. -/
theorem loadScene_pins (sc : Scene) (s : State) : ∃ v, loadScene sc s = { sceneItems sc s with pins := v } ∧
    (∀ p : PinId, (∃ l, holdsPin (sceneItems sc s) l p) → v[p] = pinTaken (loadedPin s sc.pins[p])) ∧
    ∀ p : PinId, (¬ ∃ l, holdsPin (sceneItems sc s) l p) → v[p] = loadedPin s sc.pins[p] := by
  have hpin : ∀ p : PinId, (sceneItems sc s).pin p = loadedPin s sc.pins[p] := fun p => mapEach_get _ _ _
  obtain ⟨v, hv, hheld, hfree⟩ := foldl_takeLoaded (List.finRange 16) (sceneItems sc s)
  refine ⟨v, (loadScene_eq sc s).trans hv, fun p hp => ?_, fun p hp => ?_⟩
  · rw [hheld p (by simpa using hp), hpin]
  · rw [hfree p (by simpa using hp), hpin]

theorem sceneItems_lane (sc : Scene) (s : State) (l : LaneId) : (sceneItems sc s).lane l = loadedLane sc.lanes[l] :=
  mapEach_get _ _ _

theorem sceneItems_input (sc : Scene) (s : State) (i : InputId) :
    (sceneItems sc s).input i = ⟨sc.inputs[i], none, none⟩ := mapEach_get _ _ _

theorem sceneItems_port (sc : Scene) (s : State) (p : PortId) :
    (sceneItems sc s).port p = { s.port p with rate := sc.rates[p] } := mapEach_get _ _ _

theorem houseOk_sceneItems {s : State} (h : HouseOk s) (hu : s.grid.state = .unset) {sc : Scene} (hsc : SceneOk sc) :
    HouseOk (sceneItems sc s) := by
  have hgrid : GridOk { s.grid with meter := sc.meter } := by
    rw [h.grid.unset hu]; exact gridOk_clear hsc.meter
  exact { h with grid := hgrid, lead := { h.lead with } }

theorem storeOk_sceneItems {s : State} (h : StoreOk s) {sc : Scene} (hsc : SceneOk sc) : StoreOk (sceneItems sc s) := by
  refine { h with inputs := fun i => ?_ }
  rw [sceneItems_input]; exact hsc.inputs i

theorem Safe.loadScene {s : State} (h : Safe s) (hu : s.grid.state = .unset) {sc : Scene} (hsc : SceneOk sc) :
    Safe (loadScene sc s) := by
  have hlanes : LanesOk (sceneItems sc s) :=
    ⟨fun l => by rw [sceneItems_lane]; exact laneOk_loaded (hsc.settings l) (hsc.target l)⟩
  have hports : PortsOk (sceneItems sc s) :=
    ⟨fun p => by rw [sceneItems_port]; exact (h.ports.port p).withRate _⟩
  have hhouse := houseOk_sceneItems h.house hu hsc
  have hstore := storeOk_sceneItems h.store hsc
  have hfru : FruOk (sceneItems sc s) := h.fru.of_eq rfl rfl
  have hfollowers : FollowersOk (sceneItems sc s) := h.followers.of_eq (fun _ => rfl) fun _ a b => ⟨a, b⟩
  have hlinks : LinksOk (sceneItems sc s) := h.links.of_eq fun _ => rfl
  obtain ⟨v, hv, hheld, hfree⟩ := loadScene_pins sc s
  rw [hv]
  exact safe_of_pins hfru hfollowers hhouse hlanes hports hlinks hstore
    (pinsOk_loaded hsc (sceneItems_lane sc s) hheld hfree)

theorem StoreOk.withOutcome {s : State} (h : StoreOk s) (o : LoadOutcome) : StoreOk (withOutcome o s) := { h with }

theorem Safe.sceneStep {s : State} (h : Safe s) (hu : s.grid.state = .unset) : Safe (sceneStep s) := by
  unfold Machine.sceneStep
  split
  · exact h.withStore (h.store.withOutcome _)
  · split
    · next sc _ hsc =>
      have hl := h.loadScene hu (h.store.stored sc hsc)
      exact hl.withStore (hl.store.withOutcome _)
    · exact h.withStore (h.store.withOutcome _)

theorem Safe.startPart {s : State} (h : Safe s) : Safe (startPart s) := by
  unfold Machine.startPart
  split
  · next hp =>
    have h1 := h.sceneStep (h.house.before (by simp [hp]))
    have hfits := h1.fru.fits.withCount 1
    exact safe_edit (fru := FruFits.ok hfits rfl)
      (house := { h1.house with before := fun e => absurd rfl e })
  · exact h

/-! ### The scene store (R204 to R206) -/

theorem sceneOk_snapshot {s : State} (h : Safe s) : SceneOk (snapshot s) where
  meter := h.house.grid.meter
  settings := fun l => by simp only [snapshot, mapEach_get]; exact (h.lanes.lane l).settings
  target := fun l ho => by
    simp only [snapshot, mapEach_get, decide_eq_false_iff_not] at ho ⊢
    exact (h.lanes.lane l).target ho
  unique := fun l m p ho ho' hk hk' ht ht' => by
    simp only [snapshot, mapEach_get, decide_eq_false_iff_not] at ho ho' hk hk' ht ht'
    exact h.pins.unique l m p ⟨ho, hk, ht⟩ ⟨ho', hk', ht'⟩
  pins := fun p => by
    simp only [snapshot, mapEach_get, scenePin]
    split
    · simp
    · next hn => exact hn
  sources := fun p => by
    simp only [snapshot, mapEach_get, scenePin]
    split
    · simp
    · exact h.pins.source p
  inputs := fun i => by simp only [snapshot, mapEach_get]; exact h.store.inputs i

theorem Safe.sceneSaveOwner {s : State} (h : Safe s) (st : Station) (tag : Byte) : Safe (sceneSaveOwner st tag s).1 := by
  unfold Machine.sceneSaveOwner
  split
  · exact h
  · split
    · exact h
    · exact h.withStore { h.store with
        saving := fun _ => rfl
        valid := nofun
        answer := by simp
        snapshot := by rintro sc ⟨⟩; exact sceneOk_snapshot h }

theorem Safe.saveEnd {s : State} (h : Safe s) (ok : Bool) : Safe (saveEnd ok s) := by
  unfold Machine.saveEnd
  split
  · exact h
  · next sc hsc =>
    have hst : StoreOk { s with store := storeWritten ok sc s.store } := by
      unfold storeWritten
      split
      · exact { h.store with
          saving := nofun, valid := fun _ => rfl, answer := by simp
          stored := by rintro x ⟨⟩; exact h.store.snapshot sc hsc
          snapshot := nofun }
      · exact { h.store with saving := nofun, valid := nofun, answer := by simp, stored := nofun, snapshot := nofun }
    have hw := h.withStore hst
    unfold saveAnswer
    split
    · exact hw.setLink (linkStays_placeAnswer rfl _)
    · exact hw

/-! ### Grid Clear (R209) -/

/-- In a safe state the lane that holds a pin is found (R153). -/
theorem pinHolder_iff {s : State} (h : PinsOk s) (p : PinId) (l : LaneId) : pinHolder s p = some l ↔ holdsPin s l p := by
  unfold pinHolder
  constructor
  · intro hl
    simpa [holdsPin] using List.find?_some hl
  · intro hl
    cases hf : (List.finRange 16).find? fun l =>
        decide ((s.lane l).state ≠ .off ∧ (s.lane l).settings.kind = .pin ∧ (s.lane l).settings.target = .pin p) with
    | none =>
      have := List.find?_eq_none.1 hf l (List.mem_finRange l)
      exact absurd hl (by simpa [holdsPin] using this)
    | some m =>
      have hm : holdsPin s m p := by simpa [holdsPin] using List.find?_some hf
      rw [h.unique m l p hm hl]

/-- The lanes and the pins after a Clear agree as before it: a pin is released exactly where its lane goes OFF (R160). -/
theorem PinsOk.clear {s t : State} (h : Safe s) (hl : ∀ l, t.lane l = clearLane (s.lane l))
    (hp : ∀ p, t.pin p = clearPin (holderGoesOff s p) (s.pin p)) : PinsOk t := by
  have hsettings : ∀ ln, LaneOk ln → ln.state ≠ .off → (settingsAtClear ln).kind = ln.settings.kind ∧
      (settingsAtClear ln).target = ln.settings.target := by
    intro ln hln _
    unfold settingsAtClear
    split
    · next sp hsp =>
      have hst := (hln.staged sp hsp).stageable
      simp [applyPatch_kind _ (stageable_kind hst), applyPatch_target _ (stageable_target hst)]
    · exact ⟨rfl, rfl⟩
  have hstate : ∀ ln, stateAtClear ln ≠ .off → ln.state ≠ .off := by
    intro ln hne hoff
    exact hne (by simp [stateAtClear, hoff])
  have hiff : ∀ l p, holdsPin t l p ↔ holdsPin s l p ∧ stateAtClear (s.lane l) ≠ .off := by
    intro l p
    unfold holdsPin
    rw [hl l]
    show stateAtClear (s.lane l) ≠ .off ∧ (settingsAtClear (s.lane l)).kind = .pin ∧
      (settingsAtClear (s.lane l)).target = .pin p ↔ _
    constructor
    · rintro ⟨hs, hk, ht⟩
      obtain ⟨hk', ht'⟩ := hsettings _ (h.lanes.lane l) (hstate _ hs)
      exact ⟨⟨hstate _ hs, hk' ▸ hk, ht' ▸ ht⟩, hs⟩
    · rintro ⟨⟨hs, hk, ht⟩, hne⟩
      obtain ⟨hk', ht'⟩ := hsettings _ (h.lanes.lane l) hs
      exact ⟨hne, hk' ▸ hk, ht' ▸ ht⟩
  have hgoes : ∀ l p, holdsPin s l p → (holderGoesOff s p = true ↔ stateAtClear (s.lane l) = .off) := by
    intro l p hhold
    simp [holderGoesOff, (pinHolder_iff h.pins p l).2 hhold]
  refine ⟨fun p => ?_, fun l m p h1 h2 => h.pins.unique l m p ((hiff l p).1 h1).1 ((hiff m p).1 h2).1, fun p => ?_,
    fun p => ?_⟩
  · rw [hp p]
    by_cases hf : (s.pin p).function = .lane
    · obtain ⟨l, hhold⟩ := (h.pins.lane p).1 hf
      by_cases hg : holderGoesOff s p = true
      · simp only [clearPin, hf, hg, if_true, pinReleased, reduceCtorEq, false_iff]
        rintro ⟨m, hm⟩
        obtain ⟨hm, hne⟩ := (hiff m p).1 hm
        exact hne ((hgoes m p hm).1 hg)
      · have hg' : holderGoesOff s p = false := by simpa using hg
        simp only [clearPin, hf, hg', if_true]
        exact iff_of_true (by simp) ⟨l, (hiff l p).2 ⟨hhold, fun e => hg ((hgoes l p hhold).2 e)⟩⟩
    · simp only [clearPin, hf, if_false, false_iff]
      rintro ⟨m, hm⟩
      exact hf ((h.pins.lane p).2 ⟨m, ((hiff m p).1 hm).1⟩)
  · have hsrc := h.pins.source p
    rw [hp p]
    unfold clearPin
    split
    · split <;> simp_all [pinReleased]
    · exact hsrc
  · have htm := h.pins.timer p
    rw [hp p]
    unfold clearPin
    split
    · split <;> simp [pinReleased]
    · exact htm

/-- What a Grid Clear writes, before its indicators and its notice. -/
def clearItems (s : State) : State :=
  { s with
    grid := clearGrid s.grid
    followers := mapEach s.followers fun _ x => { x with phaseError := none }
    lead := clearLead s.lead
    tc := Transport.reset
    lanes := mapEach s.lanes fun _ ln => clearLane ln
    pins := mapEach s.pins fun i p => clearPin (holderGoesOff s i) p
    ports := mapEach s.ports fun i p => clearPort (clearCodes s i) p }

theorem clearPart_eq (s : State) :
    clearPart s = raiseHouse .cleared (showSource .playing (showSource .holdover (clearItems s))) := rfl

theorem LeadOk.clear {x : Lead} (h : LeadOk x) : LeadOk (clearLead x) :=
  { h with
    handover := fun w hw => by
      obtain ⟨w', hw', rfl⟩ := Option.map_eq_some_iff.1 hw
      exact h.handover w' hw' }

theorem Safe.clearItems {s : State} (h : Safe s) : Safe (clearItems s) := by
  have hlane : ∀ l, (Machine.clearItems s).lane l = clearLane (s.lane l) := fun l => mapEach_get _ _ _
  have hpin : ∀ p, (Machine.clearItems s).pin p = clearPin (holderGoesOff s p) (s.pin p) := fun p => mapEach_get _ _ _
  have hport : ∀ p, (Machine.clearItems s).port p = clearPort (clearCodes s p) (s.port p) := fun p => mapEach_get _ _ _
  have hfollower : ∀ i, (Machine.clearItems s).follower i = { s.follower i with phaseError := none } :=
    fun i => mapEach_get _ _ _
  exact {
    fru := h.fru.of_eq rfl rfl
    followers := ⟨fun i => by rw [hfollower]; exact (h.followers.follower i).withoutPhaseError, fun i hp he => by
      rw [hfollower, h.followers.absent i hp he]; rfl⟩
    house := {
      grid := gridOk_clear h.house.grid.meter
      lead := h.house.lead.clear
      transport := by constructor <;> simp [Machine.clearItems, Transport.reset]
      running := nofun
      holdover := nofun
      unset := fun _ => rfl
      before := fun _ => rfl
      absent := h.house.absent }
    lanes := ⟨fun l => by rw [hlane]; exact (h.lanes.lane l).clear⟩
    pins := PinsOk.clear h hlane hpin
    ports := ⟨fun p => by rw [hport]; exact portOk_clearPort _ _⟩
    links := h.links.of_eq fun _ => rfl
    store := h.store.of_eq rfl fun _ => rfl }

theorem Safe.gridClearOwner {s : State} (h : Safe s) (st : Station) (f : List Byte) : Safe (gridClearOwner st f s).1 := by
  unfold Machine.gridClearOwner
  split
  · exact h
  · split
    · exact h
    · split
      · exact h.setLatch _ _
      · rw [clearPart_eq]
        exact ((h.clearItems.showSource _).showSource _).raiseHouse _

/-! ### Every command (O3) -/

/-- Each command keeps a safe state. -/
theorem Safe.exec {s t : State} (h : Safe s) (c : Instr) (ht : exec c s = .next t) : Safe t := by
  cases c with
  | presence st tag f => cases ht; exact h.takeRequest fun _ h _ => h.presenceOwner st f
  | query st tag f => cases ht; exact h.takeRequest fun _ h _ => h.queryOwner st f
  | takeLead st tag f => cases ht; exact h.takeRequest fun _ h hp => h.takeLeadOwner hp st f
  | yield st tag f => cases ht; exact h.takeRequest fun _ h hp => h.yieldOwner hp st
  | seize st tag f => cases ht; exact h.takeRequest fun _ h hp => h.seizeOwner hp st f
  | seizeCodeSet st tag f => cases ht; exact h.takeRequest fun _ h _ => h.seizeCodeSetOwner st f
  | tempo st tag f => cases ht; exact h.takeRequest fun _ h hp => h.tempoOwner hp st f
  | nudge st tag f => cases ht; exact h.takeRequest fun _ h _ => h.nudgeOwner st f
  | setMeter st tag f => cases ht; exact h.takeRequest fun _ h _ => h.setMeterOwner st f
  | mark st tag f => cases ht; exact h.takeRequest fun _ h hp => h.markOwner hp st f
  | inputSet st tag f => cases ht; exact h.takeRequest fun _ h _ => h.inputSetOwner st f
  | transport st tag b => cases ht; exact h.takeRequest fun _ h _ => h.transportOwner st b
  | laneSet st tag f => cases ht; exact h.takeRequest fun _ h _ => h.laneSetOwner st f
  | laneEnable st tag f => cases ht; exact h.takeRequest fun _ h _ => h.laneEnableOwner st f
  | laneDisable st tag f => cases ht; exact h.takeRequest fun _ h _ => h.laneDisableOwner st f
  | laneRelease st tag f => cases ht; exact h.takeRequest fun _ h _ => h.laneReleaseOwner st f
  | pinSet st tag f => cases ht; exact h.takeRequest fun _ h _ => h.pinSetOwner st f
  | portSet st tag f => cases ht; exact h.takeRequest fun _ h _ => h.portSetOwner st f
  | referenceSet st tag f => cases ht; exact h.takeRequest fun _ h hp => h.referenceSetOwner hp st f
  | sceneSave st tag f => cases ht; exact h.takeRequest fun _ h _ => h.sceneSaveOwner st tag
  | gridClear st tag f => cases ht; exact h.takeRequest fun _ h _ => h.gridClearOwner st f
  | unknownKind st kind tag f => cases ht; exact h.whenRunning fun _ => h.takeUnknown st kind tag f
  | sceneSaveComplete ok => cases ht; exact h.whenRunning fun _ => h.saveEnd ok
  | hardwareReset => cases ht; exact h.resetPart
  | rstnRelease x => cases ht; exact h.releasePart x
  | oscillatorStarted => cases ht; exact h.startPart
  | frameEvent o => cases ht; exact h.whenRunning fun hp => h.frameMoment hp o
  | handoverEffect => cases ht; exact h.whenRunning fun _ => h.handoverMoment
  | transportBoundary => cases ht; exact h.whenRunning fun _ => h.transportMoment
  | laneActivation l => cases ht; exact h.whenRunning fun _ => h.activationMoment l
  | stagedPartApply l => cases ht; exact h.whenRunning fun _ => h.stagedMoment l
  | pendingDisableEffect l => cases ht; exact h.whenRunning fun _ => h.disableMoment l
  | pinTimerEnd p => cases ht; exact h.whenRunning fun _ => h.setPin (pinStays_timerEnd _ _)
  | activeUntilExpiry p => cases ht; exact h.whenRunning fun _ => h.setPin (pinStays_activeUntilExpire _ _)
  | lastEmissionExpiry l =>
    cases ht
    exact h.whenRunning fun _ => h.setLane ((h.lanes.lane l).lastEmissionExpire _) (sameHold_lastEmissionExpire _ _)
  | lastStampExpiry st =>
    cases ht
    exact h.whenRunning fun _ => h.setFollower ((h.followers.follower st).followerExpire _) fun he _ => by rw [he]; rfl
  | edgeFrameExpiry i => cases ht; exact h.whenRunning fun _ => h.setInput ((h.store.inputs i).edgeExpire _)
  | markInputEdge i c => cases ht; exact h.whenRunning fun hp => h.inputEdge hp i c
  | wckEdge w o => cases ht; exact h.whenRunning fun hp => h.wckMoment hp w o
  | wckSilence => cases ht; exact h.whenRunning fun hp => h.silence hp
  | switchToExternal o => cases ht; exact h.whenRunning fun hp => h.toExternalMoment hp o
  | switchToInternal o => cases ht; exact h.whenRunning fun hp => h.toInternalMoment hp o
  | characterReceived st c => cases ht; exact h.whenRunning fun hp => h.characterTaken hp st c
  | gapDetected st => cases ht; exact h.whenRunning fun _ => h.setLink (linkStays_gapTest _ _)
  | breakDetected st a => cases ht; exact h.whenRunning fun _ => h.breakMoment st a
  | presenceExpiry st => cases ht; exact h.whenRunning fun _ => h.expiryMoment st
  | leadLapse st => cases ht; exact h.whenRunning fun hp => h.leadLapse hp st
  | followerEmptied st => cases ht; exact h.whenRunning fun _ => h.emptyFollower st
  | linkMessageEnd st => cases ht; exact h.whenRunning fun _ => h.setLink (linkStays_messageEnd _)
  | portCharacterEnd p => cases ht; exact h.whenRunning fun _ => h.setPort (h.ports.port p).charEnd
  | lineReturnsToMark st => cases ht; exact h.whenRunning fun _ => h.setLink (linkStays_lineAtMark _)

/-- Settles O3: the front command keeps a safe state, and the commands that wait take part in no agreement. -/
theorem safeKept : Obligations.SafeKept := by
  intro s t h ht
  unfold step at ht
  split at ht
  · cases ht; exact h
  · next c rest _ => exact (h.withPending rest).exec c ht

end Sys2Proof.Machine
end

section
/-! PROOF. What a handover, a grid start and a change of holder leave, each in one equation (R8, R10, R77, R82). -/

namespace Sys2Proof.Machine

/-! ### The handover (R16, R18, R82) -/

theorem tempoChange_eq (v m : Nat) (g : Grid) : tempoChange v m g =
    if m = 0 ∨ v = g.base then
      { g with
        glide := none, base := v, baseInc := baseIncrement v
        appliedInc := appliedIncrement (baseIncrement v) g.trim }
    else { g with glide := some ⟨g.base, v, m, 0⟩ } := rfl

/-- The grid that a handover leaves is the tempo change to the handover tempo, if there is one (R18). -/
theorem handedOver_tempoChange {t : Terms} {estimate : Option Nat} {g : Grid} : handedOver t estimate g =
    match (match t.tempo with
      | some v => some v
      | none => if t.mode = .mark then estimate else none) with
    | some v => tempoChange v t.followGlide g
    | none => g := by
  unfold handedOver
  cases ht : t.tempo with
  | some v => rfl
  | none => cases hm : t.mode <;> cases estimate <;> rfl

theorem handoverTakes_of {s : State} {w : Handover} (hw : s.lead.handover = some w) :
    handoverTakes s = { s with
      lead := { s.lead with handover := none }
      grid := handedOver w.terms (s.follower w.station).estimate s.grid } := by
  rw [handoverTakes_eq, hw, handedOver_tempoChange]
  rfl

/-- A waiting handover takes effect on a grid, or there is none. -/
theorem handoverTakes_on (s : State) (g : Grid) : handoverTakes { s with grid := g } = { s with
    grid := match s.lead.handover with
      | none => g
      | some w => handedOver w.terms (s.follower w.station).estimate g
    lead := { s.lead with handover := none } } := by
  rw [handoverTakes_eq]
  dsimp only
  cases s.lead.handover with
  | none => rfl
  | some w => dsimp only; rw [handedOver_tempoChange]; rfl

theorem handoverTakes_none {s : State} (hw : s.lead.handover = none) : handoverTakes s = s := by
  simp [handoverTakes, hw]

/-- A handover meets its boundary at a bar crossing, and at a beat crossing under any align but BAR (R81). -/
theorem meetsAlign_iff (a : Align) (c : Crossing) : meetsAlign a c = true ↔ c = .bar ∨ c = .beat ∧ a ≠ .bar := by
  cases a <;> cases c <;> simp [meetsAlign]

theorem handoverAtCrossing_met {s : State} {w : Handover} (hw : s.lead.handover = some w)
    (hc : s.grid.crossing = .bar ∨ s.grid.crossing = .beat ∧ w.align ≠ .bar) :
    handoverAtCrossing s = { s with
      lead := { s.lead with handover := none }
      grid := handedOver w.terms (s.follower w.station).estimate s.grid } := by
  have hm := (meetsAlign_iff w.align s.grid.crossing).2 hc
  simp only [handoverAtCrossing, hw, hm, if_true]
  rw [handoverTakes_of hw]

theorem handoverAtCrossing_waits {s : State} {w : Handover} (hw : s.lead.handover = some w)
    (hc : ¬ (s.grid.crossing = .bar ∨ s.grid.crossing = .beat ∧ w.align ≠ .bar)) : handoverAtCrossing s = s := by
  simp only [handoverAtCrossing, hw, mt (meetsAlign_iff w.align s.grid.crossing).1 hc]
  rfl

theorem handoverAtCrossing_none {s : State} (hw : s.lead.handover = none) : handoverAtCrossing s = s := by
  simp [handoverAtCrossing, hw]

/-! ### The transport boundary (R97) -/

/-- The transport after its boundary beat. -/
def transportAfter (k : TransportKind) (song : BitVec 32) : Transport :=
  match k with
  | .start => ⟨.playing, none, 0⟩
  | .cont => ⟨.playing, none, song⟩
  | .stop => ⟨.stopped, none, song⟩

theorem transportReached_met {s : State} {p : PendingTransport} (hp : s.tc.pending = some p)
    (hb : s.grid.pos.beat = p.boundary) :
    transportReached s = raiseHouse .transport (showSource .playing { s with tc := transportAfter p.kind s.tc.songBar }) := by
  simp only [transportReached, hp, hb, if_true]
  cases p.kind <;> rfl

theorem transportReached_waits {s : State} {p : PendingTransport} (hp : s.tc.pending = some p)
    (hb : s.grid.pos.beat ≠ p.boundary) : transportReached s = s := by
  simp [transportReached, hp, hb]

theorem transportReached_none {s : State} (hp : s.tc.pending = none) : transportReached s = s := by
  simp [transportReached, hp]

/-- Settles O15: the two commands are the crossing's parts, in a started grid. -/
theorem handoverAndTransportTakeEffect : Obligations.HandoverAndTransportTakeEffect := by
  refine ⟨fun s w hp hs hw => ⟨fun hc => ?_, fun hc => ?_⟩, fun s p hp hs hpend => ⟨fun hb => ?_, fun hb => ?_⟩⟩
  · show Host.Outcome.next _ = _
    rw [whenRunning_running hp, handoverMoment, if_neg hs, handoverAtCrossing_met hw hc]
  · show Host.Outcome.next _ = _
    rw [whenRunning_running hp, handoverMoment, if_neg hs, handoverAtCrossing_waits hw]
    rcases hc with hc | ⟨hc, ha⟩ <;> simp [hc]
    simpa using ha
  · show Host.Outcome.next _ = _
    rw [whenRunning_running hp, transportMoment, if_neg hs, transportReached_met hpend hb]
    cases p.kind <;> rfl
  · show Host.Outcome.next _ = _
    rw [whenRunning_running hp, transportMoment, if_neg hs, transportReached_waits hpend hb]

/-! ### The grid start (R8, R10, R111) -/

theorem pointFrac_zero (x : Settings) : pointFrac x 0 = 0 := by
  unfold pointFrac
  split <;> simp

/-- The first point of a lane started at beat 0 is the start of beat 0 (R111). -/
theorem firstPoint_start {x : Settings} (hx : RateOk x.kind x.rate) :
    firstPoint x (anchorAt x.rate 0) false (Pos.beatStart 0) = ⟨0, 0, 0⟩ := by
  unfold firstPoint
  cases hr : x.rate with
  | perBeat p =>
    have hp : 1 ≤ p := by
      have hlimit : clampNat 1 (if x.kind = .notice then 4 else 96) p = p := by
        simpa only [hr, RateOk, limitRate, Rate.perBeat.injEq] using hx
      have hrange := clampNat_range (lo := 1) (hi := if x.kind = .notice then 4 else 96) p (by split <;> decide)
      omega
    obtain ⟨n, rfl⟩ : ∃ n, p = n + 1 := ⟨p - 1, by omega⟩
    simp [List.range_succ_eq_map, pointFrac_zero, pointAt, Pos.beatStart]
  | every q => simp [anchorAt, firstBeat, Pos.beatStart, pointAt, pointFrac_zero]
  | perBar => simp [firstBeat, Pos.beatStart, pointAt, pointFrac_zero]

/-- A lane in ARMING when the grid starts (R111). -/
def laneStarted (ln : Lane) : Lane :=
  { ln with
    state := .active, activation := none, nextPoint := some ⟨0, 0, 0⟩
    anchor := match ln.settings.rate with
      | .every _ => some 0
      | _ => none }

theorem startLane_eq {ln : Lane} (h : LaneOk ln) :
    startLane ln = if ln.state = .arming then laneStarted ln else ln := by
  unfold startLane
  split
  · have hf := firstPoint_start h.settings.rate
    unfold activateLane laneStarted
    rw [show (Pos.beatStart 0).beat = 0 from rfl, hf]
    congr 1
    cases ln.settings.rate <;> rfl
  · rfl

theorem pulsedAtStart_eq (count : Frame) (p : Pin) : pulsedAtStart count p =
    if p.function = .indicator ∧ (p.source = some .beat ∨ p.source = some .bar) then
      activate count Config.indicatorFrames p
    else p := rfl

/-- The indicators at a crossing of a bar pulse as at the start. -/
theorem pdCrossing_bar {s : State} (hc : s.grid.crossing = .bar) :
    pdCrossing s = { s with pins := mapEach s.pins fun _ p => pulsedAtStart s.fru.count p } := by
  unfold pdCrossing
  dsimp only
  rw [if_pos hc]
  unfold pulseSource
  congr 1
  ext i hi
  simp only [mapEach_getElem, pulsedAtStart_eq]
  by_cases hf : s.pins[i].function = .indicator
  · by_cases hbeat : s.pins[i].source = some .beat
    · simp [hf, hbeat, activate]
    · simp [hf, hbeat]
  · simp [hf]

/-- A start while the transport is STOPPED with nothing pending: the waiting handover takes effect, lanes start and pins
pulse (R10). -/
theorem startGrid_eq {s : State} (hst : s.tc.state = .stopped) (hp : s.tc.pending = none) (t e : Nat) :
    startGrid t e s = { s with
      grid := match s.lead.handover with
        | none => startedGrid t e s.grid
        | some w => handedOver w.terms (s.follower w.station).estimate (startedGrid t e s.grid)
      lead := { s.lead with handover := none }
      lanes := mapEach s.lanes fun _ ln => startLane ln
      pins := mapEach s.pins fun _ p => pulsedAtStart s.fru.count p } := by
  have htc : ∀ u : State, u.tc = s.tc → tcCrossing u = u := by
    intro u hu
    have hcount : countSongBar u = u := by simp [countSongBar, hu, hst]
    unfold tcCrossing
    rw [hcount]
    exact transportReached_none (hu ▸ hp)
  unfold startGrid
  dsimp only
  rw [htc _ (by simp), pdCrossing_bar (by simp [startedGrid]), handoverTakes_on]

/-- A grid started at its set tempo, whatever handover of that tempo waited (R8, R10). -/
theorem handedOver_startedGrid {t : Terms} {v : Nat} (ht : t.tempo = some v) (estimate : Option Nat) (g : Grid) :
    handedOver t estimate (startedGrid v 0 g) = startedAt v g := by
  simp [handedOver, ht, startedGrid, startedAt, appliedIncrement, appliedPart, Pos.beatStart, Pos.add, Pos.ofU, Pos.toU]

theorem startedGrid_zero (v : Nat) (g : Grid) : startedGrid v 0 g = startedAt v g := by
  simp [startedGrid, startedAt, Pos.beatStart, Pos.add, Pos.ofU, Pos.toU]

theorem startGrid_at {s : State} (hst : s.tc.state = .stopped) (hp : s.tc.pending = none) {v : Nat}
    (hw : ∀ w, s.lead.handover = some w → w.terms.tempo = some v) :
    startGrid v 0 s = { s with
      grid := startedAt v s.grid
      lead := { s.lead with handover := none }
      lanes := mapEach s.lanes fun _ ln => startLane ln
      pins := mapEach s.pins fun _ p => pulsedAtStart s.fru.count p } := by
  rw [startGrid_eq hst hp]
  congr 1
  cases hh : s.lead.handover with
  | none => exact startedGrid_zero v s.grid
  | some w => exact handedOver_startedGrid (hw w hh) _ _

/-- In a safe state whose grid is UNSET the transport is STOPPED with nothing pending (R90, R102). -/
theorem Safe.unset_transport {s : State} (h : Safe s) (hs : s.grid.state = .unset) :
    s.tc.state = .stopped ∧ s.tc.pending = none := by
  have hst := h.house.unset hs
  refine ⟨hst, ?_⟩
  have := h.house.transport.pending
  simpa [hst] using this

/-- What a start leaves of the state it starts from, where the rest of it is that of another. -/
theorem startedTo_of {new : LeadEntry} {q : List LeadEntry} {v : Nat} {s u : State}
    (hlanes : ∀ l, LaneOk (s.lane l)) (hgrid : u.grid = startedAt v s.grid)
    (hlead : u.lead = { s.lead with holder := some new, queue := q, handover := none })
    (hlane : ∀ l, u.lane l = startLane (s.lane l)) (hpin : ∀ p, u.pin p = pulsedAtStart s.fru.count (s.pin p))
    (hrest : u.fru = s.fru ∧ u.tc = s.tc ∧ u.followers = s.followers ∧ u.inputs = s.inputs ∧ u.ports = s.ports ∧
      u.links = s.links ∧ u.rotation = s.rotation ∧ u.store = s.store ∧ u.straps = s.straps ∧ u.phase = s.phase) :
    StartedTo new q v s u :=
  ⟨hgrid, hlead, fun l => by rw [hlane l, startLane_eq (hlanes l)]; rfl, hpin, hrest⟩

end Sys2Proof.Machine
end

section
/-! PROOF. The requests of the Grid Engine: Tempo, Nudge and Set Meter (R8, R16, R23 to R25; O22, O23, O24). -/

namespace Sys2Proof.Machine

/-! ### The fields of a Tempo -/

theorem tempoTarget_sent {target glide : Nat} (ht : target < 16777216) :
    tempoTarget (be3 target ++ be1 glide) = target := f3_be3 target ht _

theorem tempoGlide_sent {target glide : Nat} (hg : glide < 256) : tempoGlide (be3 target ++ be1 glide) = glide :=
  f1_be1' glide hg

theorem clampTempo_eq (v : Nat) : clampNat Config.tempoMin Config.tempoMax v = min 300000 (max 40000 v) :=
  clampNat_eq v (by decide)

theorem clampGlide_eq (m : Nat) : clampNat 0 32 m = min 32 m := by
  rw [clampNat_eq m (by omega)]; omega

theorem exec_tempo {s : State} {st : Station} {tag : Byte} {target glide : Nat}
    (hc : canTake st 0x07 tag (be3 target ++ be1 glide) s) :
    exec (.tempo st tag (be3 target ++ be1 glide)) s =
      .next (placeReply st 0x07 tag (tempoOwner st (be3 target ++ be1 glide) (afterTaking st s)).2
        (tempoOwner st (be3 target ++ be1 glide) (afterTaking st s)).1) :=
  congrArg Host.Outcome.next (takeRequest_taken hc (by simp [be3, be1]))

theorem tempoOwner_mark {s : State} {st : Station} {t : Terms} {f : List Byte} (hh : s.lead.holder = some ⟨st, t⟩)
    (hm : t.mode = .mark) : tempoOwner st f s = answered .wrongMode 0 s := by
  simp [tempoOwner, holderTerms_of_holder hh, hm]

theorem tempoOwner_set {s : State} {st : Station} {t : Terms} {target glide : Nat} (hh : s.lead.holder = some ⟨st, t⟩)
    (hm : t.mode = .set) (ht : target < 16777216) (hg : glide < 256) :
    tempoOwner st (be3 target ++ be1 glide) s = tempoWith (min 300000 (max 40000 target)) (min 32 glide)
      (decide (min 300000 (max 40000 target) ≠ target ∨ min 32 glide ≠ glide)) s := by
  simp only [tempoOwner, holderTerms_of_holder hh, hm, tempoTarget_sent ht, tempoGlide_sent hg, clampTempo_eq,
    clampGlide_eq]
  rfl

theorem tempoWith_started {s : State} (hs : s.grid.state ≠ .unset) (v m : Nat) (c : Bool) : tempoWith v m c s =
    ({ dropHandover s with grid := tempoChange v m s.grid },
      .answer (clampedOr c (if v = s.grid.base ∧ s.grid.glide = none ∧ s.lead.handover = none then .noChange else .ok)) 0) := by
  simp [tempoWith, hs]

theorem clampedOr_decide (p : Prop) [Decidable p] (r : ResultCode) :
    clampedOr (decide p) r = if p then .clamped else r := by
  simp [clampedOr]

/-- Settles O22: the Tempo of a holder on a RUNNING grid is a tempo change. -/
theorem tempoChangesTheBase : Obligations.TempoChangesTheBase := by
  intro s st tag target glide t ht hg hc hh hs
  refine ⟨fun hm => ?_, fun hm => ?_⟩
  · rw [exec_tempo hc, tempoOwner_mark (s := afterTaking st s) hh hm]
    rfl
  · have hu : (afterTaking st s).grid.state ≠ .unset := by simp [hs]
    rw [exec_tempo hc, tempoOwner_set (s := afterTaking st s) hh hm ht hg, tempoWith_started hu, clampedOr_decide, tempoChange_eq]
    rfl

/-- Settles O23: the start is the one of R10, at the tempo set, with no handover left to wait. -/
theorem tempoStartsTheGrid : Obligations.TempoStartsTheGrid := by
  intro s st tag target glide t hsafe ht hg hc hh hm hs
  have hu : (afterTaking st s).grid.state = .unset := hs
  obtain ⟨hst, hpend⟩ := hsafe.unset_transport hs
  have hpm : s.grid.pendingMeter = none := by rw [hsafe.house.grid.unset hs]; rfl
  have hstart := startGrid_at (s := dropHandover (afterTaking st s)) hst hpend (v := min 300000 (max 40000 target)) nofun
  have hlane : ∀ l, ((startGrid (min 300000 (max 40000 target)) 0 (dropHandover (afterTaking st s))).lane l) =
      if (s.lane l).state = .arming then laneStarted (s.lane l) else s.lane l := by
    intro l
    rw [hstart]
    exact (mapEach_get _ _ _).trans (startLane_eq (hsafe.lanes.lane l))
  refine ⟨startGrid (min 300000 (max 40000 target)) 0 (dropHandover (afterTaking st s)), ?_, ?_, ?_, ?_, ?_, ?_, ?_, ?_,
    ?_, ?_, ?_, ?_, ?_, fun l hl => ?_, fun l hl => ?_, fun p => ?_⟩
  · rw [exec_tempo hc, tempoOwner_set (s := afterTaking st s) hh hm ht hg, tempoWith, if_pos hu]
    dsimp only
    rw [clampedOr_decide]
  · rw [hstart]; rfl
  · rw [hstart]; rfl
  · rw [hstart]; rfl
  · rw [hstart, ← hpm]; rfl
  · rw [hstart]; rfl
  · rw [hstart]; rfl
  · rw [hstart]; rfl
  · rw [hstart]; rfl
  · rw [hstart]; rfl
  · rw [hstart]; rfl
  · rw [hstart]; rfl
  · rw [hstart]; rfl
  · rw [hlane, if_neg hl]
  · rw [hlane, if_pos hl]; rfl
  · rw [hstart]; exact mapEach_get _ _ _

/-! ### Nudge (R24) and Set Meter (R25) -/

theorem holds_of_holder {s : State} {st : Station} {t : Terms} (hh : s.lead.holder = some ⟨st, t⟩) : holds s st = true :=
  (holds_iff s st).2 ⟨_, hh, rfl⟩

theorem nudgeOwner_unset {s : State} {st : Station} {t : Terms} {f : List Byte} (hh : s.lead.holder = some ⟨st, t⟩)
    (hs : s.grid.state = .unset) : nudgeOwner st f s = answered .notStarted 0 s := by
  simp [nudgeOwner, holds_of_holder hh, hs]

theorem nudgeOwner_started {s : State} {st : Station} {t : Terms} {f : List Byte} (hh : s.lead.holder = some ⟨st, t⟩)
    (hs : s.grid.state ≠ .unset) : nudgeOwner st f s =
      if clampInt (-64) 64 (nudgeAmount f) = 0 then answered .noChange 0 s
      else ({ s with grid := armTrim (nudgeError (clampInt (-64) 64 (nudgeAmount f))) 8 s.grid },
        .answer (clampedOr (decide (clampInt (-64) 64 (nudgeAmount f) ≠ nudgeAmount f))
          (if hasArmed s.grid.trim then .replaced else .ok)) 0) := by
  simp [nudgeOwner, holds_of_holder hh, hs]

theorem nudgeAmount_single (v : Byte) : nudgeAmount [v] = v.toInt := rfl

theorem meterField_single (v : Byte) : meterField [v] = v.toNat := rfl

/-- The clamped amount of a Nudge is 0 only where the amount is. -/
theorem clampNudge_zero (v : Byte) : min 64 (max (-64) v.toInt) = 0 ↔ v = 0 := by
  constructor
  · intro h
    have h0 : v.toInt = 0 := by omega
    exact BitVec.eq_of_toInt_eq (by simpa using h0)
  · rintro rfl; decide

theorem exec_nudge {s : State} {st : Station} {tag v : Byte} (hc : canTake st 0x08 tag [v] s) :
    exec (.nudge st tag [v]) s =
      .next (placeReply st 0x08 tag (nudgeOwner st [v] (afterTaking st s)).2 (nudgeOwner st [v] (afterTaking st s)).1) :=
  congrArg Host.Outcome.next (takeRequest_taken hc (by simp))

theorem exec_setMeter {s : State} {st : Station} {tag v : Byte} (hc : canTake st 0x09 tag [v] s) :
    exec (.setMeter st tag [v]) s =
      .next (placeReply st 0x09 tag (setMeterOwner st [v] (afterTaking st s)).2
        (setMeterOwner st [v] (afterTaking st s)).1) :=
  congrArg Host.Outcome.next (takeRequest_taken hc (by simp))

theorem setMeterOwner_refused {s : State} {st : Station} {t : Terms} {v : Byte} (hh : s.lead.holder = some ⟨st, t⟩)
    (hv : v.toNat = 0 ∨ 16 < v.toNat) : setMeterOwner st [v] s = answered .badField 0 s := by
  simp [setMeterOwner, holds_of_holder hh, meterField_single, hv]

theorem setMeterOwner_accepted {s : State} {st : Station} {t : Terms} {v : Byte} (hh : s.lead.holder = some ⟨st, t⟩)
    (h1 : 1 ≤ v.toNat) (h2 : v.toNat ≤ 16) : setMeterOwner st [v] s =
      if s.grid.state = .unset then meterAtOnce v.toNat s else meterPending v.toNat s := by
  have hv : ¬ (v.toNat = 0 ∨ 16 < v.toNat) := by omega
  simp [setMeterOwner, holds_of_holder hh, meterField_single, hv]

theorem meterAtOnce_held {s : State} {m : Nat} (hm : m = s.grid.meter) : meterAtOnce m s =
    ({ s with grid := { s.grid with meter := m, pendingMeter := none } }, .answer .noChange 0) := if_pos hm

theorem meterAtOnce_new {s : State} {m : Nat} (hm : m ≠ s.grid.meter) : meterAtOnce m s =
    (raiseHouse .meter { s with grid := { s.grid with meter := m, pendingMeter := none } }, .answer .ok 0) := if_neg hm

theorem meterPending_replaced {s : State} {n : Nat} (hn : s.grid.pendingMeter = some n) (m : Nat) : meterPending m s =
    ({ s with grid := { s.grid with pendingMeter := some m } }, .answer .replaced 0) := by
  simp [meterPending, hn]

theorem meterPending_held {s : State} {m : Nat} (hn : s.grid.pendingMeter = none) (hm : m = s.grid.meter) :
    meterPending m s = answered .noChange 0 s := by
  simp [meterPending, hn, hm]

theorem meterPending_new {s : State} {m : Nat} (hn : s.grid.pendingMeter = none) (hm : m ≠ s.grid.meter) :
    meterPending m s = ({ s with grid := { s.grid with pendingMeter := some m } }, .answer .ok 0) := by
  simp [meterPending, hn, hm]

/-- Settles O24: a Nudge arms a trim by its table, and a Set Meter writes the meter or the pending one. -/
theorem nudgeAndSetMeter : Obligations.NudgeAndSetMeter := by
  intro s st tag v t hh
  refine ⟨fun hc => ⟨fun hs => ?_, fun hs hv => ?_, fun hs hv => ?_⟩,
    fun hc => ⟨fun hv => ?_, fun h1 h2 hs => ?_, fun h1 h2 hs => ?_⟩⟩
  · rw [exec_nudge hc, nudgeOwner_unset (s := afterTaking st s) hh hs]; rfl
  · rw [exec_nudge hc, nudgeOwner_started (s := afterTaking st s) hh hs, nudgeAmount_single, clampInt_eq _ (by decide),
      if_pos ((clampNudge_zero v).2 hv)]
    rfl
  · rw [exec_nudge hc, nudgeOwner_started (s := afterTaking st s) hh hs, nudgeAmount_single, clampInt_eq _ (by decide),
      if_neg (mt (clampNudge_zero v).1 hv)]
    dsimp only
    rw [clampedOr_decide]
    cases htrim : s.grid.trim <;>
      simp only [afterTaking_grid, armTrim, trimArmed, trimDelta, nudgeError, hasArmed, htrim] <;> rfl
  · rw [exec_setMeter hc, setMeterOwner_refused (s := afterTaking st s) hh hv]; rfl
  · have hu : (afterTaking st s).grid.state = .unset := hs
    rw [exec_setMeter hc, setMeterOwner_accepted (s := afterTaking st s) hh h1 h2, if_pos hu]
    by_cases hm : v.toNat = s.grid.meter
    · rw [meterAtOnce_held (s := afterTaking st s) hm]
      exact (if_pos hm).mpr rfl
    · rw [meterAtOnce_new (s := afterTaking st s) hm]
      exact (if_neg hm).mpr rfl
  · have hu : ¬ (afterTaking st s).grid.state = .unset := hs
    rw [exec_setMeter hc, setMeterOwner_accepted (s := afterTaking st s) hh h1 h2, if_neg hu]
    cases hpm : s.grid.pendingMeter with
    | some n => rw [meterPending_replaced (s := afterTaking st s) hpm]; rfl
    | none =>
      by_cases hm : v.toNat = s.grid.meter
      · rw [meterPending_held (s := afterTaking st s) hpm hm]
        exact (if_pos hm).mpr rfl
      · rw [meterPending_new (s := afterTaking st s) hpm hm]
        exact (if_neg hm).mpr rfl

end Sys2Proof.Machine
end

section
/-! PROOF. The lead: a change of holder in one equation, the terms a request carries, and the requests and the departure
that move the lead (R67 to R84; O33 to O36, O38). -/

namespace Sys2Proof.Machine

/-! ### The terms a request carries (R68, R195) -/

theorem readMode_modeByte (m : LeadMode) : readMode (modeByte m).toNat = some m := by cases m <;> rfl

theorem readAlign_alignByte (a : Align) : readAlign (alignByte a).toNat = some a := by cases a <;> rfl

/-- The six fields come back as they were sent. -/
theorem sent_fields {x : Sent} (hx : x.Fits) : f1 x.bytes 0 = (modeByte x.mode).toNat ∧ f1 x.bytes 1 = x.glide ∧
    f2 x.bytes 2 = x.dead ∧ f1 x.bytes 4 = x.gain ∧ f1 x.bytes 5 = (alignByte x.align).toNat ∧ f3 x.bytes 6 = x.tempo := by
  obtain ⟨hglide, hdead, hgain, htempo⟩ := hx
  exact ⟨rfl, f1_be1 x.glide hglide (be2 x.dead ++ (be1 x.gain ++ (alignByte x.align :: be3 x.tempo))),
    f2_be2 x.dead hdead (be1 x.gain ++ (alignByte x.align :: be3 x.tempo)),
    f1_be1 x.gain hgain (alignByte x.align :: be3 x.tempo), rfl, f3_be3' x.tempo htempo⟩

theorem clamp_dead (n : Nat) : clampNat 0 1000 n = min 1000 n := by rw [clampNat_eq n (by omega)]; omega

theorem clamp_gain (n : Nat) : clampNat 1 8 n = min 8 (max 1 n) := clampNat_eq n (by omega)

theorem readTerms_sent {x : Sent} (hx : x.Fits) : readTerms x.bytes 0 = some (x.terms, x.clamped) := by
  obtain ⟨hm, hg, hd, hn, ha, ht⟩ := sent_fields hx
  unfold readTerms
  simp only [hm, hg, hd, hn, ha, ht, Nat.zero_add, readMode_modeByte, readAlign_alignByte, clampGlide_eq, clamp_dead,
    clamp_gain, clampTempo_eq, Option.some.injEq, Prod.mk.injEq]
  refine ⟨rfl, ?_⟩
  unfold Sent.clamped
  rw [decide_eq_decide]
  omega

theorem readTerms_afterCode (c : BitVec 16) (f : List Byte) : readTerms (be2 c.toNat ++ f) 2 = readTerms f 0 := rfl

/-- A mode or an align outside its list. -/
theorem readTerms_refused {f : List Byte} {i : Nat} (h : 1 < f1 f i ∨ 2 < f1 f (i + 5)) : readTerms f i = none := by
  unfold readTerms
  split
  · next hm ha =>
    exfalso
    rcases h with h | h
    · unfold readMode at hm; split at hm <;> first | omega | cases hm
    · unfold readAlign at ha; split at ha <;> first | omega | cases ha
  · rfl

theorem sent_length (x : Sent) : x.bytes.length = 9 := by simp [Sent.bytes, be1, be2, be3]

/-! ### A change of holder that does not start the grid (R77, R78, R82) -/

@[simp] theorem phaseHandOff_follower_estimate (s : State) (i : Station) :
    ((phaseHandOff s).follower i).estimate = (s.follower i).estimate := by
  unfold phaseHandOff removePhaseError
  split
  · rw [setFollower_follower]; split
    · next e => rw [e]
    · rfl
  · rfl

/-- The grid a change of holder works on: no trim, and the latest crossing is no boundary for the new holder. -/
def gridHandled (g : Grid) : Grid := { g with trim := .none, appliedInc := g.baseInc, crossing := .none }

/-- The lead a change of holder writes, a handover to the new holder waiting. -/
def leadHandled (new : Option LeadEntry) (q : List LeadEntry) (g : Grid) (x : Lead) : Lead :=
  { x with holder := new, queue := q, handover := new.map fun e => newHandover e g }

theorem changeHolder_eq (new : Option LeadEntry) (q : List LeadEntry) (r : Reason) (s : State) :
    changeHolder new q r s = raiseHouse r (showSource .holdover (showSource .leadHeld (gridHandOff
      { phaseHandOff s with grid := gridHandled s.grid, lead := leadHandled new q s.grid s.lead }))) := by
  unfold changeHolder
  dsimp only
  simp only [phaseHandOff_keeps]
  rfl

/-- Without a holder a grid that is not in HOLDOVER enters it, or stays UNSET (R78). -/
theorem gridHandOff_empty {u : State} {g : Grid} {x : Lead} {est : Option Nat} (hx : x.holder = none)
    (hs : g.state ≠ .holdover) : gridHandOff { u with grid := gridHandled g, lead := x } =
      { u with grid := gridAfterChange none est g, lead := x } := by
  unfold gridHandOff
  simp only [hx]
  cases hg : g.state <;> simp_all [gridAfterChange, gridHandled, enterHoldover, removeTrim]

/-- In UNSET without a tempo the grid and the record stay (R77). -/
theorem gridHandOff_unset {u : State} {g : Grid} {x : Lead} {e : LeadEntry} {est : Option Nat} (hx : x.holder = some e)
    (hs : g.state = .unset) (ht : e.terms.tempo = none) :
    gridHandOff { u with grid := gridHandled g, lead := x } =
      { u with grid := gridAfterChange (some e) est g, lead := x } := by
  unfold gridHandOff
  simp only [hx, gridHandled, hs, ht]
  simp [gridAfterChange, hs]

/-- A started grid runs, and a handover of align NOW takes effect (R77, R82). -/
theorem gridHandOff_started {u : State} {g : Grid} {x : Lead} {e : LeadEntry} (hx : x.holder = some e)
    (hw : x.handover = some (newHandover e g)) (hs : g.state ≠ .unset) :
    gridHandOff { u with grid := gridHandled g, lead := x } =
      { u with
        grid := gridAfterChange (some e) (u.follower e.station).estimate g
        lead := { x with handover := handoverAfterChange (some e) g } } := by
  have hrun : gridHandOff { u with grid := gridHandled g, lead := x } =
      if e.terms.align = .now then handoverTakes { u with grid := { gridHandled g with state := .running }, lead := x }
      else { u with grid := { gridHandled g with state := .running }, lead := x } := by
    unfold gridHandOff
    cases hg : g.state <;> simp_all [gridHandled]
  have hgrid : gridAfterChange (some e) (u.follower e.station).estimate g =
      if e.terms.align = .now then
        handedOver e.terms (u.follower e.station).estimate { gridHandled g with state := .running }
      else { gridHandled g with state := .running } := by
    unfold gridAfterChange
    cases hg : g.state <;> simp_all [gridHandled]
  rw [hrun, hgrid]
  by_cases ha : e.terms.align = .now
  · rw [if_pos ha, if_pos ha, handoverTakes_of (s := { u with grid := _, lead := x }) hw]
    simp [handoverAfterChange, hs, ha, newHandover]
    rfl
  · rw [if_neg ha, if_neg ha]
    have hx' : x = { x with handover := handoverAfterChange (some e) g } := by
      rw [handoverAfterChange, if_neg hs, if_neg ha]
      cases x
      simp only [newHandover, hs, decide_false, Lead.mk.injEq] at *
      simp_all
    rw [← hx']

theorem leadHandedOn_eq (r : Reason) (g : Grid) (x : Lead) (s : State) : leadHandedOn r g x s =
    raiseHouse r (showSource .holdover (showSource .leadHeld { phaseHandOff s with grid := g, lead := x })) := by
  unfold leadHandedOn phaseHandOff removePhaseError
  cases s.lead.holder <;> rfl

/-- The change of holder where the grid does not start is what R77 writes and tells. A grid in HOLDOVER has no holder to
lose. -/
theorem changeHolder_changedTo {new : Option LeadEntry} {s : State} (hn : startsAt new s.grid = none)
    (hs : new = none → s.grid.state ≠ .holdover) (q : List LeadEntry) (r : Reason) :
    changeHolder new q r s = changedTo r new q s := by
  rw [changeHolder_eq, changedTo, leadHandedOn_eq]
  congr 3
  cases new with
  | none => exact gridHandOff_empty rfl (hs rfl)
  | some e =>
    by_cases hu : s.grid.state = .unset
    · have ht : e.terms.tempo = none := by simpa [startsAt, hu] using hn
      rw [gridHandOff_unset rfl hu ht]
      simp [leadHandled, handoverAfterChange, hu, newHandover]
      rfl
    · rw [gridHandOff_started (e := e) rfl rfl hu]
      simp only [phaseHandOff_follower_estimate]
      rfl

/-! ### A change of holder that starts the grid (R8, R77) -/

theorem phaseHandOff_follower (s : State) (i : Station) : (phaseHandOff s).follower i =
    if s.lead.holder.map LeadEntry.station = some i then { s.follower i with phaseError := none } else s.follower i := by
  unfold phaseHandOff removePhaseError
  cases hh : s.lead.holder with
  | none => simp
  | some e =>
    simp only [Option.map_some, Option.some.injEq]
    rw [setFollower_follower]
    by_cases he : i = e.station
    · subst he; simp
    · simp [he, Ne.symm he]

theorem phaseHandOff_followers (s : State) : (phaseHandOff s).followers = (passedOn s).followers := by
  ext i hi
  have h := (phaseHandOff_follower s ⟨i, hi⟩).trans (passedOn_follower s ⟨i, hi⟩).symm
  exact h

/-- The indicators of the lead and the pulses of a start fall on different pins. -/
theorem leadShown_pulsed (count : Frame) (p : Pin) :
    leadShown (pulsedAtStart count p) = pulsedAtStart count (leadShown p) := by
  unfold leadShown pulsedAtStart
  by_cases hf : p.function = .indicator
  · by_cases h1 : p.source = some .leadHeld
    · simp [hf, h1]
    · by_cases h2 : p.source = some .holdover
      · simp [hf, h2]
      · by_cases h3 : p.source = some .beat ∨ p.source = some .bar
        · rcases h3 with h3 | h3 <;> simp [hf, h3]
        · simp [hf, h1, h2, h3]
  · simp [hf]

/-- The indicators of the lead under a holder whose grid runs (R161). -/
theorem showLead_pin {s : State} (hh : s.lead.holder.isSome) (hs : s.grid.state = .running) (p : PinId) :
    (showSource .holdover (showSource .leadHeld s)).pin p = leadShown (s.pin p) := by
  have h1 : levelOf s .leadHeld = some true := by simp [levelOf, hh]
  have h2 : levelOf (showSource .leadHeld s) .holdover = some false := by simp [levelOf, hs]
  rw [showSource_pin, h2]
  dsimp only
  rw [showSource_pin, h1]
  dsimp only
  unfold leadShown
  by_cases hf : (s.pin p).function = .indicator
  · by_cases hsrc : (s.pin p).source = some .leadHeld <;> simp [hf, hsrc]
  · simp [hf]

/-- Only an UNSET grid starts (R8). -/
theorem startsAt_unset {new : Option LeadEntry} {g : Grid} {v : Nat} (hv : startsAt new g = some v) :
    g.state = .unset := by
  unfold startsAt at hv
  split at hv
  · assumption
  · cases hv

/-- R8, R77: the change to this holder starts the grid at its tempo. -/
theorem changeHolder_starts {s : State} (hlanes : ∀ l, LaneOk (s.lane l))
    (htc : s.tc.state = .stopped ∧ s.tc.pending = none) {new : LeadEntry} {v : Nat}
    (hv : startsAt (some new) s.grid = some v) (q : List LeadEntry) (r : Reason) :
    ∃ u, changeHolder (some new) q r s = raiseHouse r u ∧ StartedTo new q v (passedOn s) u := by
  have hs := startsAt_unset hv
  have ht : new.terms.tempo = some v := by simpa [startsAt, hs] using hv
  obtain ⟨hst, hpend⟩ := htc
  refine ⟨_, changeHolder_eq _ _ _ _, ?_⟩
  have hstart : gridHandOff
      { phaseHandOff s with grid := gridHandled s.grid, lead := leadHandled (some new) q s.grid s.lead } =
      startGrid v 0 { phaseHandOff s with grid := gridHandled s.grid, lead := leadHandled (some new) q s.grid s.lead } := by
    unfold gridHandOff
    simp [leadHandled, gridHandled, hs, ht]
  rw [hstart, startGrid_at (v := v) (by simpa using hst) (by simpa using hpend)
    (by rintro w ⟨⟩; exact ht)]
  refine startedTo_of hlanes ?_ ?_ (fun l => ?_) (fun p => ?_) ?_
  · simp only [showSource_grid]; rfl
  · simp only [showSource_lead]; rfl
  · rw [showSource_lane, showSource_lane]
    refine (mapEach_get _ _ _).trans ?_
    rw [passedOn_lane, ← show (phaseHandOff s).lanes[l] = s.lane l from by simp [State.lane]]
  · rw [showLead_pin rfl rfl, passedOn_pin, ← leadShown_pulsed]
    congr 1
    refine (mapEach_get _ _ _).trans ?_
    simp [State.pin]
  · simp [phaseHandOff_followers, passedOn]

end Sys2Proof.Machine
end

section
/-! PROOF. Take Lead, Yield, Seize and a departure (O33 to O36, O38). -/

namespace Sys2Proof.Machine

/-! ### The requests as they are taken -/

theorem exec_takeLead {s : State} {st : Station} {tag : Byte} {f : List Byte} (hc : canTake st 0x03 tag f s)
    (hf : f.length = 9) : exec (.takeLead st tag f) s =
      .next (placeReply st 0x03 tag (takeLeadOwner st f (afterTaking st s)).2 (takeLeadOwner st f (afterTaking st s)).1) :=
  congrArg Host.Outcome.next (takeRequest_taken hc (by simp [hf]))

theorem exec_yield {s : State} {st : Station} {tag : Byte} (hc : canTake st 0x04 tag [] s) :
    exec (.yield st tag []) s =
      .next (placeReply st 0x04 tag (yieldOwner st (afterTaking st s)).2 (yieldOwner st (afterTaking st s)).1) :=
  congrArg Host.Outcome.next (takeRequest_taken hc (by simp))

theorem exec_seize {s : State} {st : Station} {tag : Byte} {f : List Byte} (hc : canTake st 0x05 tag f s)
    (hf : f.length = 2 ∨ f.length = 11) : exec (.seize st tag f) s =
      .next (placeReply st 0x05 tag (seizeOwner st f (afterTaking st s)).2 (seizeOwner st f (afterTaking st s)).1) :=
  congrArg Host.Outcome.next (takeRequest_taken hc (by rcases hf with hf | hf <;> simp [hf]))

theorem clampedOr_eq (c : Bool) (r : ResultCode) : clampedOr c r = if c then .clamped else r := rfl

/-! ### The queue of the lead -/

theorem queuePosition_eq (st : Station) (q : List LeadEntry) :
    queuePosition st q = q.findIdx (fun e => decide (e.station = st)) + 1 := rfl

/-- A station's place behind entries of others. -/
theorem queuePosition_append {st : Station} {a b : List LeadEntry} {e : LeadEntry} (ha : ∀ y ∈ a, y.station ≠ st)
    (he : e.station = st) : queuePosition st (a ++ e :: b) = a.length + 1 := by
  rw [queuePosition_eq, List.findIdx_append]
  have hn : ¬ a.findIdx (fun e => decide (e.station = st)) < a.length := by
    rw [List.findIdx_lt_length]
    simpa using ha
  simp [hn, he, List.findIdx_cons]

theorem entryOf_append {st : Station} {a b : List LeadEntry} {e : LeadEntry} (ha : ∀ y ∈ a, y.station ≠ st)
    (he : e.station = st) : entryOf st (a ++ e :: b) = some e := by
  have hn : a.find? (fun e => decide (e.station = st)) = none := by simpa using ha
  simp [entryOf, hn, he]

theorem entryOf_outside {st : Station} {q : List LeadEntry} (h : ∀ e ∈ q, e.station ≠ st) : entryOf st q = none := by
  simpa [entryOf] using h

/-- New terms for a queued station stand in its entry's place (R71). -/
theorem queueWith_append {st : Station} {t : Terms} {a b : List LeadEntry} {e : LeadEntry} (he : e.station = st)
    (hab : ∀ y ∈ a ++ b, y.station ≠ st) : queueWith st t (a ++ e :: b) = a ++ ⟨st, t⟩ :: b := by
  have hsame : ∀ l : List LeadEntry, (∀ y ∈ l, y.station ≠ st) →
      (l.map fun e => if e.station = st then (⟨st, t⟩ : LeadEntry) else e) = l := by
    intro l hl
    conv_rhs => rw [← List.map_id l]
    exact List.map_congr_left fun y hy => if_neg (hl y hy)
  rw [queueWith_held ⟨e, by simp, he⟩, List.map_append, List.map_cons,
    hsame a fun y hy => hab y (List.mem_append_left _ hy), hsame b fun y hy => hab y (List.mem_append_right _ hy), if_pos he]

/-- The detail of a refused Take Lead is the sender's place, counted from 1 (R68). -/
theorem queueDetail_found {st : Station} {q : List LeadEntry} {i : Nat}
    (hi : q.findIdx? (fun e => decide (e.station = st)) = some i) : queueDetail st q = BitVec.ofNat 8 (i + 1) := by
  obtain ⟨hlt, hst, -⟩ := List.findIdx?_eq_some_iff_getElem.1 hi
  have hsome : (entryOf st q).isSome := (entryOf_isSome st q).2 ⟨q[i], List.getElem_mem hlt, by simpa using hst⟩
  rw [queueDetail, if_pos hsome, queuePosition_eq, (List.findIdx?_eq_some_iff_findIdx_eq.1 hi).2]

/-! ### Take Lead (R68 to R71) -/

theorem takeLeadOwner_sent {s : State} {st : Station} {x : Sent} (hx : x.Fits) (hp : (s.link st).present = true) :
    takeLeadOwner st x.bytes s = takeLeadWith st x.terms x.clamped s := by
  simp [takeLeadOwner, hp, readTerms_sent hx]

/-- Settles O33: with no holder the sender becomes the holder, by the change of holder in its two forms. -/
theorem takeLeadGrantsTheLead : Obligations.TakeLeadGrantsTheLead := by
  intro s st tag
  refine ⟨fun x hx hc hp hh => ?_, fun f hf hc => ⟨fun hp => ?_, fun hp hbad => ?_⟩⟩
  · have hexec := exec_takeLead hc (sent_length x)
    rw [takeLeadOwner_sent hx (by simpa using hp)] at hexec
    have hwith : takeLeadWith st x.terms x.clamped (afterTaking st s) =
        (changeHolder (some ⟨st, x.terms⟩) [] .granted (afterTaking st s), .answer (clampedOr x.clamped .ok) 0) := by
      simp [takeLeadWith, hh]
    rw [hwith] at hexec
    refine ⟨fun hn => ?_, fun v hs hv => ?_⟩
    · rw [changeHolder_changedTo (s := afterTaking st s) hn nofun] at hexec
      exact hexec
    · obtain ⟨u, hu, hstarted⟩ := changeHolder_starts (s := afterTaking st s) (new := ⟨st, x.terms⟩) hs.lanes.lane
        (hs.unset_transport (startsAt_unset hv)) hv [] .granted
      rw [hu] at hexec
      exact ⟨u, hexec, hstarted⟩
  · rw [exec_takeLead hc hf, takeLeadOwner_absent (by simpa using hp)]
  · have hread : readTerms f 0 = none := readTerms_refused hbad
    have hp' : ((afterTaking st s).link st).present = true := by simpa using hp
    have howner : takeLeadOwner st f (afterTaking st s) =
        answered .badField (queueDetail st s.lead.queue) (afterTaking st s) := by
      simp [takeLeadOwner, hp', hread]
    rw [exec_takeLead hc hf, howner]
    cases hi : s.lead.queue.findIdx? fun e => decide (e.station = st) with
    | none => rw [queueDetail_outside (by simpa using hi)]; rfl
    | some i => rw [queueDetail_found hi]; rfl

/-- R70 in UNSET, with no tempo, and in a started grid, where no handover takes effect. -/
theorem replaceTerms_waits {s : State} {st : Station} {t : Terms}
    (h : s.grid.state = .unset ∧ t.tempo = none ∨ s.grid.state ≠ .unset ∧ (t.align ≠ .now ∨ s.lead.handover = none)) :
    replaceTerms st t s = { s with
      grid := if s.lead.handover.isSome then { s.grid with crossing := .none } else s.grid
      lead := { s.lead with holder := some ⟨st, t⟩, handover := s.lead.handover.map (handoverTerms t) } } := by
  unfold replaceTerms
  dsimp only
  rcases h with ⟨hs, ht⟩ | ⟨hs, ha⟩
  · simp only [hs, ht]
  · split
    · next hu => exact absurd hu hs
    · rcases ha with ha | hw
      · rw [if_neg ha]
      · split
        · exact handoverTakes_none (by simp [hw])
        · rfl

/-- R70 in a started grid: a handover that waited takes effect at once under an align NOW. -/
theorem replaceTerms_takes {s : State} {st : Station} {t : Terms} {w : Handover} (hs : s.grid.state ≠ .unset)
    (ha : t.align = .now) (hw : s.lead.handover = some w) : replaceTerms st t s = { s with
      grid := handedOver t (s.follower w.station).estimate { s.grid with crossing := .none }
      lead := { s.lead with holder := some ⟨st, t⟩, handover := none } } := by
  unfold replaceTerms
  dsimp only
  split
  · next hu => exact absurd hu hs
  · rw [if_pos ha, handoverTakes_of (w := handoverTerms t w) (by simp [hw])]
    simp [hw, handoverTerms]
    rfl

/-- R70 in UNSET: a tempo starts the grid. -/
theorem replaceTerms_starts {s : State} (h : Safe s) {st : Station} {t : Terms} {v : Nat} (hs : s.grid.state = .unset)
    (ht : t.tempo = some v) : StartedTo ⟨st, t⟩ s.lead.queue v s (replaceTerms st t s) := by
  obtain ⟨hst, hpend⟩ := h.unset_transport hs
  have hstart : replaceTerms st t s = startGrid v 0 { s with
      grid := if s.lead.handover.isSome then { s.grid with crossing := .none } else s.grid
      lead := { s.lead with holder := some ⟨st, t⟩, handover := s.lead.handover.map (handoverTerms t) } } := by
    unfold replaceTerms
    simp only [hs, ht]
  have hwait : ∀ w, s.lead.handover.map (handoverTerms t) = some w → w.terms.tempo = some v := by
    intro w hw
    obtain ⟨w', -, rfl⟩ := Option.map_eq_some_iff.1 hw
    exact ht
  rw [hstart, startGrid_at (v := v) (by exact hst) (by exact hpend) (by exact hwait)]
  refine startedTo_of h.lanes.lane ?_ rfl (fun l => mapEach_get _ _ _) (fun p => mapEach_get _ _ _)
    ⟨rfl, rfl, rfl, rfl, rfl, rfl, rfl, rfl, rfl, rfl⟩
  dsimp only
  split <;> rfl

theorem sent_tempo (x : Sent) : x.terms.tempo = none ↔ x.tempo = 0 := by
  unfold Sent.terms
  by_cases h : x.tempo = 0 <;> simp [h]

/-- Settles O34: the holder's terms are replaced by R70's table, and another station is queued by R71's. -/
theorem takeLeadReplacesOrQueues : Obligations.TakeLeadReplacesOrQueues := by
  intro s st tag x h hx hc hp hh
  have hexec := exec_takeLead hc (sent_length x)
  rw [takeLeadOwner_sent hx (by simpa using hp)] at hexec
  refine ⟨fun hst => ?_, fun hst => ?_⟩
  · have hwith : takeLeadWith st x.terms x.clamped (afterTaking st s) =
        (replaceTerms st x.terms (afterTaking st s), .answer (clampedOr x.clamped .ok) 0) := by
      simp [takeLeadWith, hh, hst]
    rw [hwith] at hexec
    refine ⟨fun hcase => ?_, fun w hs ha hw => ?_, fun v hsafe hs ht => ?_⟩
    · rw [replaceTerms_waits (s := afterTaking st s) (by rw [sent_tempo]; exact hcase)] at hexec
      exact hexec
    · rw [replaceTerms_takes (s := afterTaking st s) hs ha hw] at hexec
      refine hexec.trans ?_
      simp only [hw, afterTaking_follower]
      rfl
    · exact ⟨_, hexec, replaceTerms_starts (hsafe.afterTaking st) hs ht⟩
  · have hwith : takeLeadWith st x.terms x.clamped (afterTaking st s) =
        (raiseHouse .granted { afterTaking st s with lead := { s.lead with queue := queueWith st x.terms s.lead.queue } },
          .answer (clampedOr x.clamped .queued) (BitVec.ofNat 8 (queuePosition st (queueWith st x.terms s.lead.queue)))) := by
      simp [takeLeadWith, hh, hst]
    rw [hwith] at hexec
    refine ⟨fun hout => ?_, fun a e b hq he hab => ?_⟩
    · rw [queueWith_new hout, queuePosition_append hout rfl] at hexec
      exact hexec
    · rw [hq, queueWith_append he hab, queuePosition_append (fun y hy => hab y (List.mem_append_left _ hy)) rfl] at hexec
      exact hexec

/-! ### Yield and departures (R72, R78, R79, R84) -/

/-- What the holder's leaving does, by the queue (R78, R79). -/
theorem leaveLead_empty {s : State} (hq : s.lead.queue = []) (hs : s.grid.state ≠ .holdover) (r : Reason) :
    leaveLead r s = changedTo r none [] s := by
  simp only [leaveLead, hq]
  exact changeHolder_changedTo (by cases hg : s.grid.state <;> simp [startsAt, hg]) (fun _ => hs) _ _

theorem leaveLead_promotes {s : State} {e : LeadEntry} {q : List LeadEntry} (hq : s.lead.queue = e :: q)
    (hn : startsAt (some e) s.grid = none) (r : Reason) : leaveLead r s = changedTo .promoted (some e) q s := by
  simp only [leaveLead, hq]
  exact changeHolder_changedTo hn nofun _ _

theorem leaveLead_starts {s : State} (hlanes : ∀ l, LaneOk (s.lane l))
    (htc : s.tc.state = .stopped ∧ s.tc.pending = none) {e : LeadEntry} {q : List LeadEntry} {v : Nat}
    (hq : s.lead.queue = e :: q) (hv : startsAt (some e) s.grid = some v) (r : Reason) :
    ∃ u, leaveLead r s = raiseHouse .promoted u ∧ StartedTo e q v (passedOn s) u := by
  simp only [leaveLead, hq]
  exact changeHolder_starts hlanes htc hv _ _

theorem holds_false {s : State} {st : Station} (h : ∀ e, s.lead.holder = some e → e.station ≠ st) :
    holds s st = false := by
  rw [← Bool.not_eq_true, holds_iff]
  rintro ⟨e, he, hst⟩
  exact h e he hst

/-- Settles O35: a Yield by the sender's standing. -/
theorem yieldPassesTheLead : Obligations.YieldPassesTheLead := by
  intro s st tag hc
  have hexec := exec_yield hc
  refine ⟨fun hp => ?_, fun hp hno => ?_, fun t hp hh hs => ?_⟩
  · have hp' : ((afterTaking st s).link st).present = false := by simpa using hp
    have howner : yieldOwner st (afterTaking st s) = answered .noChange 0 (afterTaking st s) := by simp [yieldOwner, hp']
    rw [howner] at hexec
    exact hexec
  · have hp' : ((afterTaking st s).link st).present = true := by simpa using hp
    have hhold := holds_false (s := s) hno
    by_cases hq : ∃ e ∈ s.lead.queue, e.station = st
    · have hentry : (entryOf st s.lead.queue).isSome := (entryOf_isSome _ _).2 hq
      have howner : yieldOwner st (afterTaking st s) =
          (raiseHouse .yielded { afterTaking st s with lead := { s.lead with queue := withoutEntry st s.lead.queue } },
            .answer .ok 0) := by
        simp [yieldOwner, hp', hhold, hentry]
      rw [howner] at hexec
      exact (if_pos hq).mpr hexec
    · have hentry : ¬ (entryOf st s.lead.queue).isSome := mt (entryOf_isSome _ _).1 hq
      have howner : yieldOwner st (afterTaking st s) = answered .notLead 0 (afterTaking st s) := by
        simp [yieldOwner, hp', hhold, hentry]
      rw [howner] at hexec
      exact (if_neg hq).mpr hexec
  · have hp' : ((afterTaking st s).link st).present = true := by simpa using hp
    have howner : yieldOwner st (afterTaking st s) = (leaveLead .yielded (afterTaking st s), .answer .ok 0) := by
      simp [yieldOwner, hp', holds_of_holder hh]
    rw [howner] at hexec
    refine ⟨fun hq => ?_, fun e q hq hn => ?_, fun e q v hsafe hq hv => ?_⟩
    · rw [leaveLead_empty (s := afterTaking st s) hq hs] at hexec; exact hexec
    · rw [leaveLead_promotes (s := afterTaking st s) hq hn] at hexec; exact hexec
    · obtain ⟨u, hu, hstarted⟩ := leaveLead_starts (s := afterTaking st s) hsafe.lanes.lane
        (hsafe.unset_transport (startsAt_unset hv)) hq hv .yielded
      rw [hu] at hexec
      exact ⟨u, hexec, hstarted⟩

/-- Settles O38: a reported departure by the station's standing, the report taken back first. -/
theorem lapsePassesTheLead : Obligations.LapsePassesTheLead := by
  intro s st hp
  have hexec : exec (.leadLapse st) s = .next (leadLapse st s) := congrArg Host.Outcome.next (whenRunning_running hp)
  refine ⟨fun hr => ?_, fun hr => ⟨fun hno => ?_, fun t hh hs => ?_⟩⟩
  · have hstay : leadLapse st s = s := by simp [leadLapse, hr]
    exact hexec.trans (congrArg Host.Outcome.next hstay)
  · have hlapse : leadLapse st s = lapseStation st (s.setLink st { s.link st with lapseReported := false }) := by
      simp [leadLapse, hr]
    have hhold := holds_false (s := s.setLink st { s.link st with lapseReported := false }) hno
    rw [hlapse, lapseStation, hhold] at hexec
    refine hexec.trans (congrArg Host.Outcome.next ?_)
    by_cases hq : ∃ e ∈ s.lead.queue, e.station = st
    · have hentry : (entryOf st s.lead.queue).isSome := (entryOf_isSome _ _).2 hq
      rw [if_pos hq]
      simp only [setLink_lead, hentry, if_true, Bool.false_eq_true, if_false]
      rfl
    · have hentry : ¬ (entryOf st s.lead.queue).isSome := mt (entryOf_isSome _ _).1 hq
      rw [if_neg hq]
      simp only [setLink_lead, hentry, Bool.false_eq_true, if_false]
  · have hleave : leadLapse st s = leaveLead .lapsed (s.setLink st { s.link st with lapseReported := false }) := by
      have hhold := holds_of_holder (s := s.setLink st { s.link st with lapseReported := false }) hh
      simp [leadLapse, hr, lapseStation, hhold]
    rw [hleave] at hexec
    refine ⟨fun hq => ?_, fun e q hq hn => ?_, fun e q v hsafe hq hv => ?_⟩
    · rw [leaveLead_empty (s := s.setLink st { s.link st with lapseReported := false }) hq hs] at hexec; exact hexec
    · rw [leaveLead_promotes (s := s.setLink st { s.link st with lapseReported := false }) hq hn] at hexec; exact hexec
    · obtain ⟨u, hu, hstarted⟩ := leaveLead_starts (s := s.setLink st { s.link st with lapseReported := false })
        hsafe.lanes.lane (hsafe.unset_transport (startsAt_unset hv)) hq hv .lapsed
      rw [hu] at hexec
      exact ⟨u, hexec, hstarted⟩

/-! ### Seize (R73, R74) -/

theorem satInc_eq_min (limit n : Nat) : satInc limit n = min limit (n + 1) := by
  unfold satInc; split <;> omega

theorem latchAfter_eq (old : Option Latch) (st : Station) (kind : Byte) :
    latchAfter old st kind = ⟨st, kind, match old with
      | none => 1
      | some l => min 255 (l.count + 1)⟩ := by
  cases old with
  | none => rfl
  | some l =>
    show (⟨st, kind, satInc 255 l.count⟩ : Latch) = ⟨st, kind, min 255 (l.count + 1)⟩
    rw [satInc_eq_min]

theorem setLatch_eq (st : Station) (kind : Byte) (s : State) : setLatch st kind s =
    showSource .seizeFailed { s with lead := { s.lead with latch := some ⟨st, kind, match s.lead.latch with
      | none => 1
      | some l => min 255 (l.count + 1)⟩ } } := by
  unfold setLatch
  rw [latchAfter_eq]

theorem seizeWith_ends {s : State} {st : Station} {tag : Byte} {f : List Byte} {t : Terms} {c : Bool}
    (hexec : exec (.seize st tag f) s = .next (placeReply st 0x05 tag (seizeWith st t c (afterTaking st s)).2
      (seizeWith st t c (afterTaking st s)).1)) :
    (startsAt (some ⟨st, t⟩) s.grid = none → exec (.seize st tag f) s = .next (placeReply st 0x05 tag
      (.answer (clampedOr c .ok) 0) (changedTo .seized (some ⟨st, t⟩) (withoutEntry st s.lead.queue) (afterTaking st s)))) ∧
    (∀ v, Safe s → startsAt (some ⟨st, t⟩) s.grid = some v →
      ∃ u, exec (.seize st tag f) s = .next (placeReply st 0x05 tag (.answer (clampedOr c .ok) 0) (raiseHouse .seized u)) ∧
        StartedTo ⟨st, t⟩ (withoutEntry st s.lead.queue) v (passedOn (afterTaking st s)) u) := by
  unfold seizeWith at hexec
  refine ⟨fun hn => ?_, fun v hs hv => ?_⟩
  · rw [changeHolder_changedTo (s := afterTaking st s) hn nofun] at hexec
    exact hexec
  · obtain ⟨u, hu, hstarted⟩ := changeHolder_starts (s := afterTaking st s) (new := ⟨st, t⟩) hs.lanes.lane
      (hs.unset_transport (startsAt_unset hv)) hv (withoutEntry st (afterTaking st s).lead.queue) .seized
    rw [hu] at hexec
    exact ⟨u, hexec, hstarted⟩

theorem seizeCode_alone (code : BitVec 16) : seizeCode (be2 code.toNat) = code := by
  simpa [seizeCode] using fCode_be2 code []

/-- A Seize that passed the checks of the code and of the holder, without terms (R73, R74). -/
theorem seizeOwner_alone {s : State} {st : Station} {f : List Byte} (hp : (s.link st).present = true)
    (hc : s.lead.code ≠ 0) (hf : seizeCode f = s.lead.code) (hno : ∀ h, s.lead.holder = some h → h.station ≠ st)
    (hl : f.length = 2) : seizeOwner st f s = seizeWith st (ownTerms st s) false s := by
  have hc : ¬ s.lead.code = 0#16 := hc
  simp [seizeOwner, hp, hc, hf, holds_false hno, hl]

/-- The same with the terms it carries. -/
theorem seizeOwner_sent {s : State} {st : Station} {f : List Byte} {t : Terms} {c : Bool}
    (hp : (s.link st).present = true) (hc : s.lead.code ≠ 0) (hf : seizeCode f = s.lead.code)
    (hno : ∀ h, s.lead.holder = some h → h.station ≠ st) (hl : f.length ≠ 2) (hr : readTerms f 2 = some (t, c)) :
    seizeOwner st f s = seizeWith st t c s := by
  have hc : ¬ s.lead.code = 0#16 := hc
  simp [seizeOwner, hp, hc, hf, holds_false hno, hl, hr]

/-- The same with terms outside their lists. -/
theorem seizeOwner_refused {s : State} {st : Station} {f : List Byte} (hp : (s.link st).present = true)
    (hc : s.lead.code ≠ 0) (hf : seizeCode f = s.lead.code) (hno : ∀ h, s.lead.holder = some h → h.station ≠ st)
    (hl : f.length ≠ 2) (hr : readTerms f 2 = none) : seizeOwner st f s = answered .badField 0 s := by
  have hc : ¬ s.lead.code = 0#16 := hc
  simp [seizeOwner, hp, hc, hf, holds_false hno, hl, hr]

/-- Settles O36: the checks of a Seize in their order, then the change of holder in its two forms. -/
theorem seizeTakesTheLead : Obligations.SeizeTakesTheLead := by
  intro s st tag code
  refine ⟨fun hc => ?_, fun x hx hc hp hcode heq hno => ?_, fun f hf hc hp hcode heq hno hbad => ?_⟩
  · have hexec := exec_seize hc (.inl (by simp [be2]))
    have hread := seizeCode_alone code
    refine ⟨fun hp => ?_, fun hp hcode => ?_, fun hp hcode hne => ?_, fun hp hcode heq => ⟨fun t hh => ?_, fun hno => ?_⟩⟩
    · have hp' : ((afterTaking st s).link st).present = false := by simpa using hp
      have howner : seizeOwner st (be2 code.toNat) (afterTaking st s) = answered .noChange 0 (afterTaking st s) := by
        simp [seizeOwner, hp']
      rw [howner] at hexec; exact hexec
    · have hp' : ((afterTaking st s).link st).present = true := by simpa using hp
      have howner : seizeOwner st (be2 code.toNat) (afterTaking st s) = answered .seizeOff 0 (afterTaking st s) := by
        simp [seizeOwner, hp', hcode]
      rw [howner] at hexec; exact hexec
    · have hp' : ((afterTaking st s).link st).present = true := by simpa using hp
      have howner : seizeOwner st (be2 code.toNat) (afterTaking st s) =
          answered .badCode 0 (setLatch st 0x05 (afterTaking st s)) := by
        have hcode : ¬ s.lead.code = 0#16 := hcode
        simp [seizeOwner, hp', hcode, hread, hne]
      rw [howner, setLatch_eq] at hexec
      exact hexec
    · have hp' : ((afterTaking st s).link st).present = true := by simpa using hp
      have howner : seizeOwner st (be2 code.toNat) (afterTaking st s) = answered .noChange 0 (afterTaking st s) := by
        have hcode : ¬ s.lead.code = 0#16 := hcode
        simp [seizeOwner, hp', hcode, hread.trans heq, holds_of_holder hh]
      rw [howner] at hexec; exact hexec
    · have hp' : ((afterTaking st s).link st).present = true := by simpa using hp
      rw [seizeOwner_alone (s := afterTaking st s) hp' hcode (hread.trans heq) hno (by simp [be2])] at hexec
      refine ⟨fun hout => ?_, fun a e b hq he ha => ?_⟩
      · have hown : ownTerms st (afterTaking st s) = Terms.default := by
          simp [ownTerms, entryOf_outside hout]
        rw [hown] at hexec
        exact seizeWith_ends hexec
      · have hown : ownTerms st (afterTaking st s) = e.terms := by
          simp [ownTerms, hq, entryOf_append ha he]
        rw [hown] at hexec
        exact seizeWith_ends hexec
  · have hexec := exec_seize hc (.inr (by simp [be2, sent_length]))
    have hp' : ((afterTaking st s).link st).present = true := by simpa using hp
    have hread : readTerms (be2 code.toNat ++ x.bytes) 2 = some (x.terms, x.clamped) :=
      (readTerms_afterCode code x.bytes).trans (readTerms_sent hx)
    rw [seizeOwner_sent (s := afterTaking st s) hp' hcode ((fCode_be2 code _).trans heq) hno
      (by simp [be2, sent_length]) hread] at hexec
    exact seizeWith_ends hexec
  · have hexec := exec_seize hc (.inr hf)
    have hp' : ((afterTaking st s).link st).present = true := by simpa using hp
    have hread : seizeCode f = s.lead.code := by
      refine BitVec.eq_of_toNat_eq ?_
      have hlt := s.lead.code.isLt
      rw [← heq] at hlt ⊢
      exact Nat.mod_eq_of_lt hlt
    rw [seizeOwner_refused (s := afterTaking st s) hp' hcode hread hno (by omega) (readTerms_refused hbad)] at hexec
    exact hexec

end Sys2Proof.Machine
end

section
/-! PROOF. The marks of the holder: the interval tests, the phase correction of a RUNNING grid, and the start of an UNSET
one (R14, R17, R19, R48 to R59; O28, O29). -/

namespace Sys2Proof.Machine

/-! ### The request (R40, R41) -/

theorem exec_mark {s : State} {st : Station} {tag : Byte} {back : Nat} {down : Bool}
    (hc : canTake st 0x0A tag (be2 back ++ [flagByte down]) s) :
    exec (.mark st tag (be2 back ++ [flagByte down])) s =
      .next (placeReply st 0x0A tag (markOwner st (be2 back ++ [flagByte down]) (afterTaking st s)).2
        (markOwner st (be2 back ++ [flagByte down]) (afterTaking st s)).1) :=
  congrArg Host.Outcome.next (takeRequest_taken hc (by simp [be2]))

theorem markStamp_eq (count : Frame) (back : Nat) : markStamp count back = count - BitVec.ofNat 32 (min 4800 back) := by
  unfold markStamp
  rw [clampNat_eq _ (by decide)]
  simp [Config.timeBackMax]

theorem markDownbeat_sent (back : Nat) (down : Bool) : markDownbeat (be2 back ++ [flagByte down]) = down := by
  show (flagByte down).getLsbD 0 = down
  cases down <;> decide

theorem markOwner_sent {s : State} {st : Station} {back : Nat} {down : Bool} (hp : (s.link st).present = true)
    (hb : back < 65536) {stamp : Frame} (hstamp : stamp = s.fru.count - BitVec.ofNat 32 (min 4800 back)) :
    markOwner st (be2 back ++ [flagByte down]) s = (beatMark st stamp down s,
      .answer (markResult (markOutcome stamp (s.follower st)) (decide (4800 < back)))
        (outcomeByte (markOutcome stamp (s.follower st)))) := by
  have htime : markTimeBack (be2 back ++ [flagByte down]) = back := f2_be2 back hb _
  simp only [markOwner, hp, htime, markDownbeat_sent, markStamp_eq, hstamp]
  rfl

/-! ### The interval tests and the record (R48, R49) -/

theorem markOutcome_first {stamp : Frame} {r : Follower} (h : r.lastStamp = none) : markOutcome stamp r = .first := by
  simp [markOutcome, h]

section
variable {stamp a : Frame} {r : Follower} (h : r.lastStamp = some a)
include h

theorem markInterval_eq : markInterval stamp r = (stamp - a).toNat := by simp [markInterval, h, interval]

theorem markOutcome_outOfOrder (hi : 2147483648 ≤ (stamp - a).toNat) : markOutcome stamp r = .outOfOrder := by
  simp only [markOutcome, h]
  exact if_pos hi

theorem markOutcome_restart (hi : 72000 < (stamp - a).toNat) (hu : (stamp - a).toNat < 2147483648) :
    markOutcome stamp r = .restart := by
  simp only [markOutcome, h]
  exact (if_neg (Nat.not_le.2 hu)).trans (if_pos hi)

theorem markOutcome_bounce (hi : (stamp - a).toNat < 9600) : markOutcome stamp r = .bounce := by
  have hback : ¬ 2147483648 ≤ (stamp - a).toNat := by omega
  have hlong : ¬ 72000 < (stamp - a).toNat := by omega
  simp only [markOutcome, h]
  exact (if_neg hback).trans ((if_neg hlong).trans (if_pos hi))

theorem markOutcome_tested (hl : 9600 ≤ (stamp - a).toNat) (hu : (stamp - a).toNat ≤ 72000) :
    markOutcome stamp r = if isOutlier (stamp - a).toNat r.history then .outlier else .accepted := by
  have hback : ¬ 2147483648 ≤ (stamp - a).toNat := by omega
  simp only [markOutcome, h]
  exact (if_neg hback).trans ((if_neg (Nat.not_lt.2 hu)).trans (if_neg (Nat.not_lt.2 hl)))

theorem markOutcome_outlier (hl : 9600 ≤ (stamp - a).toNat) (hu : (stamp - a).toNat ≤ 72000) (hne : r.history ≠ [])
    (hfar : r.history.sum / r.history.length / 8 <
      (((stamp - a).toNat : Int) - (r.history.sum / r.history.length : Nat)).natAbs) :
    markOutcome stamp r = .outlier := by
  rw [markOutcome_tested h hl hu, if_pos]
  exact decide_eq_true ⟨hne, hfar⟩

theorem markOutcome_accepted (hl : 9600 ≤ (stamp - a).toNat) (hu : (stamp - a).toNat ≤ 72000)
    (hnear : r.history ≠ [] → (((stamp - a).toNat : Int) - (r.history.sum / r.history.length : Nat)).natAbs ≤
      r.history.sum / r.history.length / 8) :
    markOutcome stamp r = .accepted := by
  rw [markOutcome_tested h hl hu, if_neg]
  intro ho
  obtain ⟨hne, hfar⟩ := of_decide_eq_true ho
  exact absurd hfar (Nat.not_lt.2 (hnear hne))

end

theorem followerAfter_outlier {stamp a : Frame} {r : Follower} (h : r.lastStamp = some a) :
    followerAfter .outlier stamp r =
      ⟨min 65535 (r.runCount + 1), some stamp, [(stamp - a).toNat], none, r.phaseError⟩ := by
  simp [followerAfter, stamped, markInterval_eq h, satInc_eq_min, estimateOf]

/-- The record after an ACCEPTED mark: no estimate of one interval alone (R49). -/
theorem followerAfter_accepted_first {stamp a : Frame} {r : Follower} (h : r.lastStamp = some a) (hh : r.history = []) :
    followerAfter .accepted stamp r =
      ⟨min 65535 (r.runCount + 1), some stamp, [(stamp - a).toNat], none, r.phaseError⟩ := by
  simp [followerAfter, stamped, markInterval_eq h, satInc_eq_min, estimateOf, hh, Config.historyMax]

theorem followerAfter_accepted {stamp a : Frame} {r : Follower} (h : r.lastStamp = some a) (hh : r.history ≠ []) :
    followerAfter .accepted stamp r =
      ⟨min 65535 (r.runCount + 1), some stamp, ((stamp - a).toNat :: r.history).take 8,
        some ((2 * (2880000000 * (((stamp - a).toNat :: r.history).take 8).length) +
          (((stamp - a).toNat :: r.history).take 8).sum) / (2 * (((stamp - a).toNat :: r.history).take 8).sum)),
        r.phaseError⟩ := by
  have hlen : 2 ≤ (((stamp - a).toNat :: r.history).take 8).length := by
    have := List.length_pos_iff.2 hh
    simp only [List.length_take, List.length_cons]
    omega
  simp only [followerAfter, stamped, markInterval_eq h, satInc_eq_min, Config.historyMax, estimateOf, if_pos hlen]
  rfl

/-! ### What a mark of the holder hands on (R54 to R58) -/

section
variable {s : State} {st : Station} {t : Terms} {stamp : Frame} {down : Bool} {r : Follower} {o : MarkOutcome}
  (hh : s.lead.holder = some ⟨st, t⟩) (hr : s.follower st = r) (ho : markOutcome stamp r = o)
include hh hr ho

/-- A mark without the phase role changes the record alone (R53). -/
theorem beatMark_alone (hs : s.grid.state = .running) (hrole : hasPhaseRole o = false) :
    beatMark st stamp down s = s.setFollower st (followerAfter o stamp r) := by
  subst hr ho
  have hterms : ∀ x, holderTerms (s.setFollower st x) st = some t := fun x => holderTerms_of_holder hh
  simp [beatMark, markHandOffs, hterms, hs, hrole]

/-- A mark with the phase role, before the tempo is followed (R54, R55, R57). -/
theorem beatMark_role (hs : s.grid.state = .running) (hrole : hasPhaseRole o = true) :
    beatMark st stamp down s = followHandOff st t o
      (({ s with grid := phaseCorrected t stamp s.fru.count down s.grid } : State).setFollower st
        { followerAfter o stamp r with phaseError := some (phaseError (positionAtStamp stamp s.fru.count s.grid)) }) := by
  subst hr ho
  have hterms : ∀ x, holderTerms (s.setFollower st x) st = some t := fun x => holderTerms_of_holder hh
  simp only [beatMark, markHandOffs, hterms, setFollower_grid, hs, hrole, if_true, phaseHandOffs_eq,
    setFollower_follower_same, setFollower_setFollower, setFollower_fru]
  rfl

/-- The tempo is followed by an ACCEPTED mark in MARK mode alone (R56). -/
theorem beatMark_corrects (hs : s.grid.state = .running) (hrole : hasPhaseRole o = true)
    (hno : t.mode = .set ∨ o ≠ .accepted ∨ (followerAfter o stamp r).estimate = none) :
    beatMark st stamp down s =
      ({ s with grid := phaseCorrected t stamp s.fru.count down s.grid } : State).setFollower st
        { followerAfter o stamp r with phaseError := some (phaseError (positionAtStamp stamp s.fru.count s.grid)) } := by
  rw [beatMark_role hh hr ho hs hrole, followHandOff, setFollower_follower_same]
  dsimp only
  split
  · next e he =>
    refine if_neg ?_
    rintro ⟨hm, ho⟩
    rcases hno with hno | hno | hno
    · simp [hm] at hno
    · exact hno ho
    · simp [he] at hno
  · rfl

theorem beatMark_follows (hs : s.grid.state = .running) (hm : t.mode = .mark) (hacc : o = .accepted) {v : Nat}
    (hv : (followerAfter o stamp r).estimate = some v) :
    beatMark st stamp down s =
      ({ s with grid := followTarget v t (phaseCorrected t stamp s.fru.count down s.grid) } : State).setFollower st
        { followerAfter o stamp r with phaseError := some (phaseError (positionAtStamp stamp s.fru.count s.grid)) } := by
  rw [beatMark_role hh hr ho hs (by rw [hacc]; rfl), followHandOff, setFollower_follower_same]
  dsimp only
  rw [hv]
  dsimp only
  rw [if_pos ⟨hm, hacc⟩]
  rfl

/-- A mark on an UNSET grid starts it, or changes the record alone (R58). -/
theorem beatMark_unset (hs : s.grid.state = .unset) :
    beatMark st stamp down s = startHandOff st t o stamp (s.setFollower st (followerAfter o stamp r)) := by
  subst hr ho
  have hterms : ∀ x, holderTerms (s.setFollower st x) st = some t := fun x => holderTerms_of_holder hh
  simp only [beatMark, markHandOffs, hterms, setFollower_grid, hs]

end

/-! ### The phase correction (R14, R19, R52) -/

theorem phaseError_ofInt (p : Beat) {e : Int} (hl : -2147483648 ≤ e) (hu : e ≤ 2147483647) :
    phaseError ⟨p, BitVec.ofInt 32 e⟩ = e := by
  unfold phaseError
  rw [BitVec.toNat_ofInt]
  simp only [Config.beatU]
  split <;> omega

/-- The trim record after arming, as R19's table gives it. -/
theorem phaseCorrected_eq {t : Terms} {stamp count : Frame} {down : Bool} {g : Grid} {p : Beat} {e : Int}
    (hpos : positionAtStamp stamp count g = ⟨p, BitVec.ofInt 32 e⟩) (hl : -2147483648 ≤ e) (hu : e ≤ 2147483647) :
    phaseCorrected t stamp count down g = { g with
      trim := trimArmed (roundInt (e * t.gain * g.baseInc) (8 * 4294967296)) g.trim
      barStart := if down then
          if (if 0 ≤ e then p else p + 1) = g.pos.beat + 1 then if 0 ≤ e then p else p + 1
          else g.pos.beat - BitVec.ofNat 32 ((g.pos.beat - (if 0 ≤ e then p else p + 1)).toNat % g.meter)
        else g.barStart
      beatInBar := if down then
          if (if 0 ≤ e then p else p + 1) = g.pos.beat + 1 then g.meter - 1
          else (g.pos.beat - (if 0 ≤ e then p else p + 1)).toNat % g.meter
        else g.beatInBar } := by
  unfold phaseCorrected
  rw [hpos]
  dsimp only
  rw [phaseError_ofInt p hl hu]
  cases down with
  | false => rfl
  | true =>
    simp only [if_true, downbeat, armTrim, trimDelta, Config.beatU]
    by_cases hb : (if 0 ≤ e then p else p + 1) = g.pos.beat + 1
    · simp only [if_pos hb]
    · simp only [if_neg hb]

theorem followTarget_eq (v : Nat) (t : Terms) (g : Grid) : followTarget v t g =
    if ((v : Int) - g.base).natAbs ≤ t.deadBand then g else handedOver { t with tempo := some v } none g := by
  rw [handedOver_tempoChange]; rfl

theorem positionAtStamp_ago (count : Frame) (back : Nat) (g : Grid) :
    positionAtStamp (count - BitVec.ofNat 32 (min 4800 back)) count g = g.pos.sub (min 4800 back * g.appliedInc) := by
  have hi := interval_markStamp count back
  rw [markStamp_eq, clampNat_eq _ (by decide)] at hi
  rw [positionAtStamp, hi]
  simp [Config.timeBackMax]

/-! ### The Answer of a mark (R41) -/

theorem markResult_role {o : MarkOutcome} (ho : hasPhaseRole o = true) (back : Nat) :
    markResult o (decide (4800 < back)) = if 4800 < back then .clamped else .ok := by
  have hback : o ≠ .outOfOrder := by rintro rfl; cases ho
  have hbounce : o ≠ .bounce := by rintro rfl; cases ho
  simp [markResult, hback, hbounce]

theorem markResult_bounce (back : Nat) :
    markResult .bounce (decide (4800 < back)) = if 4800 < back then .clamped else .noChange := by
  simp [markResult]

/-- The taking of a Mark of a PRESENT station, by the outcome of its interval tests. -/
theorem mark_ends {s : State} {st : Station} {tag : Byte} {back : Nat} {down : Bool} {o : MarkOutcome}
    (hc : canTake st 0x0A tag (be2 back ++ [flagByte down]) s) (hp : (s.link st).present = true) (hb : back < 65536)
    (ho : markOutcome (s.fru.count - BitVec.ofNat 32 (min 4800 back)) (s.follower st) = o) :
    exec (.mark st tag (be2 back ++ [flagByte down])) s = .next (placeReply st 0x0A tag
      (.answer (markResult o (decide (4800 < back))) (outcomeByte o))
      (beatMark st (s.fru.count - BitVec.ofNat 32 (min 4800 back)) down (afterTaking st s))) := by
  have hp' : ((afterTaking st s).link st).present = true := by simpa using hp
  rw [exec_mark hc, markOwner_sent (s := afterTaking st s) hp' hb rfl]
  simp only [afterTaking_follower, afterTaking_fru, ho]

/-- Settles O28: by the outcome of the interval tests, the phase role corrects the grid and the record takes the mark. -/
theorem holderMarkCorrectsThePhase : Obligations.HolderMarkCorrectsThePhase := by
  intro s st tag back down t p e hb hc hp hh hs hl hu hpos r stamp mean taken more d m k corrected ends
  have hcorr : phaseCorrected t stamp s.fru.count down s.grid = corrected := by
    rw [phaseCorrected_eq ((positionAtStamp_ago _ _ _).trans hpos) hl hu]
    show ({ s.grid with trim := _, barStart := _, beatInBar := _ } : Grid) = _
    cases htrim : s.grid.trim <;> simp only [corrected, htrim, trimArmed] <;> rfl
  have herr : phaseError (positionAtStamp stamp s.fru.count s.grid) = e := by
    rw [show positionAtStamp stamp s.fru.count s.grid = ⟨p, BitVec.ofInt 32 e⟩ from
      (positionAtStamp_ago _ _ _).trans hpos, phaseError_ofInt p hl hu]
  have hr : (afterTaking st s).follower st = r := afterTaking_follower st s st
  have hends : ∀ {o x g code}, markOutcome stamp r = o → markResult o (decide (4800 < back)) = code →
      beatMark st stamp down (afterTaking st s) = ({ afterTaking st s with grid := g } : State).setFollower st x →
      ends x g code (outcomeByte o) := fun ho hcode hx => (mark_ends hc hp hb ho).trans (by rw [hx, hcode])
  have halone : ∀ {o code}, markOutcome stamp r = o → markResult o (decide (4800 < back)) = code →
      hasPhaseRole o = false → followerAfter o stamp r = r → ends r s.grid code (outcomeByte o) :=
    fun ho hcode hrole hsame => hends ho hcode
      ((beatMark_alone (s := afterTaking st s) hh hr ho hs hrole).trans (by rw [hsame]; rfl))
  have hrole : ∀ {o}, markOutcome stamp r = o → hasPhaseRole o = true →
      (t.mode = .set ∨ o ≠ .accepted ∨ (followerAfter o stamp r).estimate = none) →
      ends { followerAfter o stamp r with phaseError := some e } corrected (taken .ok) (outcomeByte o) :=
    fun ho hrole hno => hends ho (markResult_role hrole back)
      ((beatMark_corrects (s := afterTaking st s) hh hr ho hs hrole hno).trans (by rw [← hcorr, ← herr]; rfl))
  refine ⟨fun hn => ?_, fun a ha => ⟨fun hi => ?_, fun hi hu => ?_, fun hi => ?_, fun hl hu hne hfar => ?_,
    fun hl hu hnil => ?_, fun hl hu hne hnear => ?_⟩⟩
  · exact hrole (markOutcome_first hn) rfl (.inr (.inl nofun))
  · exact halone (markOutcome_outOfOrder ha hi) rfl rfl rfl
  · exact hrole (markOutcome_restart ha hi hu) rfl (.inr (.inl nofun))
  · exact halone (markOutcome_bounce ha hi) (markResult_bounce back) rfl rfl
  · have h := hrole (markOutcome_outlier ha hl hu hne hfar) rfl (.inr (.inl nofun))
    rwa [followerAfter_outlier ha] at h
  · have hr' := followerAfter_accepted_first (stamp := stamp) ha hnil
    have h := hrole (markOutcome_accepted ha hl hu fun hne => absurd hnil hne) rfl (.inr (.inr (by rw [hr'])))
    rwa [hr'] at h
  · have hr' := followerAfter_accepted (stamp := stamp) ha hne
    have ho := markOutcome_accepted ha hl hu fun _ => hnear
    intro h v
    cases hm : t.mode with
    | set =>
      have hx := hrole ho rfl (.inl hm)
      rw [hr'] at hx
      rw [if_pos (.inl rfl)]
      exact hx
    | mark =>
      have hv : (followerAfter .accepted stamp r).estimate = some v := by rw [hr']
      have hx := hends ho (markResult_role rfl back) ((beatMark_follows (s := afterTaking st s) hh hr ho hs hm rfl hv).trans (by
        rw [show phaseError (positionAtStamp stamp (afterTaking st s).fru.count (afterTaking st s).grid) = e from herr,
          show phaseCorrected t stamp (afterTaking st s).fru.count down (afterTaking st s).grid = corrected from hcorr]))
      rw [followTarget_eq, hr'] at hx
      simp only [reduceCtorEq, false_or]
      exact hx

end Sys2Proof.Machine
end

section
/-! PROOF. The mark that starts an UNSET grid (R9, R10, R58, R82, R111; O29). -/

namespace Sys2Proof.Machine

/-- A grid started a short time ago stands in beat 0 (R9). -/
theorem startedGrid_ago {v ago : Nat} (g : Grid) (hlt : ago * baseIncrement v < 4294967296) :
    startedGrid v ago g = { startedAt v g with pos := ⟨0, BitVec.ofNat 32 (ago * baseIncrement v)⟩ } := by
  simp only [startedGrid, startedAt, Pos.add, Pos.ofU, Pos.toU, Pos.beatStart, Config.beatU]
  have hz : (ago * baseIncrement v) / 4294967296 = 0 := Nat.div_eq_of_lt hlt
  simp [hz]

theorem laneStarted_anchor (ln : Lane) : laneStarted ln =
    { ln with
      state := .active, activation := none, nextPoint := some ⟨0, 0, 0⟩
      anchor := anchorFrom ln.settings.rate 0 } := by
  unfold laneStarted anchorFrom
  cases ln.settings.rate <;> rfl

/-- The estimate starts the grid where the mark was ACCEPTED in MARK mode alone (R58). -/
theorem startHandOff_alone {s : State} {st : Station} {t : Terms} {o : MarkOutcome} {stamp : Frame}
    (h : t.mode = .set ∨ o ≠ .accepted ∨ (s.follower st).estimate = none) : startHandOff st t o stamp s = s := by
  unfold startHandOff
  split
  · next e he =>
    refine if_neg ?_
    rintro ⟨hm, ho⟩
    rcases h with h | h | h
    · simp [hm] at h
    · exact h ho
    · simp [he] at h
  · rfl

theorem startHandOff_starts {s : State} {st : Station} {t : Terms} {stamp : Frame} {v : Nat} (hm : t.mode = .mark)
    (hv : (s.follower st).estimate = some v) :
    startHandOff st t .accepted stamp s = startGrid v (interval stamp s.fru.count) s := by
  simp [startHandOff, hv, hm]

theorem interval_ago (count : Frame) (back : Nat) :
    interval (count - BitVec.ofNat 32 (min 4800 back)) count = min 4800 back := by
  have h := interval_markStamp count back
  rw [markStamp_eq, clampNat_eq _ (by decide)] at h
  simpa [Config.timeBackMax] using h

/-- What a start at an estimate leaves, the record of the holder already written (R10, R58, R82). -/
theorem startGrid_marked {s : State} (h : Safe s) {st : Station} {t : Terms} (hh : s.lead.holder = some ⟨st, t⟩)
    (hs : s.grid.state = .unset) {x : Follower} {v ago : Nat} (hv : x.estimate = some v) (ht : TempoOk v)
    (ha : ago ≤ 4800) :
    startGrid v ago (s.setFollower st x) = { s.setFollower st x with
      grid := match s.lead.handover with
        | none => { startedAt v s.grid with pos := ⟨0, BitVec.ofNat 32 (ago * baseIncrement v)⟩ }
        | some w => handedOver w.terms (some v)
            { startedAt v s.grid with pos := ⟨0, BitVec.ofNat 32 (ago * baseIncrement v)⟩ }
      lead := { s.lead with handover := none }
      lanes := mapEach s.lanes fun _ ln => startLane ln
      pins := mapEach s.pins fun _ p => pulsedAtStart s.fru.count p } := by
  obtain ⟨hst, hpend⟩ := h.unset_transport hs
  have hlt : ago * baseIncrement v < 4294967296 := by
    have hinc := baseIncrement_le ht.2
    calc ago * baseIncrement v ≤ 4800 * 447393 := Nat.mul_le_mul ha hinc
      _ < 4294967296 := by decide
  rw [startGrid_eq (s := s.setFollower st x) hst hpend]
  simp only [setFollower_lead, setFollower_grid, startedGrid_ago s.grid hlt]
  cases hw : s.lead.handover with
  | none => rfl
  | some w =>
    have hstation : w.station = st := by
      have hwait := (h.house.lead.handover w hw).2.2
      rw [hh] at hwait
      simpa using hwait.symm
    simp only [hstation, setFollower_follower_same, hv]
    rfl

/-- Settles O29: an ACCEPTED mark with an estimate in MARK mode starts the grid, any other mark changes the record. -/
theorem holderMarkStartsTheGrid : Obligations.HolderMarkStartsTheGrid := by
  intro s st tag back down t hsafe hb hc hp hh hs r ago stamp mean taken more ends
  have hr : (afterTaking st s).follower st = r := afterTaking_follower st s st
  have hends : ∀ {o code}, markOutcome stamp r = o → markResult o (decide (4800 < back)) = code →
      (t.mode = .set ∨ o ≠ .accepted ∨ (followerAfter o stamp r).estimate = none) →
      ends (followerAfter o stamp r) code (outcomeByte o) := fun {o _} ho hcode hno =>
    (mark_ends hc hp hb ho).trans (by
      rw [beatMark_unset (s := afterTaking st s) hh hr ho hs, startHandOff_alone (by simpa using hno), hcode])
  refine ⟨fun hn => ?_, fun a ha => ?_⟩
  · exact hends (markOutcome_first hn) (markResult_role rfl back) (.inr (.inl nofun))
  intro i h v
  refine ⟨fun hi => ?_, fun hi hu => ?_, fun hi => ?_, fun hl hu hne hfar => ?_, fun hl hu hnear =>
    ⟨fun hcase => ?_, fun hm hne => ?_⟩⟩
  · exact hends (markOutcome_outOfOrder ha hi) rfl (.inr (.inl nofun))
  · exact hends (markOutcome_restart ha hi hu) (markResult_role rfl back) (.inr (.inl nofun))
  · exact hends (markOutcome_bounce ha hi) (markResult_bounce back) (.inr (.inl nofun))
  · have hx := hends (markOutcome_outlier ha hl hu hne hfar) (markResult_role rfl back) (.inr (.inl nofun))
    rwa [followerAfter_outlier ha] at hx
  · have ho := markOutcome_accepted ha hl hu hnear
    by_cases hnil : r.history = []
    · have hr' := followerAfter_accepted_first (stamp := stamp) ha hnil
      have hx := hends ho (markResult_role rfl back) (.inr (.inr (by rw [hr'])))
      rw [hr'] at hx
      have hh' : h = [i] := by simp [h, hnil]
      rw [if_pos hnil, hh']
      exact hx
    · have hset : t.mode = .set := hcase.resolve_right hnil
      have hr' := followerAfter_accepted (stamp := stamp) ha hnil
      have hx := hends ho (markResult_role rfl back) (.inl hset)
      rw [hr'] at hx
      rw [if_neg hnil]
      exact hx
  · have ho := markOutcome_accepted ha hl hu hnear
    have hr' := followerAfter_accepted (stamp := stamp) ha hne
    have hv : (followerAfter .accepted stamp r).estimate = some v := by rw [hr']
    have ht : TempoOk v := by
      have hok := (hsafe.followers.follower st).followerAfter stamp
      rw [show markOutcome stamp (s.follower st) = .accepted from ho] at hok
      exact hok.estimate_range hv
    have hstart := startGrid_marked (hsafe.afterTaking st) hh hs hv ht (Nat.min_le_left 4800 back)
    refine ⟨startGrid v ago ((afterTaking st s).setFollower st (followerAfter .accepted stamp r)), ?_, ?_, ?_,
      fun j => ?_, fun l => ?_, fun p => ?_, ?_, ?_, ?_, ?_, ?_, ?_, ?_, ?_⟩
    · refine (mark_ends hc hp hb ho).trans ?_
      rw [beatMark_unset (s := afterTaking st s) hh hr ho hs,
        startHandOff_starts hm ((congrArg Follower.estimate (setFollower_follower_same _ _ _)).trans hv),
        markResult_role rfl back]
      rw [show interval stamp ((afterTaking st s).setFollower st (followerAfter .accepted stamp r)).fru.count
        = ago from interval_ago _ _]
      rfl
    · rw [hstart]
      cases hw : s.lead.handover <;> simp only [afterTaking_lead, hw] <;> rfl
    · rw [hstart]; rfl
    · rw [hstart]
      show ((afterTaking st s).setFollower st (followerAfter .accepted stamp r)).follower j = _
      rw [setFollower_follower, hr', afterTaking_follower]
    · rw [hstart]
      refine (mapEach_get _ _ _).trans ((startLane_eq (hsafe.lanes.lane l)).trans ?_)
      rw [laneStarted_anchor]
    · rw [hstart]; exact mapEach_get _ _ _
    · rw [hstart]; rfl
    · rw [hstart]; rfl
    · rw [hstart]; rfl
    · rw [hstart]; rfl
    · rw [hstart]; rfl
    · rw [hstart]; rfl
    · rw [hstart]; rfl
    · rw [hstart]; rfl

end Sys2Proof.Machine
end

section
/-! PROOF. What moves the frame count and the position of a started grid (R1, R3, R29; O5). -/

namespace Sys2Proof.Machine

/-- The frame count stays, and a started grid stays started, with its position. -/
structure GridStands (s t : State) : Prop where
  count : t.fru.count = s.fru.count
  position : s.grid.state ≠ .unset → t.grid.pos = s.grid.pos ∧ t.grid.state ≠ .unset

namespace GridStands

theorem refl (s : State) : GridStands s s := ⟨rfl, fun h => ⟨rfl, h⟩⟩

theorem trans {s t u : State} (h : GridStands s t) (h' : GridStands t u) : GridStands s u := by
  refine ⟨h'.count.trans h.count, fun hs => ?_⟩
  obtain ⟨hp, ht⟩ := h.position hs
  obtain ⟨hp', hu⟩ := h'.position ht
  exact ⟨hp'.trans hp, hu⟩

theorem of_grid {s t : State} (hf : t.fru.count = s.fru.count) (hp : t.grid.pos = s.grid.pos)
    (hs : t.grid.state = s.grid.state) : GridStands s t :=
  ⟨hf, fun h => ⟨hp, hs ▸ h⟩⟩

theorem of_eq {s t : State} (hf : t.fru = s.fru) (hg : t.grid = s.grid) : GridStands s t :=
  of_grid (by rw [hf]) (by rw [hg]) (by rw [hg])

theorem of_unset {s t : State} (hf : t.fru = s.fru) (hs : s.grid.state = .unset) : GridStands s t :=
  ⟨by rw [hf], fun h => absurd hs h⟩

/-! ### Requests that leave the grid alone -/

theorem takeRequest {owner : State → State × Reply} (ho : ∀ s, GridStands s (owner s).1) (st : Station) (kind tag : Byte)
    (f : List Byte) (lengths : List Nat) (s : State) : GridStands s (takeRequest st kind tag f lengths owner s) := by
  have hafter : GridStands s (afterTaking st s) := of_eq rfl rfl
  have hreply : ∀ r u, GridStands u (placeReply st kind tag r u) := fun r u => of_eq (by simp) (by simp)
  rcases takeRequest_cases st kind tag f lengths owner s with e | ⟨-, r, e | e⟩ <;> rw [e]
  · exact refl s
  · exact (hafter.trans (ho _)).trans (hreply _ _)
  · exact hafter.trans (hreply _ _)

theorem whenRunning {f : State → State} (hf : ∀ s, GridStands s (f s)) (s : State) : GridStands s (whenRunning f s) := by
  unfold Machine.whenRunning
  split
  exacts [hf s, refl s]

theorem setPin (p : PinId) (x : Pin) (s : State) : GridStands s (s.setPin p x) := of_eq rfl rfl

theorem setLane (l : LaneId) (x : Lane) (s : State) : GridStands s (s.setLane l x) := of_eq rfl rfl

theorem setLink (i : Station) (x : Link) (s : State) : GridStands s (s.setLink i x) := of_eq rfl rfl

theorem setPort (p : PortId) (x : Port) (s : State) : GridStands s (s.setPort p x) := of_eq rfl rfl

theorem setFollower (i : Station) (x : Follower) (s : State) : GridStands s (s.setFollower i x) := of_eq rfl rfl

theorem setInput (i : InputId) (x : MarkInput) (s : State) : GridStands s (s.setInput i x) := of_eq rfl rfl

theorem presenceOwner (st : Station) (f : List Byte) (s : State) : GridStands s (presenceOwner st f s).1 := by
  unfold Machine.presenceOwner
  split <;> exact of_eq rfl rfl

theorem queryOwner (st : Station) (f : List Byte) (s : State) : GridStands s (queryOwner st f s).1 := by
  unfold Machine.queryOwner
  repeat' split
  · exact refl s
  · exact refl s
  · exact refl s
  · next t _ _ => cases t <;> exact of_eq (by simp [clearShown]) (by simp [clearShown])

theorem seizeCodeSetOwner (st : Station) (f : List Byte) (s : State) : GridStands s (seizeCodeSetOwner st f s).1 := by
  unfold Machine.seizeCodeSetOwner setLatch
  repeat' split
  all_goals exact of_eq (by simp [answered]) (by simp [answered])

theorem inputSetOwner (st : Station) (f : List Byte) (s : State) : GridStands s (inputSetOwner st f s).1 := by
  unfold Machine.inputSetOwner
  dsimp only
  repeat' split
  all_goals exact of_eq rfl rfl

theorem pinSetOwner (st : Station) (f : List Byte) (s : State) : GridStands s (pinSetOwner st f s).1 := by
  unfold Machine.pinSetOwner
  repeat' split
  all_goals exact of_eq rfl rfl

theorem portSetOwner (st : Station) (f : List Byte) (s : State) : GridStands s (portSetOwner st f s).1 := by
  unfold Machine.portSetOwner
  repeat' split
  all_goals exact of_eq rfl rfl

theorem sceneSaveOwner (st : Station) (tag : Byte) (s : State) : GridStands s (sceneSaveOwner st tag s).1 := by
  unfold Machine.sceneSaveOwner
  repeat' split
  all_goals exact of_eq rfl rfl

theorem fixBoundary (m : Measured) (k : TransportKind) (q : Quantum) (x : TransportState) (s : State) :
    GridStands s (fixBoundary m k q x s).1 :=
  of_eq (by simp [Machine.fixBoundary, transportChange, onLanes]) (by simp [Machine.fixBoundary, transportChange, onLanes])

theorem cancelBoundary (f : Beat → Lane → Lane) (x : TransportState) (s : State) :
    GridStands s (cancelBoundary f x s).1 := by
  unfold Machine.cancelBoundary
  dsimp only
  split <;> exact of_eq (by simp [transportChange, onLanes]) (by simp [transportChange, onLanes])

theorem transportWith (m : Measured) (k : TransportKind) (q : Quantum) (s : State) :
    GridStands s (transportWith m k q s).1 := by
  unfold Machine.transportWith
  split
  · exact fixBoundary _ _ _ _ s
  · exact refl s
  · exact cancelBoundary _ _ s
  · exact refl s
  · exact fixBoundary _ _ _ _ s
  · exact refl s
  · exact cancelBoundary _ _ s
  · exact refl s

theorem transportOwner (st : Station) (b : TransportBody) (s : State) : GridStands s (transportOwner st b s).1 := by
  unfold Machine.transportOwner
  repeat' split
  exacts [refl s, refl s, transportWith _ _ _ s, refl s]

/-! ### Requests of the lanes -/

theorem withLane {st : Station} {f : List Byte} {act : LaneId → State → State × Reply}
    (ha : ∀ l s, GridStands s (act l s).1) (s : State) : GridStands s (withLane st f act s).1 := by
  unfold Machine.withLane
  repeat' split
  · exact refl s
  · exact refl s
  · exact ha _ s

theorem owned {st : Station} {l : LaneId} {kind : Byte} {force : Bool} {code : BitVec 16} {act : State → State × Reply}
    (ha : ∀ s, GridStands s (act s).1) (s : State) : GridStands s (owned st l kind force code act s).1 := by
  unfold Machine.owned
  split
  · next r hr =>
    unfold ownerRefusal at hr
    repeat' split at hr
    all_goals cases hr
    all_goals exact of_eq (by simp [answered, setLatch]) (by simp [answered, setLatch])
  · exact ha s

theorem disableLane (l : LaneId) (s : State) : GridStands s (disableLane l s) :=
  of_eq (by simp [Machine.disableLane]) (by simp [Machine.disableLane])

theorem laneSetOwner (st : Station) (f : List Byte) (s : State) : GridStands s (laneSetOwner st f s).1 := by
  refine withLane (fun l => owned fun s => ?_) s
  unfold laneSetChecked laneSetWith
  dsimp only
  repeat' split
  all_goals exact of_eq rfl rfl

theorem laneEnableOwner (st : Station) (f : List Byte) (s : State) : GridStands s (laneEnableOwner st f s).1 := by
  refine withLane (fun l => owned fun s => ?_) s
  unfold laneEnableChecked enableLane takeTarget
  dsimp only
  repeat' split
  all_goals exact of_eq rfl rfl

theorem laneDisableOwner (st : Station) (f : List Byte) (s : State) : GridStands s (laneDisableOwner st f s).1 := by
  refine withLane (fun l => owned fun s => ?_) s
  unfold laneDisableChecked laneDisableWith
  repeat' split
  · exact refl s
  · exact refl s
  · exact disableLane _ s
  · exact disableLane _ s
  · exact of_eq rfl rfl
  · exact of_eq rfl rfl

theorem laneReleaseOwner (st : Station) (f : List Byte) (s : State) : GridStands s (laneReleaseOwner st f s).1 := by
  refine withLane (fun l s => ?_) s
  unfold laneReleaseWith
  repeat' split
  all_goals exact of_eq rfl rfl

/-! ### The reference -/

theorem referenceChange {s : State} {f : Fru} (hf : f.count = s.fru.count) : GridStands s (referenceChange f s) :=
  of_grid (by simpa [Machine.referenceChange] using hf) (by simp [Machine.referenceChange])
    (by simp [Machine.referenceChange])

theorem withFru {s : State} {f : Fru} (hf : f.count = s.fru.count) : GridStands s { s with fru := f } :=
  of_grid hf rfl rfl

theorem setFromInternal (src : RefSource) (d : Nat) (s : State) : GridStands s (setFromInternal src d s).1 := by
  cases src
  · exact withFru rfl
  · exact referenceChange rfl

theorem setWhileQualifying (src : RefSource) (d : Nat) (s : State) : GridStands s (setWhileQualifying src d s).1 := by
  unfold Machine.setWhileQualifying
  repeat' split
  all_goals exact of_grid rfl rfl rfl

theorem setFromExternal (src : RefSource) (d : Nat) (s : State) : GridStands s (setFromExternal src d s).1 := by
  unfold Machine.setFromExternal
  repeat' split
  all_goals exact of_grid rfl rfl rfl

theorem referenceSetOwner (st : Station) (f : List Byte) (s : State) : GridStands s (referenceSetOwner st f s).1 := by
  unfold Machine.referenceSetOwner
  repeat' split
  · exact refl s
  · next src d _ _ =>
    have hreq : GridStands s { s with fru := { s.fru with requested := src } } := withFru rfl
    unfold referenceSetWith
    dsimp only
    split
    · exact hreq.trans (setFromInternal _ _ _)
    · exact hreq.trans (setFromExternal _ _ _)
    · exact hreq.trans (setWhileQualifying _ _ _)
    · exact hreq.trans (setWhileQualifying _ _ _)
  · exact refl s

theorem fallback (s : State) : GridStands s (fallback s) := by
  unfold Machine.fallback
  refine referenceChange ?_
  rfl

theorem switchExternal (s : State) : GridStands s (switchExternal s) := by
  unfold Machine.switchExternal
  refine referenceChange ?_
  rfl

theorem switchInternal (s : State) : GridStands s (switchInternal s) := by
  unfold Machine.switchInternal
  refine referenceChange ?_
  rfl

theorem silence (s : State) : GridStands s (silence s) := by
  unfold Machine.silence
  repeat' split
  · exact refl s
  · exact fallback s
  · exact refl s
  · exact withFru rfl

/-! ### The lead and the tempo -/

theorem startGrid {s : State} (hs : s.grid.state = .unset) (t e : Nat) : GridStands s (startGrid t e s) :=
  of_unset (by simp) hs

theorem handoverTakes (s : State) : GridStands s (handoverTakes s) := of_grid (by simp) (by simp) (by simp)

theorem handoverAtCrossing (s : State) : GridStands s (handoverAtCrossing s) := by
  rcases handoverAtCrossing_cases s with e | e <;> rw [e]
  exacts [refl s, handoverTakes s]

theorem transportReached (s : State) : GridStands s (transportReached s) := of_eq (by simp) (by simp)

theorem gridHandOff (s : State) : GridStands s (gridHandOff s) := by
  have hrun : GridStands s { s with grid := { s.grid with state := .running } } := ⟨rfl, fun _ => ⟨rfl, nofun⟩⟩
  have hhold : GridStands s { s with grid := enterHoldover s.grid } := ⟨rfl, fun _ => ⟨rfl, nofun⟩⟩
  unfold Machine.gridHandOff
  split
  · split
    exacts [hhold, refl s]
  · split
    · next hs =>
      split
      exacts [startGrid hs _ _, refl s]
    · dsimp only
      split
      exacts [hrun.trans (handoverTakes _), hrun]

theorem changeHolder (new : Option LeadEntry) (q : List LeadEntry) (r : Reason) (s : State) :
    GridStands s (changeHolder new q r s) := by
  have htold : ∀ u, GridStands u (raiseHouse r (showSource .holdover (showSource .leadHeld u))) := fun u =>
    of_eq (by simp) (by simp)
  unfold Machine.changeHolder
  refine trans (trans ?_ (gridHandOff _)) (htold _)
  exact of_grid (by simp) (by simp [removeTrim]) (by simp [removeTrim])

theorem leaveLead (r : Reason) (s : State) : GridStands s (leaveLead r s) := by
  unfold Machine.leaveLead
  split <;> exact changeHolder _ _ _ _

theorem leadLapse (st : Station) (s : State) : GridStands s (leadLapse st s) := by
  unfold Machine.leadLapse lapseStation
  split
  · refine trans (t := s.setLink st { s.link st with lapseReported := false }) (of_eq rfl rfl) ?_
    repeat' split
    · exact leaveLead _ _
    · exact of_eq (by simp) (by simp)
    · exact refl _
  · exact refl s

theorem replaceTerms (st : Station) (t : Terms) (s : State) : GridStands s (replaceTerms st t s) := by
  have hterms : ∀ x : Lead, GridStands s { s with
      grid := if s.lead.handover.isSome = true then { s.grid with crossing := .none } else s.grid, lead := x } := by
    intro x
    split <;> exact of_grid rfl rfl rfl
  unfold Machine.replaceTerms
  dsimp only
  split
  · next hs =>
    split
    · exact of_unset (by simp) hs
    · exact hterms _
  · split
    exacts [(hterms _).trans (handoverTakes _), hterms _]

theorem takeLeadOwner (st : Station) (f : List Byte) (s : State) : GridStands s (takeLeadOwner st f s).1 := by
  unfold Machine.takeLeadOwner takeLeadWith
  repeat' split
  · exact refl s
  · exact refl s
  · exact changeHolder _ _ _ _
  · exact replaceTerms _ _ _
  · exact of_eq (by simp) (by simp)

theorem yieldOwner (st : Station) (s : State) : GridStands s (yieldOwner st s).1 := by
  unfold Machine.yieldOwner
  repeat' split
  · exact refl s
  · exact leaveLead _ _
  · exact of_eq (by simp) (by simp)
  · exact refl s

theorem seizeOwner (st : Station) (f : List Byte) (s : State) : GridStands s (seizeOwner st f s).1 := by
  unfold Machine.seizeOwner seizeWith
  repeat' split
  · exact refl s
  · exact refl s
  · exact of_eq (by simp [setLatch, answered]) (by simp [setLatch, answered])
  · exact refl s
  · exact changeHolder _ _ _ _
  · exact refl s
  · exact changeHolder _ _ _ _

theorem tempoOwner (st : Station) (f : List Byte) (s : State) : GridStands s (tempoOwner st f s).1 := by
  have htempo : ∀ v m c, GridStands s (tempoWith v m c s).1 := by
    intro v m c
    unfold tempoWith
    split
    · next hs => exact of_unset (by simp [dropHandover]) hs
    · exact of_grid (by simp [dropHandover]) (by simp) (by simp)
  unfold Machine.tempoOwner
  repeat' split
  exacts [refl s, refl s, htempo _ _ _]

theorem nudgeOwner (st : Station) (f : List Byte) (s : State) : GridStands s (nudgeOwner st f s).1 := by
  unfold Machine.nudgeOwner
  dsimp only
  repeat' split
  all_goals exact of_grid rfl rfl rfl

theorem setMeterOwner (st : Station) (f : List Byte) (s : State) : GridStands s (setMeterOwner st f s).1 := by
  unfold Machine.setMeterOwner meterAtOnce meterPending
  dsimp only
  repeat' split
  all_goals exact of_grid (by simp [answered]) (by simp [answered]) (by simp [answered])

/-! ### Marks -/

theorem phaseHandOffs (st : Station) (t : Terms) (stamp : Frame) (down : Bool) (s : State) :
    GridStands s (phaseHandOffs st t stamp down s) := by
  rw [phaseHandOffs_eq]
  exact of_grid (by simp) (by simp) (by simp)

theorem followHandOff (st : Station) (t : Terms) (o : MarkOutcome) (s : State) :
    GridStands s (followHandOff st t o s) := by
  unfold Machine.followHandOff
  repeat' split
  · exact of_grid (by simp) (by simp) (by simp)
  · exact refl s
  · exact refl s

theorem startHandOff {s : State} (hs : s.grid.state = .unset) (st : Station) (t : Terms) (o : MarkOutcome)
    (stamp : Frame) : GridStands s (startHandOff st t o stamp s) := by
  unfold Machine.startHandOff
  repeat' split
  · exact startGrid hs _ _
  · exact refl s
  · exact refl s

theorem markHandOffs (st : Station) (o : MarkOutcome) (stamp : Frame) (down : Bool) (s : State) :
    GridStands s (markHandOffs st o stamp down s) := by
  unfold Machine.markHandOffs
  split
  · exact refl _
  · split
    · split
      exacts [(phaseHandOffs _ _ _ _ _).trans (followHandOff _ _ _ _), refl _]
    · next hs => exact startHandOff hs _ _ _ _
    · exact refl _

theorem beatMark (st : Station) (stamp : Frame) (down : Bool) (s : State) : GridStands s (beatMark st stamp down s) := by
  unfold Machine.beatMark
  exact (setFollower _ _ _).trans (markHandOffs _ _ _ _ _)

theorem markOwner (st : Station) (f : List Byte) (s : State) : GridStands s (markOwner st f s).1 := by
  unfold Machine.markOwner
  split
  exacts [refl s, beatMark _ _ _ _]

theorem deliveredMark (st : Station) (m : MarkInput) (s : State) : GridStands s (deliveredMark st m s) := by
  unfold Machine.deliveredMark
  repeat' split
  · exact refl s
  · exact phaseHandOffs _ _ _ _ _
  · exact refl s
  · exact refl s
  · exact beatMark _ _ _ _

theorem inputEdge (i : InputId) (c : LevelChange) (s : State) : GridStands s (inputEdge i c s) := by
  unfold Machine.inputEdge
  dsimp only
  repeat' split
  exacts [refl s, (setInput _ _ _).trans (deliveredMark _ _ _), refl s]

/-! ### The links and the other moments -/

theorem takeUnknown (st : Station) (kind tag : Byte) (f : List Byte) (s : State) :
    GridStands s (takeUnknown st kind tag f s) := by
  unfold Machine.takeUnknown
  split
  · exact refl s
  · rcases takeFrame_cases st (kind :: tag :: f) s with ht | ht <;> simp only [ht]
    · exact refl s
    · exact of_eq (by simp) (by simp)

theorem emptyFollower (st : Station) (s : State) : GridStands s (emptyFollower st s) := by
  unfold Machine.emptyFollower
  split <;> exact of_eq rfl rfl

theorem characterTaken (st : Station) (c : LineChar) (s : State) : GridStands s (characterTaken st c s) := by
  have hsettle : ∀ s, GridStands s (settleDeparture st s) := fun s => (leadLapse st s).trans (emptyFollower st _)
  have htaken : ∀ (k : Link) (b : Bool) (s : State),
      GridStands s (if b = true then pulseSource (.linkActivity st) (s.setLink st k) else s.setLink st k) := by
    intro k b s
    split <;> exact of_eq rfl rfl
  unfold Machine.characterTaken
  split
  · exact refl s
  · cases c with
    | framingError => exact of_eq rfl rfl
    | byte b =>
      dsimp only
      split
      exacts [(hsettle s).trans (htaken _ _ _), htaken _ _ _]

theorem departLink (st : Station) (s : State) : GridStands s (departLink st s) := of_eq rfl rfl

theorem breakMoment (st : Station) (a : Frame) (s : State) : GridStands s (breakMoment st a s) := by
  unfold Machine.breakMoment
  dsimp only
  repeat' split
  all_goals exact of_eq rfl rfl

theorem expiryMoment (st : Station) (s : State) : GridStands s (expiryMoment st s) := by
  unfold Machine.expiryMoment
  split <;> exact of_eq rfl rfl

theorem putWalked (l : LaneId) (w : Walked) (s : State) : GridStands s (putWalked l w s) := of_eq (by simp) (by simp)

theorem activationMoment (l : LaneId) (s : State) : GridStands s (activationMoment l s) := by
  unfold Machine.activationMoment
  repeat' split
  exacts [putWalked _ _ _, refl s, refl s]

theorem stagedMoment (l : LaneId) (s : State) : GridStands s (stagedMoment l s) := by
  unfold Machine.stagedMoment
  repeat' split
  exacts [putWalked _ _ _, refl s, refl s]

theorem disableMoment (l : LaneId) (s : State) : GridStands s (disableMoment l s) := by
  unfold Machine.disableMoment
  repeat' split
  exacts [putWalked _ _ _, refl s, refl s]

theorem handoverMoment (s : State) : GridStands s (handoverMoment s) := by
  unfold Machine.handoverMoment
  split
  exacts [refl s, handoverAtCrossing s]

theorem transportMoment (s : State) : GridStands s (transportMoment s) := by
  unfold Machine.transportMoment
  split
  exacts [refl s, transportReached s]

theorem saveEnd (ok : Bool) (s : State) : GridStands s (saveEnd ok s) := by
  unfold Machine.saveEnd saveAnswer
  repeat' split
  all_goals exact of_eq rfl rfl

end GridStands

/-! ### Frame events (R6, R29) -/

/-- What a frame event, whole and with what it switches, does to the count and the position. -/
structure FrameMoves (s t : State) : Prop where
  count : t.fru.count = s.fru.count + 1
  position : s.grid.state ≠ .unset → t.grid.pos = s.grid.pos.add s.grid.appliedInc ∧ t.grid.state ≠ .unset

theorem FrameMoves.then {s t u : State} (h : FrameMoves s t) (h' : GridStands t u) : FrameMoves s u := by
  refine ⟨h'.count.trans h.count, fun hs => ?_⟩
  obtain ⟨hp, ht⟩ := h.position hs
  obtain ⟨hp', hu⟩ := h'.position ht
  exact ⟨hp'.trans hp, hu⟩

theorem gridFrame_pos {b : Bool} {s : State} (hs : s.grid.state ≠ .unset) :
    (gridFrame b s).grid.pos = s.grid.pos.add s.grid.appliedInc := by
  by_cases h : 4294967296 ≤ s.grid.pos.frac.toNat + s.grid.appliedInc
  · simp [gridFrame_across hs h]
  · simp [gridFrame_within hs (by omega)]

theorem frameMoves_whole (o : FrameOrder) (s : State) : FrameMoves s (frameEventWhole o s) := by
  refine ⟨by simp, fun hs => ?_⟩
  have hb : (frameBegun o s).grid.state ≠ .unset := by simpa using hs
  refine ⟨?_, by simpa using hs⟩
  simpa using gridFrame_pos (b := o.transportFirst) hb

theorem frameMoves_internalBoundary (o : FrameOrder) (s : State) : FrameMoves s (internalBoundary o s) := by
  have hw := frameMoves_whole o s
  unfold internalBoundary
  dsimp only
  split
  · exact hw
  · exact hw.then (.switchExternal _)
  · exact hw.then (.switchInternal _)

theorem frameMoves_wckFrameEdge {s : State} {f : Fru} (hf : f.count = s.fru.count) (o : FrameOrder) :
    FrameMoves s (wckFrameEdge o { s with fru := f }) := by
  have hw : FrameMoves s (frameEventWhole o { s with fru := f }) := by
    obtain ⟨hcount, hpos⟩ := frameMoves_whole o { s with fru := f }
    exact ⟨hcount.trans (by rw [hf]), hpos⟩
  unfold wckFrameEdge
  dsimp only
  split
  · exact hw.then (.switchInternal _)
  · exact hw
  · exact hw

theorem frameMoves_wckFrameEvent (o : FrameOrder) (s : State) : FrameMoves s (wckFrameEvent o s) := by
  unfold wckFrameEvent
  refine frameMoves_wckFrameEdge ?_ o
  rfl

theorem frameMoves_frameMoment (o : FrameOrder) (s : State) : FrameMoves s (frameMoment o s) := by
  unfold frameMoment
  split
  · exact frameMoves_internalBoundary o s
  · exact frameMoves_internalBoundary o s
  · exact frameMoves_wckFrameEvent o s
  · exact frameMoves_internalBoundary o s

theorem qualifyEdge_count (w : WckPeriod) (f : Fru) : (qualifyEdge w f).count = f.count := by
  unfold qualifyEdge
  dsimp only
  repeat' split
  all_goals rfl

/-- A command of the frame reference lets a frame event happen, or none. -/
def FrameOrNone (s t : State) : Prop := GridStands s t ∨ FrameMoves s t

theorem frameOrNone_wckMoment (w : WckPeriod) (o : FrameOrder) (s : State) : FrameOrNone s (wckMoment w o s) := by
  unfold wckMoment externalEdge
  split
  · exact .inl (.refl s)
  · exact .inl (.withFru (qualifyEdge_count w s.fru))
  · exact .inl (.withFru (qualifyEdge_count w s.fru))
  · split
    · exact .inl (.fallback s)
    · dsimp only
      split
      · refine .inr (frameMoves_wckFrameEdge ?_ o)
        rfl
      · exact .inl (.withFru rfl)

theorem frameOrNone_toExternalMoment (o : FrameOrder) (s : State) : FrameOrNone s (toExternalMoment o s) := by
  unfold toExternalMoment
  split
  · exact .inr (frameMoves_internalBoundary o s)
  · exact .inl (.refl s)

theorem frameOrNone_toInternalMoment (o : FrameOrder) (s : State) : FrameOrNone s (toInternalMoment o s) := by
  unfold toInternalMoment
  split
  · split
    · exact .inl (.refl s)
    · exact .inr (frameMoves_internalBoundary o s)
    · exact .inr (frameMoves_internalBoundary o s)
    · exact .inr (frameMoves_wckFrameEvent o s)
  · exact .inl (.refl s)

theorem frameOrNone_whenRunning {f : State → State} (hf : ∀ s, FrameOrNone s (f s)) (s : State) :
    FrameOrNone s (whenRunning f s) := by
  unfold whenRunning
  split
  exacts [hf s, .inl (.refl s)]

/-! ### Grid Clear, reset and start -/

theorem gridClear_moves (st : Station) (tag : Byte) (f : List Byte) (s : State) :
    let t := takeRequest st 0x15 tag f [4] (gridClearOwner st f) s
    t.fru.count = s.fru.count ∧ (t.grid.pos = s.grid.pos ∨ t.grid.state = .unset ∧ t.grid.pos = ⟨0, 0⟩) := by
  have howner : ∀ s, (gridClearOwner st f s).1.fru = s.fru ∧ ((gridClearOwner st f s).1.grid = s.grid ∨
      (gridClearOwner st f s).1.grid = clearGrid s.grid) := by
    intro s
    unfold gridClearOwner
    repeat' split
    · exact ⟨rfl, .inl rfl⟩
    · exact ⟨rfl, .inl rfl⟩
    · exact ⟨by simp [answered, setLatch], .inl (by simp [answered, setLatch])⟩
    · exact ⟨by simp [clearPart], .inr (by simp [clearPart])⟩
  dsimp only
  rcases takeRequest_cases st 0x15 tag f [4] (gridClearOwner st f) s with e | ⟨-, r, e | e⟩ <;> rw [e]
  · exact ⟨rfl, .inl rfl⟩
  · obtain ⟨hf, hg⟩ := howner (afterTaking st s)
    refine ⟨by simp [hf], ?_⟩
    rcases hg with hg | hg
    · exact .inl (by simp [hg])
    · exact .inr (by simp [hg, clearGrid, Grid.reset])
  · exact ⟨by simp, .inl (by simp)⟩

theorem startPart_moves (s : State) : ((startPart s).fru.count = s.fru.count ∨ (startPart s).fru.count = 1) ∧
    (s.phase = .running → startPart s = s) := by
  unfold startPart
  split
  · next hp => exact ⟨by simp, fun h => by simp [hp] at h⟩
  · exact ⟨.inl rfl, fun _ => rfl⟩

theorem releasePart_stands (x : Straps) (s : State) : GridStands s (releasePart x s) := by
  unfold releasePart
  split <;> exact .of_grid rfl rfl rfl

/-! ### The obligation -/

theorem GridStands.moves {s t : State} (h : GridStands s t) {P : Prop} : t.fru.count = s.fru.count ∧
    (s.grid.state ≠ .unset → s.phase = .running → t.grid.pos = s.grid.pos ∧ (t.grid.state = .unset → P)) := by
  refine ⟨h.count, fun hs _ => ?_⟩
  obtain ⟨hp, ht⟩ := h.position hs
  exact ⟨hp, fun hu => absurd hu ht⟩

theorem FrameOrNone.moves {s t : State} (h : FrameOrNone s t) {P : Prop} :
    (t.fru.count = s.fru.count ∨ t.fru.count = s.fru.count + 1) ∧
    (s.grid.state ≠ .unset → s.phase = .running →
      (t.grid.pos = s.grid.pos ∧ t.fru.count = s.fru.count ∨
        t.grid.pos = s.grid.pos.add s.grid.appliedInc ∧ t.fru.count = s.fru.count + 1) ∧
      (t.grid.state = .unset → P)) := by
  rcases h with ⟨hc, hpos⟩ | ⟨hc, hpos⟩
  · refine ⟨.inl hc, fun hs _ => ?_⟩
    obtain ⟨hp, ht⟩ := hpos hs
    exact ⟨.inl ⟨hp, hc⟩, fun hu => absurd hu ht⟩
  · refine ⟨.inr hc, fun hs _ => ?_⟩
    obtain ⟨hp, ht⟩ := hpos hs
    exact ⟨.inr ⟨hp, hc⟩, fun hu => absurd hu ht⟩

/-- Settles O5, command by command: a request or a moment of one block stands, a frame event moves, and the Clear and the
reset end the grid. -/
theorem countAndPositionMoveByFrameEvents : Obligations.CountAndPositionMoveByFrameEvents := by
  intro c s t ht
  cases c with
  | presence st tag f => cases ht; exact (GridStands.takeRequest (GridStands.presenceOwner st f) ..).moves
  | query st tag f => cases ht; exact (GridStands.takeRequest (GridStands.queryOwner st f) ..).moves
  | takeLead st tag f => cases ht; exact (GridStands.takeRequest (GridStands.takeLeadOwner st f) ..).moves
  | yield st tag f => cases ht; exact (GridStands.takeRequest (GridStands.yieldOwner st) ..).moves
  | seize st tag f => cases ht; exact (GridStands.takeRequest (GridStands.seizeOwner st f) ..).moves
  | seizeCodeSet st tag f => cases ht; exact (GridStands.takeRequest (GridStands.seizeCodeSetOwner st f) ..).moves
  | tempo st tag f => cases ht; exact (GridStands.takeRequest (GridStands.tempoOwner st f) ..).moves
  | nudge st tag f => cases ht; exact (GridStands.takeRequest (GridStands.nudgeOwner st f) ..).moves
  | setMeter st tag f => cases ht; exact (GridStands.takeRequest (GridStands.setMeterOwner st f) ..).moves
  | mark st tag f => cases ht; exact (GridStands.takeRequest (GridStands.markOwner st f) ..).moves
  | inputSet st tag f => cases ht; exact (GridStands.takeRequest (GridStands.inputSetOwner st f) ..).moves
  | transport st tag b => cases ht; exact (GridStands.takeRequest (GridStands.transportOwner st b) ..).moves
  | laneSet st tag f => cases ht; exact (GridStands.takeRequest (GridStands.laneSetOwner st f) ..).moves
  | laneEnable st tag f => cases ht; exact (GridStands.takeRequest (GridStands.laneEnableOwner st f) ..).moves
  | laneDisable st tag f => cases ht; exact (GridStands.takeRequest (GridStands.laneDisableOwner st f) ..).moves
  | laneRelease st tag f => cases ht; exact (GridStands.takeRequest (GridStands.laneReleaseOwner st f) ..).moves
  | pinSet st tag f => cases ht; exact (GridStands.takeRequest (GridStands.pinSetOwner st f) ..).moves
  | portSet st tag f => cases ht; exact (GridStands.takeRequest (GridStands.portSetOwner st f) ..).moves
  | referenceSet st tag f => cases ht; exact (GridStands.takeRequest (GridStands.referenceSetOwner st f) ..).moves
  | sceneSave st tag f => cases ht; exact (GridStands.takeRequest (GridStands.sceneSaveOwner st tag) ..).moves
  | gridClear st tag f =>
    cases ht
    obtain ⟨hc, hpos⟩ := gridClear_moves st tag f s
    exact ⟨hc, fun _ _ => ⟨hpos, fun _ => .inr ⟨st, tag, f, rfl⟩⟩⟩
  | unknownKind st kind tag f => cases ht; exact (GridStands.whenRunning (GridStands.takeUnknown st kind tag f) s).moves
  | sceneSaveComplete ok => cases ht; exact (GridStands.whenRunning (GridStands.saveEnd ok) s).moves
  | hardwareReset => cases ht; exact ⟨rfl, fun _ _ => ⟨⟨rfl, rfl⟩, fun _ => .inl rfl⟩⟩
  | rstnRelease x => cases ht; exact (releasePart_stands x s).moves
  | oscillatorStarted =>
    cases ht
    obtain ⟨hc, hrun⟩ := startPart_moves s
    refine ⟨hc, fun hs hp => ?_⟩
    rw [hrun hp]
    exact ⟨rfl, fun hu => absurd hu hs⟩
  | frameEvent o => cases ht; exact (frameOrNone_whenRunning (fun s => .inr (frameMoves_frameMoment o s)) s).moves
  | handoverEffect => cases ht; exact (GridStands.whenRunning GridStands.handoverMoment s).moves
  | transportBoundary => cases ht; exact (GridStands.whenRunning GridStands.transportMoment s).moves
  | laneActivation l => cases ht; exact (GridStands.whenRunning (GridStands.activationMoment l) s).moves
  | stagedPartApply l => cases ht; exact (GridStands.whenRunning (GridStands.stagedMoment l) s).moves
  | pendingDisableEffect l => cases ht; exact (GridStands.whenRunning (GridStands.disableMoment l) s).moves
  | pinTimerEnd p =>
    cases ht
    exact (GridStands.whenRunning (fun s => .setPin p (timerEnd s.fru.count (s.pin p)) s) s).moves
  | activeUntilExpiry p =>
    cases ht
    exact (GridStands.whenRunning (fun s => .setPin p (activeUntilExpire s.fru.count (s.pin p)) s) s).moves
  | lastEmissionExpiry l =>
    cases ht
    exact (GridStands.whenRunning (fun s => .setLane l (lastEmissionExpire s.fru.count (s.lane l)) s) s).moves
  | lastStampExpiry st =>
    cases ht
    exact (GridStands.whenRunning (fun s => .setFollower st (followerExpire s.fru.count (s.follower st)) s) s).moves
  | edgeFrameExpiry i =>
    cases ht
    exact (GridStands.whenRunning (fun s => .setInput i (edgeExpire s.fru.count (s.input i)) s) s).moves
  | markInputEdge i c => cases ht; exact (GridStands.whenRunning (GridStands.inputEdge i c) s).moves
  | wckEdge w o => cases ht; exact (frameOrNone_whenRunning (frameOrNone_wckMoment w o) s).moves
  | wckSilence => cases ht; exact (GridStands.whenRunning GridStands.silence s).moves
  | switchToExternal o => cases ht; exact (frameOrNone_whenRunning (frameOrNone_toExternalMoment o) s).moves
  | switchToInternal o => cases ht; exact (frameOrNone_whenRunning (frameOrNone_toInternalMoment o) s).moves
  | characterReceived st c => cases ht; exact (GridStands.whenRunning (GridStands.characterTaken st c) s).moves
  | gapDetected st =>
    cases ht
    exact (GridStands.whenRunning (fun s => .setLink st (gapTest s.fru.count (s.link st)) s) s).moves
  | breakDetected st a => cases ht; exact (GridStands.whenRunning (GridStands.breakMoment st a) s).moves
  | presenceExpiry st => cases ht; exact (GridStands.whenRunning (GridStands.expiryMoment st) s).moves
  | leadLapse st => cases ht; exact (GridStands.whenRunning (GridStands.leadLapse st) s).moves
  | followerEmptied st => cases ht; exact (GridStands.whenRunning (GridStands.emptyFollower st) s).moves
  | linkMessageEnd st =>
    cases ht
    exact (GridStands.whenRunning (fun s => .setLink st (messageEnd (s.link st)) s) s).moves
  | portCharacterEnd p =>
    cases ht
    exact (GridStands.whenRunning (fun s => .setPort p (characterEnd (s.port p)) s) s).moves
  | lineReturnsToMark st =>
    cases ht
    exact (GridStands.whenRunning (fun s => .setLink st (lineAtMark (s.link st)) s) s).moves

end Sys2Proof.Machine
end

section
/-! PROOF. What a frame event leaves of a pin that no lane holds, of a link and of the store (R136, R143, R155, R180,
R183, R206). -/

namespace Sys2Proof.Machine

/-! ### A pin that no lane holds -/

/-- No lane holds the pin, and every lane's items agree. -/
structure FreePin (p : PinId) (s : State) : Prop where
  lanes : ∀ l, LaneOk (s.lane l)
  free : ∀ l, ¬ holdsPin s l p

theorem FreePin.of_lanes {p : PinId} {s t : State} (h : FreePin p s) (hl : t.lanes = s.lanes) : FreePin p t := by
  have hlane : ∀ l, t.lane l = s.lane l := fun l => by simp [State.lane, hl]
  refine ⟨fun l => hlane l ▸ h.lanes l, fun l hp => h.free l ?_⟩
  unfold holdsPin at hp ⊢
  rwa [hlane l] at hp

theorem FreePin.setLane {p : PinId} {s : State} (h : FreePin p s) {l : LaneId} {x : Lane} (hx : LaneOk x)
    (hh : x.state ≠ .off → x.settings.kind = .pin → x.settings.target = .pin p → holdsPin s l p) :
    FreePin p (s.setLane l x) := by
  refine ⟨fun m => ?_, fun m hm => ?_⟩
  · rw [setLane_lane]
    split
    exacts [hx, h.lanes m]
  · unfold holdsPin at hm
    rw [setLane_lane] at hm
    split at hm
    · obtain ⟨hs, hk, ht⟩ := hm
      exact h.free l (hh hs hk ht)
    · exact h.free m hm

/-- A walk's result written back leaves a pin that no lane holds. -/
theorem FreePin.putWalked {p : PinId} {s : State} (h : FreePin p s) {l : LaneId} {w : Walked}
    (hw : WalkedOk (s.lane l) w) : FreePin p (putWalked l w s) ∧ (putWalked l w s).pin p = s.pin p := by
  have hheld : (s.lane l).state ≠ .off → ∀ q, w.lane.settings.kind = .pin → w.lane.settings.target = .pin q →
      holdsPin s l q := fun hs q hk ht => ⟨hs, hw.kind ▸ hk, hw.target ▸ ht⟩
  unfold Machine.putWalked
  split
  · next hn =>
    refine ⟨h.setLane hw.ok fun hs hk ht => hheld (fun e => hs ((hw.stays hn).2 e)) p hk ht, rfl⟩
  · next e he =>
    obtain ⟨hwas, hoff⟩ := hw.off (by simp [he])
    have hset : FreePin p (s.setLane l w.lane) := h.setLane hw.ok fun hs => absurd hoff hs
    rcases releaseTarget_cases w.lane.settings e (s.setLane l w.lane) with
      ⟨q, hk, ht, heq⟩ | ⟨q, -, -, -, heq⟩ | ⟨-, heq⟩
    · rw [heq]
      refine ⟨hset.of_lanes rfl, setPin_pin_ne _ _ _ _ ?_⟩
      rintro rfl
      exact h.free l (hheld hwas _ hk ht)
    · rw [heq]
      exact ⟨hset.of_lanes rfl, rfl⟩
    · rw [heq]
      exact ⟨hset, rfl⟩

/-- An emission leaves every pin but the lane's own. -/
theorem FreePin.deliver {p : PinId} {s : State} (h : FreePin p s) {l : LaneId} {x : Settings} {e : Emitted}
    (hx : ¬ (x.kind = .pin ∧ x.target = .pin p)) : FreePin p (deliver l x e s) ∧ (deliver l x e s).pin p = s.pin p := by
  unfold Machine.deliver
  split
  · next q hk ht =>
    refine ⟨h.of_lanes rfl, setPin_pin_ne _ _ _ _ ?_⟩
    rintro rfl
    exact hx ⟨hk, ht⟩
  · exact ⟨h.of_lanes rfl, rfl⟩
  · split
    · exact ⟨h, rfl⟩
    · exact ⟨h.of_lanes rfl, rfl⟩
  · exact ⟨h, rfl⟩

theorem FreePin.emitLane {p : PinId} {s : State} (h : FreePin p s) (l : LaneId) :
    FreePin p (emitLane l s) ∧ (emitLane l s).pin p = s.pin p := by
  unfold Machine.emitLane
  split
  · exact ⟨h, rfl⟩
  · next r rest hq =>
    split
    · have hon : (s.lane l).state ≠ .off := by
        intro hoff
        have hnone := congrArg Lane.queue ((h.lanes l).off hoff)
        rw [hq] at hnone
        cases hnone
      have hset : FreePin p (s.setLane l (laneEmitted s.fru.count r rest (s.lane l))) :=
        h.setLane ((h.lanes l).emitted hq s.fru.count) fun hs hk ht => ⟨hs, hk, ht⟩
      exact hset.deliver fun hx => h.free l ⟨hon, hx⟩
    · exact ⟨h, rfl⟩

theorem FreePin.laneFrame {p : PinId} {s : State} (h : FreePin p s) (l : LaneId) :
    FreePin p (laneFrame l s) ∧ (laneFrame l s).pin p = s.pin p := by
  unfold Machine.laneFrame walkLane
  split
  · exact ⟨h, rfl⟩
  · obtain ⟨hwalk, hpin⟩ := h.putWalked (walkedOk_walk (h.lanes l) s.grid s.fru.count Config.walkBound)
    obtain ⟨hemit, hpin'⟩ := hwalk.emitLane l
    exact ⟨hemit, hpin'.trans hpin⟩

theorem FreePin.lanesFrame {p : PinId} {s : State} (h : FreePin p s) (named : List LaneId) :
    (lanesFrame named s).pin p = s.pin p := by
  unfold Machine.lanesFrame
  generalize laneOrder named = order
  induction order generalizing s with
  | nil => rfl
  | cons l rest ih =>
    obtain ⟨hl, hpin⟩ := h.laneFrame l
    exact (ih hl).trans hpin

/-! ### The timers of the pins (R155) -/

theorem timersEnd_pin (sel : PinId → Bool) (s : State) (p : PinId) :
    (timersEnd sel s).pin p = if sel p = true then timerEnd s.fru.count (s.pin p) else s.pin p :=
  mapEach_get _ _ _

/-- A pin after the first timers of a frame event: its active-until frame expires, and its timer ends unless it is one of
the late pins (log entry 9). -/
def pinBegun (late : Bool) (now : Frame) (x : Pin) : Pin :=
  if late = true then activeUntilExpire now x else timerEnd now (activeUntilExpire now x)

/-- A pin after the last timers of a frame event. -/
def pinEnded (late : Bool) (now : Frame) (x : Pin) : Pin := if late = true then timerEnd now x else x

theorem frameBegun_pin (o : FrameOrder) (s : State) (p : PinId) :
    (frameBegun o s).pin p = pinBegun (o.latePins.contains p) (s.fru.count + 1) (s.pin p) := by
  have hexp : (frameExpiries { s with fru := { s.fru with count := s.fru.count + 1 } }).pin p =
      activeUntilExpire (s.fru.count + 1) (s.pin p) := mapEach_get _ _ _
  unfold frameBegun pinBegun
  rw [timersEnd_pin, hexp]
  cases o.latePins.contains p <;> rfl

theorem FreePin.frameBegun {p : PinId} {s : State} (h : FreePin p s) (o : FrameOrder) : FreePin p (frameBegun o s) := by
  have hlane : ∀ l, (Machine.frameBegun o s).lane l = lastEmissionExpire (s.fru.count + 1) (s.lane l) := fun l =>
    mapEach_get _ _ _
  refine ⟨fun l => hlane l ▸ (h.lanes l).lastEmissionExpire _, fun l hp => h.free l ?_⟩
  refine (SameHold.holdsPin_iff (t := Machine.frameBegun o s) ?_ p).1 hp
  exact hlane l ▸ sameHold_lastEmissionExpire _ _

/-- A frame event leaves a pin that no lane holds to its timers and to the Grid Engine's part. -/
theorem FreePin.frameEventWhole {p : PinId} {s : State} (h : FreePin p s) (o : FrameOrder) :
    (frameEventWhole o s).pin p = pinEnded (o.latePins.contains p) (s.fru.count + 1)
      ((gridFrame o.transportFirst (Machine.frameBegun o s)).pin p) := by
  have hgrid : FreePin p (gridFrame o.transportFirst (Machine.frameBegun o s)) := (h.frameBegun o).of_lanes (by simp)
  have hlinks : ∀ u, (linksFrame u).pin p = u.pin p := fun u => by simp [State.pin]
  rw [frameEventWhole_eq, hlinks, timersEnd_pin, hgrid.lanesFrame o.lanes]
  simp only [lanesFrame_keeps, gridFrame_keeps, frameBegun_keeps]
  rfl

theorem pinEnded_pinBegun (late : Bool) (now : Frame) (x : Pin) : pinEnded late now (pinBegun late now x) = pinTimed now x := by
  have h : timerEnd now (activeUntilExpire now x) = pinTimed now x := by
    unfold timerEnd activeUntilExpire pinTimed
    rcases x with ⟨f, lv, pol, src, timing, _ | a⟩
    · cases timing <;> rfl
    · cases timing
      · by_cases hr : 1073741824 ≤ (now - a).toNat ∧ (now - a).toNat < 2147483648
        · simp only [reached30, interval, hr, and_self, decide_true, Bool.not_false, Bool.and_self, if_true]
        · simp only [reached30, interval, hr, decide_false, Bool.and_false, Bool.false_eq_true, if_false,
            Bool.false_and]
      · by_cases hr : (now - a).toNat < 2147483648
        · simp only [dueReached, interval, hr, decide_true, Bool.not_true, Bool.false_and, Bool.false_eq_true,
            if_false, Bool.and_self, if_true]
        · simp only [dueReached, interval, hr, decide_false, Bool.not_true, Bool.false_and, Bool.and_false,
            Bool.false_eq_true, if_false]
  cases late <;> exact h

/-! ### The links (R180, R183, R186) -/

/-- What Beat Notices placed at a link leave of it: all but what it sends; a House Notice that waits behind a message being
sent waits on. -/
structure Posted (k k' : Link) : Prop where
  keeps : k' = { k with txQueue := k'.txQueue, sending := k'.sending }
  house : k.sending.isSome → k'.sending.isSome ∧ ∀ n, Message.house n ∈ k.txQueue → Message.house n ∈ k'.txQueue

theorem Posted.refl (k : Link) : Posted k k := ⟨rfl, fun h => ⟨h, fun _ hn => hn⟩⟩

theorem Posted.trans {k k' k'' : Link} (h : Posted k k') (h' : Posted k' k'') : Posted k k'' := by
  refine ⟨?_, fun hs => ?_⟩
  · have e := h'.keeps
    rw [h.keeps] at e
    exact e
  · obtain ⟨hs', hn⟩ := h.house hs
    obtain ⟨hs'', hn'⟩ := h'.house hs'
    exact ⟨hs'', fun n hq => hn' n (hn n hq)⟩

theorem txStart_sending {k : Link} (h : k.sending.isSome) : txStart k = k := by
  obtain ⟨m, hm⟩ := Option.isSome_iff_exists.1 h
  simp [txStart, hm]

theorem mem_replaceFirst {p : Message → Bool} {new m : Message} (hm : p m = false) {q : List Message} (h : m ∈ q) :
    m ∈ replaceFirst p new q := by
  induction q with
  | nil => cases h
  | cons x rest ih =>
    unfold replaceFirst
    split
    · next hx =>
      rcases List.mem_cons.1 h with rfl | h
      · simp [hm] at hx
      · exact List.mem_cons_of_mem _ h
    · rcases List.mem_cons.1 h with rfl | h
      · exact List.mem_cons_self
      · exact List.mem_cons_of_mem _ (ih h)

theorem posted_txStart {k : Link} {q : List Message}
    (hq : ∀ n, Message.house n ∈ k.txQueue → Message.house n ∈ q) : Posted k (txStart { k with txQueue := q }) := by
  refine ⟨?_, fun hs => ?_⟩
  · unfold txStart
    split <;> rfl
  · rw [txStart_sending (k := { k with txQueue := q }) hs]
    exact ⟨hs, hq⟩

theorem posted_placeBeat (n : BeatNotice) (k : Link) : Posted k (placeBeat n k) := by
  unfold placeBeat
  split
  · exact posted_txStart fun _ hn => mem_replaceFirst (by simp) hn
  · split
    · exact posted_txStart fun _ hn => List.mem_append_left _ hn
    · exact Posted.refl k

theorem posted_deliver (l : LaneId) (x : Settings) (e : Emitted) (s : State) (i : Station) :
    Posted (s.link i) ((deliver l x e s).link i) := by
  unfold deliver
  split
  · exact Posted.refl _
  · exact Posted.refl _
  · split
    · exact Posted.refl _
    · rw [setLink_link]
      split
      · next h => subst h; exact posted_placeBeat _ _
      · exact Posted.refl _
  · exact Posted.refl _

theorem posted_laneFrame (l : LaneId) (s : State) (i : Station) : Posted (s.link i) ((laneFrame l s).link i) := by
  have hwalk : ∀ j, (walkLane l s).link j = s.link j := fun j => by simp [State.link, walkLane]
  unfold laneFrame
  split
  · exact Posted.refl _
  · rw [← hwalk i]
    unfold emitLane
    split
    · exact Posted.refl _
    · split
      · exact posted_deliver _ _ _ ((walkLane l s).setLane l _) i
      · exact Posted.refl _

theorem posted_lanesFrame (named : List LaneId) (s : State) (i : Station) :
    Posted (s.link i) ((lanesFrame named s).link i) := by
  unfold lanesFrame
  generalize laneOrder named = order
  induction order generalizing s with
  | nil => exact Posted.refl _
  | cons l rest ih => exact (posted_laneFrame l s i).trans (ih (laneFrame l s))

/-- A link at the end of a frame event: its gap test, then its departure or its countdown (R180, R183). -/
def linkFrameEnd (now : Frame) (k : Link) : Link :=
  if lastFrameOfWindow (gapTest now k) = true then departed (gapTest now k) else countDown (gapTest now k)

theorem linkFrameEvent_link (st : Station) (s : State) (i : Station) :
    (linkFrameEvent st s).link i = if i = st then linkFrameEnd s.fru.count (s.link i) else s.link i := by
  have hwrite : ∀ k, ((s.setLink st (gapTest s.fru.count (s.link st))).setLink st k).link i =
      if i = st then k else s.link i := fun k => by rw [setLink_setLink, setLink_link]
  unfold linkFrameEvent
  dsimp only
  rw [setLink_link_same]
  split
  · next hlate =>
    rw [departLink_eq, setLink_link_same]
    refine (hwrite _).trans ?_
    split
    · next e => subst e; exact (if_pos hlate).symm
    · rfl
  · next hlate =>
    refine (hwrite _).trans ?_
    split
    · next e => subst e; exact (if_neg hlate).symm
    · rfl

theorem foldl_linkFrameEvent_link {order : List Station} (hn : order.Nodup) (s : State) (i : Station) :
    (order.foldl (fun s st => linkFrameEvent st s) s).link i =
      if i ∈ order then linkFrameEnd s.fru.count (s.link i) else s.link i := by
  induction order generalizing s with
  | nil => simp
  | cons st rest ih =>
    obtain ⟨hst, hrest⟩ := List.nodup_cons.1 hn
    rw [List.foldl_cons, ih hrest, linkFrameEvent_link]
    by_cases e : i = st
    · subst e; simp [hst]
    · simp [e]

theorem linksFrame_link (s : State) (i : Station) : (linksFrame s).link i = linkFrameEnd s.fru.count (s.link i) := by
  unfold linksFrame
  rw [foldl_linkFrameEvent_link (List.nodup_finRange 4), if_pos (List.mem_finRange i)]

/-! ### The store at a departure (R206) -/

theorem linkFrameEvent_store (st : Station) (s : State) :
    (linkFrameEvent st s).store = if (s.link st).present = true ∧ (s.link st).countdown = some 1 then
      storeDeparture st s.store else s.store := by
  unfold linkFrameEvent lastFrameOfWindow
  simp only [setLink_link_same, gapTest_present, gapTest_countdown, Bool.and_eq_true, decide_eq_true_eq]
  split <;> rfl

theorem linkFrameEvent_store_keeps (st : Station) (s : State) :
    (linkFrameEvent st s).store.saving = s.store.saving ∧ (linkFrameEvent st s).store.stored = s.store.stored ∧
      (linkFrameEvent st s).store.valid = s.store.valid := by
  rw [linkFrameEvent_store]
  split <;> exact ⟨rfl, rfl, rfl⟩

theorem linksFrame_store_keeps (s : State) : (linksFrame s).store.saving = s.store.saving ∧
    (linksFrame s).store.stored = s.store.stored ∧ (linksFrame s).store.valid = s.store.valid := by
  unfold linksFrame
  refine ⟨?_, ?_, ?_⟩
  · exact foldl_keeps _ (fun s : State => s.store.saving) (by simp [linkFrameEvent_store_keeps]) _ _
  · exact foldl_keeps _ (fun s : State => s.store.stored) (by simp [linkFrameEvent_store_keeps]) _ _
  · exact foldl_keeps _ (fun s : State => s.store.valid) (by simp [linkFrameEvent_store_keeps]) _ _

/-- A pending answer without a link stays without one. -/
theorem foldl_linkFrameEvent_linkless (order : List Station) {s : State} {a : PendingAnswer}
    (ha : s.store.answer = some a) (hl : a.link = none) :
    (order.foldl (fun s st => linkFrameEvent st s) s).store.answer = some a := by
  induction order generalizing s with
  | nil => exact ha
  | cons st rest ih =>
    refine ih ?_
    rw [linkFrameEvent_store]
    split
    · simp [storeDeparture, ha, hl]
    · exact ha

theorem foldl_linkFrameEvent_answer {order : List Station} {s : State} {i : Station} (hi : i ∈ order)
    (hp : (s.link i).present = true) (hc : (s.link i).countdown = some 1) {a : PendingAnswer}
    (ha : s.store.answer = some a) (hl : a.link = some i) :
    (order.foldl (fun s st => linkFrameEvent st s) s).store.answer = some { a with link := none } := by
  induction order generalizing s with
  | nil => cases hi
  | cons st rest ih =>
    by_cases e : i = st
    · subst e
      refine foldl_linkFrameEvent_linkless rest ?_ rfl
      rw [linkFrameEvent_store, if_pos ⟨hp, hc⟩]
      simp [storeDeparture, ha, hl]
    · have hlink : (linkFrameEvent st s).link i = s.link i := by rw [linkFrameEvent_link, if_neg e]
      refine ih ((List.mem_cons.1 hi).resolve_left e) (hlink ▸ hp) (hlink ▸ hc) ?_
      rw [linkFrameEvent_store]
      split
      · simp [storeDeparture, ha, hl, e]
      · exact ha

theorem linksFrame_answer {s : State} {i : Station} (hp : (s.link i).present = true) (hc : (s.link i).countdown = some 1)
    {a : PendingAnswer} (ha : s.store.answer = some a) (hl : a.link = some i) :
    (linksFrame s).store.answer = some { a with link := none } :=
  foldl_linkFrameEvent_answer (List.mem_finRange i) hp hc ha hl

end Sys2Proof.Machine
end

section
/-! PROOF. A frame event within a beat (R6, R43, R50, R155, R180, R183; O12). -/

namespace Sys2Proof.Machine

/-! ### The frame event as a command (R29, R33) -/

/-- The reference items as a frame event finds them: in EXTERNAL it is a good WCK frame edge (log entry 11). -/
def frameFru (f : Fru) : Fru :=
  if f.state = .external then { f with periodOpen := true, place := placeAfterFrame f.divisor } else f

@[simp] theorem frameFru_keeps (f : Fru) : (frameFru f).count = f.count ∧ (frameFru f).switch = f.switch ∧
    (frameFru f).state = f.state := by
  unfold frameFru
  split <;> simp

theorem frameMoment_eq {s : State} (hs : s.fru.switch = .none) (o : FrameOrder) :
    frameMoment o s = frameEventWhole o { s with fru := frameFru s.fru } := by
  have hinternal : s.fru.state ≠ .external → internalBoundary o s = frameEventWhole o { s with fru := frameFru s.fru } := by
    intro hst
    rw [show frameFru s.fru = s.fru from if_neg hst]
    unfold internalBoundary
    dsimp only
    split
    · rfl
    · next h => simp [hs] at h
    · next h => simp [hs] at h
  unfold frameMoment
  split
  · next h => exact hinternal (by simp [h])
  · next h => exact hinternal (by simp [h])
  · next h =>
    rw [show frameFru s.fru = { s.fru with periodOpen := true, place := placeAfterFrame s.fru.divisor } from if_pos h]
    unfold wckFrameEvent wckFrameEdge
    dsimp only
    split
    · next h => simp [hs] at h
    · rfl
    · rfl
  · next h => exact hinternal (by simp [h])

/-- With no switch pending, FRAME_EVENT is the frame event whole. -/
theorem exec_frameEvent {s : State} (hp : s.phase = .running) (hs : s.fru.switch = .none) (o : FrameOrder) :
    exec (.frameEvent o) s = .next (frameEventWhole o { s with fru := frameFru s.fru }) := by
  show Host.Outcome.next (whenRunning (frameMoment o) s) = _
  rw [whenRunning_running hp, frameMoment_eq hs]

/-! ### What every frame event does to the stamps, the edge frames and the links -/

theorem frameEventWhole_follower (o : FrameOrder) (s : State) (i : Station) :
    (frameEventWhole o s).follower i = followerExpire (s.fru.count + 1) (s.follower i) := by
  simp only [State.follower, frameEventWhole_keeps]
  exact mapEach_get _ _ _

theorem frameEventWhole_input (o : FrameOrder) (s : State) (i : InputId) :
    (frameEventWhole o s).input i = edgeExpire (s.fru.count + 1) (s.input i) := by
  simp only [State.input, frameEventWhole_keeps]
  exact mapEach_get _ _ _

/-- What the links' part of a frame event acts on. -/
def frameWalked (o : FrameOrder) (s : State) : State :=
  timersEnd (fun p => o.latePins.contains p) (lanesFrame o.lanes (gridFrame o.transportFirst (frameBegun o s)))

theorem frameEventWhole_links (o : FrameOrder) (s : State) : frameEventWhole o s = linksFrame (frameWalked o s) := rfl

theorem frameWalked_count (o : FrameOrder) (s : State) : (frameWalked o s).fru.count = s.fru.count + 1 := by
  simp [frameWalked]

theorem frameWalked_store (o : FrameOrder) (s : State) : (frameWalked o s).store = s.store := by simp [frameWalked]

theorem posted_frameWalked (o : FrameOrder) (s : State) (i : Station) :
    Posted ((gridFrame o.transportFirst (frameBegun o s)).link i) ((frameWalked o s).link i) :=
  posted_lanesFrame o.lanes _ i

theorem frameEventWhole_link (o : FrameOrder) (s : State) (i : Station) :
    (frameEventWhole o s).link i = linkFrameEnd (s.fru.count + 1) ((frameWalked o s).link i) := by
  rw [frameEventWhole_links, linksFrame_link, frameWalked_count]

theorem frameEventWhole_store_keeps (o : FrameOrder) (s : State) :
    (frameEventWhole o s).store.saving = s.store.saving ∧ (frameEventWhole o s).store.stored = s.store.stored ∧
      (frameEventWhole o s).store.valid = s.store.valid := by
  rw [frameEventWhole_links, ← frameWalked_store o s]
  exact linksFrame_store_keeps _

theorem frameEventWhole_answer {o : FrameOrder} {s : State} {i : Station} (hp : ((frameWalked o s).link i).present = true)
    (hc : ((frameWalked o s).link i).countdown = some 1) {a : PendingAnswer} (ha : s.store.answer = some a)
    (hl : a.link = some i) : (frameEventWhole o s).store.answer = some { a with link := none } := by
  rw [frameEventWhole_links]
  exact linksFrame_answer hp hc ((frameWalked_store o s).symm ▸ ha) hl

theorem reached30_iff (a now : Frame) :
    reached30 a now = true ↔ 1073741824 ≤ (now - a).toNat ∧ (now - a).toNat < 2147483648 := decide_eq_true_iff

theorem followerExpire_eq (now : Frame) (f : Follower) : followerExpire now f = match f.lastStamp with
    | some a => if 1073741824 ≤ (now - a).toNat ∧ (now - a).toNat < 2147483648 then ⟨0, none, [], none, none⟩ else f
    | none => f := by
  unfold followerExpire
  cases f.lastStamp with
  | none => rfl
  | some a =>
    exact if_congr (reached30_iff a now) rfl rfl

theorem edgeExpire_eq (now : Frame) (m : MarkInput) : edgeExpire now m = match m.lastEdge with
    | some a => if 1073741824 ≤ (now - a).toNat ∧ (now - a).toNat < 2147483648 then { m with lastEdge := none } else m
    | none => m := by
  unfold edgeExpire
  cases m.lastEdge with
  | none => rfl
  | some a =>
    exact if_congr (reached30_iff a now) rfl rfl

/-! ### A link at the end of a frame event -/

theorem inFrame_iff (r : Receiver) : inFrame r = true ↔ r ≠ .hunt := by cases r <;> simp [inFrame]

theorem gapTest_eq (now : Frame) (k : Link) : gapTest now k =
    if k.receiver ≠ .hunt ∧ 96 ≤ (now - k.lastByte).toNat then
      { k with receiver := .hunt, gap := if k.gap < 255 then k.gap + 1 else 255 }
    else k := by
  unfold gapTest
  simp only [inFrame_iff]
  rfl

theorem linkFrameEnd_departs {now : Frame} {k : Link} (hp : k.present = true) (hc : k.countdown = some 1) :
    linkFrameEnd now k = departed (gapTest now k) :=
  if_pos (by simp [lastFrameOfWindow, hp, hc])

theorem countDown_eq (k : Link) : countDown k = { k with countdown := match k.countdown with
    | some n => if k.present = true ∧ 1 < n then some (n - 1) else some n
    | none => none } := by
  obtain ⟨_, _, _, pr, _, c, _, _, _, _, _, _, _, _, _, _⟩ := k
  cases c with
  | none => rfl
  | some n =>
    unfold countDown
    dsimp only
    split <;> rfl

theorem linkFrameEnd_stays {now : Frame} {k : Link} (h : ¬ (k.present = true ∧ k.countdown = some 1)) :
    linkFrameEnd now k = { gapTest now k with countdown := match k.countdown with
      | some n => if k.present = true ∧ 1 < n then some (n - 1) else some n
      | none => none } := by
  have hn : lastFrameOfWindow (gapTest now k) ≠ true := by simpa [lastFrameOfWindow] using h
  refine (if_neg hn).trans ?_
  rw [countDown_eq, gapTest_countdown, ← gapTest_present now k]

/-- The line's side of a link after a frame event: the gap test alone touches it (R180). -/
theorem linkFrameEnd_line (now : Frame) (k : Link) :
    (linkFrameEnd now k).receiver = (gapTest now k).receiver ∧ (linkFrameEnd now k).gap = (gapTest now k).gap ∧
      (linkFrameEnd now k).lastByte = k.lastByte ∧ (linkFrameEnd now k).heldAtSpace = k.heldAtSpace ∧
      (linkFrameEnd now k).rxQueue = k.rxQueue ∧ (linkFrameEnd now k).framing = k.framing ∧
      (linkFrameEnd now k).crc = k.crc ∧ (linkFrameEnd now k).overrun = k.overrun := by
  have hgap : (gapTest now k).lastByte = k.lastByte ∧ (gapTest now k).heldAtSpace = k.heldAtSpace ∧
      (gapTest now k).rxQueue = k.rxQueue ∧ (gapTest now k).framing = k.framing ∧ (gapTest now k).crc = k.crc ∧
      (gapTest now k).overrun = k.overrun := by
    unfold gapTest
    split <;> exact ⟨rfl, rfl, rfl, rfl, rfl, rfl⟩
  by_cases h : k.present = true ∧ k.countdown = some 1
  · rw [linkFrameEnd_departs h.1 h.2]
    exact ⟨rfl, rfl, hgap⟩
  · rw [linkFrameEnd_stays h]
    exact ⟨rfl, rfl, hgap⟩

theorem gapTest_keeps (now : Frame) (k : Link) : (gapTest now k).present = k.present ∧
    (gapTest now k).windowMs = k.windowMs ∧ (gapTest now k).answerLost = k.answerLost ∧
    (gapTest now k).lapseReported = k.lapseReported ∧ (gapTest now k).emptyReported = k.emptyReported ∧
    (gapTest now k).txQueue = k.txQueue := by
  unfold gapTest
  split <;> exact ⟨rfl, rfl, rfl, rfl, rfl, rfl⟩

/-! ### A frame event within a beat -/

/-- Within a beat, and in UNSET, the Grid Engine's part moves the position alone (R6). -/
theorem gridFrame_within_keeps {b : Bool} {s : State}
    (h : s.grid.state = .unset ∨ s.grid.pos.frac.toNat + s.grid.appliedInc < 4294967296) :
    (gridFrame b s).lead = s.lead ∧ (gridFrame b s).tc = s.tc ∧ (gridFrame b s).pins = s.pins ∧
      (gridFrame b s).links = s.links := by
  by_cases hs : s.grid.state = .unset
  · rw [gridFrame_unset hs]
    exact ⟨rfl, rfl, rfl, rfl⟩
  · rw [gridFrame_within hs (h.resolve_left hs)]
    exact ⟨rfl, rfl, rfl, rfl⟩

section
variable {s : State} {o : FrameOrder}
  (h : s.grid.state = .unset ∨ s.grid.pos.frac.toNat + s.grid.appliedInc < 4294967296)
include h

theorem posted_within (i : Station) : Posted (s.link i) ((frameWalked o s).link i) := by
  have hk : (gridFrame o.transportFirst (frameBegun o s)).link i = s.link i := by
    obtain ⟨-, -, -, hlinks⟩ := gridFrame_within_keeps (b := o.transportFirst) (s := frameBegun o s) h
    simp only [State.link, hlinks, frameBegun_keeps]
  exact hk ▸ posted_frameWalked o s i

theorem frameEventWhole_within_pin {p : PinId} (hf : FreePin p s) :
    (frameEventWhole o s).pin p = pinTimed (s.fru.count + 1) (s.pin p) := by
  have hk : (gridFrame o.transportFirst (frameBegun o s)).pin p = (frameBegun o s).pin p := by
    obtain ⟨-, -, hpins, -⟩ := gridFrame_within_keeps (b := o.transportFirst) (s := frameBegun o s) h
    simp only [State.pin, hpins]
  rw [hf.frameEventWhole, hk, frameBegun_pin, pinEnded_pinBegun]

end

/-- Settles O12: the Grid Engine moves the position alone, and every other block has its own part of the frame event. -/
theorem frameEventAdvancesTheGrid : Obligations.FrameEventAdvancesTheGrid := by
  intro s o hp hsw hin now past
  have hcount : ({ s with fru := frameFru s.fru } : State).fru.count = s.fru.count := (frameFru_keeps s.fru).1
  generalize hu : ({ s with fru := frameFru s.fru } : State) = u at hcount
  have hgrid : u.grid = s.grid := by rw [← hu]
  have hin' : u.grid.state = .unset ∨ u.grid.pos.frac.toNat + u.grid.appliedInc < 4294967296 := by rw [hgrid]; exact hin
  have hnow : u.fru.count + 1 = now := by rw [hcount]
  have hlink : ∀ i, u.link i = s.link i := fun i => by rw [← hu]; rfl
  obtain ⟨hlead, htc, -, -⟩ := gridFrame_within_keeps (b := o.transportFirst) (s := frameBegun o u) hin'
  obtain ⟨hsaving, hstored, hvalid⟩ := frameEventWhole_store_keeps o u
  refine ⟨frameEventWhole o u, hu ▸ exec_frameEvent hp hsw o, ?_, fun hs => ?_, fun hs => ?_, ?_, ?_, ?_, ?_, ?_,
    fun i => ?_, fun i => ?_, fun hl p hfree => ?_, fun i => ?_, ?_, ?_, ?_⟩
  · rw [(frameEventWhole_keeps o u).2.2.1, ← hu]
    show { frameFru s.fru with count := (frameFru s.fru).count + 1 } = _
    unfold frameFru
    split <;> rfl
  · have hs' : (frameBegun o u).grid.state = .unset := by simpa [hgrid] using hs
    simp [gridFrame_unset hs', hgrid]
  · have hs' : (frameBegun o u).grid.state ≠ .unset := by simpa [hgrid] using hs
    have hlt := hin.resolve_left hs
    have hlt' : (frameBegun o u).grid.pos.frac.toNat + (frameBegun o u).grid.appliedInc < 4294967296 := by
      simpa [hgrid] using hlt
    simp only [frameEventWhole_keeps, gridFrame_within hs' hlt', frameBegun_keeps, hgrid, Pos.add_within hlt]
  · simp only [frameEventWhole_keeps, hlead, frameBegun_keeps]
    rw [← hu]
  · simp only [frameEventWhole_keeps, htc, frameBegun_keeps]
    rw [← hu]
  · simp only [frameEventWhole_keeps]
    rw [← hu]
  · simp only [frameEventWhole_keeps]
    rw [← hu]
  · simp only [frameEventWhole_keeps]
    rw [← hu]
  · rw [frameEventWhole_follower, hnow, followerExpire_eq, ← hu]
    rfl
  · rw [frameEventWhole_input, hnow, edgeExpire_eq, ← hu]
    rfl
  · have hf : FreePin p u := by rw [← hu]; exact ⟨hl, hfree⟩
    rw [frameEventWhole_within_pin hin' hf, hnow, ← hu]
    rfl
  · have hpost := posted_within (o := o) hin' i
    have hend := frameEventWhole_link o u i
    rw [hlink] at hpost
    rw [hnow] at hend
    have hanswer := @frameEventWhole_answer o u i
    generalize (frameWalked o u).link i = k at hpost hend hanswer
    have hsame := hpost.keeps
    obtain ⟨hreceiver, hgap, hlast, hspace, hrx, hframing, hcrc, hoverrun⟩ := linkFrameEnd_line now k
    rw [← hend, gapTest_eq] at hreceiver hgap
    rw [← hend] at hlast hspace hrx hframing hcrc hoverrun
    rw [hsame] at hreceiver hgap hlast hspace hrx hframing hcrc hoverrun
    refine ⟨?_, ?_, hlast, hspace, hrx, hframing, hcrc, hoverrun, ?_⟩
    · rw [hreceiver]
      split <;> rfl
    · rw [hgap]
      split <;> rfl
    have hpres : k.present = (s.link i).present := by rw [hsame]
    have hdown : k.countdown = (s.link i).countdown := by rw [hsame]
    obtain ⟨hgpres, hgwindow, hglost, hglapse, hgempty, -⟩ := gapTest_keeps now k
    split
    · next hd =>
      obtain ⟨hp1, hc1⟩ := hd
      rw [hend, linkFrameEnd_departs (hpres.trans hp1) (hdown.trans hc1)]
      refine ⟨rfl, rfl, rfl, rfl, rfl, rfl, rfl, rfl, fun a ha hl => ?_⟩
      exact hanswer (hpres.trans hp1) (hdown.trans hc1) (by rw [← hu]; exact ha) hl
    · next hd =>
      rw [← hpres, ← hdown] at hd
      rw [hend, linkFrameEnd_stays hd]
      refine ⟨hgpres.trans hpres, hgwindow.trans ?_, hglost.trans ?_, hglapse.trans ?_, hgempty.trans ?_, ?_⟩
      · rw [hsame]
      · rw [hsame]
      · rw [hsame]
      · rw [hsame]
      · rewrite [← hpres, ← hdown]
        rfl
  · rw [hsaving, ← hu]
  · rw [hstored, ← hu]
  · rw [hvalid, ← hu]

end Sys2Proof.Machine
end

section
/-! PROOF. A beat crossing: its numbering, glide, handover, trim and increments (R11 to R20; O13). -/

namespace Sys2Proof.Machine

/-! ### The grid in the new beat -/

/-- The grid in the beat it has crossed into, numbered (R4, R12). -/
def crossedGrid (g : Grid) : Grid := numberBeat { g with pos := g.pos.add g.appliedInc, before := none }

theorem crossedGrid_bar {g : Grid} (h : g.beatInBar + 1 = g.meter) : crossedGrid g = { g with
    pos := g.pos.add g.appliedInc, before := none, meter := g.pendingMeter.getD g.meter, pendingMeter := none
    barStart := (g.pos.add g.appliedInc).beat, beatInBar := 0, barCount := g.barCount + 1, crossing := .bar } :=
  if_pos (decide_eq_true h)

theorem crossedGrid_beat {g : Grid} (h : g.beatInBar + 1 ≠ g.meter) : crossedGrid g = { g with
    pos := g.pos.add g.appliedInc, before := none, beatInBar := g.beatInBar + 1, crossing := .beat } :=
  if_neg (by simpa [crossesBar] using h)

@[simp] theorem crossedGrid_keeps (g : Grid) : (crossedGrid g).state = g.state ∧
    (crossedGrid g).pos = g.pos.add g.appliedInc ∧ (crossedGrid g).glide = g.glide ∧
    (crossedGrid g).base = g.base ∧ (crossedGrid g).baseInc = g.baseInc ∧ (crossedGrid g).trim = g.trim := by
  simp [crossedGrid]

theorem crossedGrid_crossing (g : Grid) :
    (crossedGrid g).crossing = if g.beatInBar + 1 = g.meter then .bar else .beat := by
  by_cases h : g.beatInBar + 1 = g.meter
  · rw [crossedGrid_bar h, if_pos h]
  · rw [crossedGrid_beat h, if_neg h]

/-- What the numbering leaves at a bar crossing, and at any other (R4, R12). -/
theorem crossedGrid_numbered (g : Grid) : if g.beatInBar + 1 = g.meter then
      (crossedGrid g).crossing = .bar ∧ (crossedGrid g).meter = g.pendingMeter.getD g.meter ∧
        (crossedGrid g).pendingMeter = none ∧ (crossedGrid g).barStart = (g.pos.add g.appliedInc).beat ∧
        (crossedGrid g).beatInBar = 0 ∧ (crossedGrid g).barCount = g.barCount + 1
    else
      (crossedGrid g).crossing = .beat ∧ (crossedGrid g).meter = g.meter ∧
        (crossedGrid g).pendingMeter = g.pendingMeter ∧ (crossedGrid g).barStart = g.barStart ∧
        (crossedGrid g).beatInBar = g.beatInBar + 1 ∧ (crossedGrid g).barCount = g.barCount := by
  split
  · next h => rw [crossedGrid_bar h]; exact ⟨rfl, rfl, rfl, rfl, rfl, rfl⟩
  · next h => rw [crossedGrid_beat h]; exact ⟨rfl, rfl, rfl, rfl, rfl, rfl⟩

/-! ### The stages of a crossing (R11) -/

/-- The grid after its glide step, before a handover (R15). -/
def steppedGrid (g : Grid) : Grid := glideStep (crossedGrid g)

theorem steppedGrid_still {g : Grid} (h : g.glide = none) : steppedGrid g = crossedGrid g := by
  simp [steppedGrid, glideStep, h]

theorem steppedGrid_gliding {g : Grid} {x : Glide} (h : g.glide = some x) : steppedGrid g =
    if x.length ≤ x.steps + 1 then setBase x.target { crossedGrid g with glide := none }
    else setBase (glideTempo x (x.steps + 1)) { crossedGrid g with glide := some { x with steps := x.steps + 1 } } := by
  simp [steppedGrid, glideStep, h]

theorem steppedGrid_glide (g : Grid) : match g.glide with
    | none => (steppedGrid g).glide = none ∧ (steppedGrid g).base = g.base
    | some x =>
      if x.length ≤ x.steps + 1 then (steppedGrid g).glide = none ∧ (steppedGrid g).base = x.target
      else (steppedGrid g).glide = some { x with steps := x.steps + 1 } ∧
        (steppedGrid g).base = ((x.start : Int) +
          roundInt (((x.target : Int) - x.start) * ((x.steps + 1 : Nat) : Int)) x.length).toNat := by
  cases h : g.glide with
  | none =>
    rw [steppedGrid_still h]
    simp [h]
  | some x =>
    dsimp only
    rw [steppedGrid_gliding h]
    split
    · exact ⟨rfl, rfl⟩
    · exact ⟨rfl, rfl⟩

theorem steppedGrid_baseInc (g : Grid) :
    (steppedGrid g).baseInc = if g.glide = none then g.baseInc else baseIncrement (steppedGrid g).base := by
  cases h : g.glide with
  | none => simp [steppedGrid_still h]
  | some x =>
    have hsome : ¬ (some x = none) := by simp
    rw [if_neg hsome, steppedGrid_gliding h]
    split <;> rfl

theorem crossingStages_grid (s : State) : (crossingStages s).grid =
    recompute { (handoverAtCrossing { s with grid := glideStep s.grid }).grid with
      trim := trimAdvanced (handoverAtCrossing { s with grid := glideStep s.grid }).grid.trim } := rfl

theorem crossingStages_lead (s : State) :
    (crossingStages s).lead = (handoverAtCrossing { s with grid := glideStep s.grid }).lead := rfl

theorem trimAdvanced_eq (t : Trim) : trimAdvanced t = match t with
    | .none => .none
    | .armed a => .applied a
    | .applied _ => .none
    | .appliedArmed _ a => .applied a := by
  cases t <;> rfl

/-! ### The frame event that crosses a beat -/

section
variable {s : State} {o : FrameOrder} (hs : s.grid.state ≠ .unset)
  (h : 4294967296 ≤ s.grid.pos.frac.toNat + s.grid.appliedInc)
include hs h

theorem gridFrame_begun_across : gridFrame o.transportFirst (frameBegun o s) =
    beatCrossing o.transportFirst { frameBegun o s with grid := { s.grid with
      pos := s.grid.pos.add s.grid.appliedInc, before := none } } := by
  have hb : (frameBegun o s).grid = s.grid := by simp
  have e := gridFrame_across (b := o.transportFirst) (s := frameBegun o s) (hb.symm ▸ hs) (hb.symm ▸ h)
  rwa [hb] at e

theorem frameEventWhole_grid_across : (frameEventWhole o s).grid =
    (crossingStages { frameBegun o s with grid := crossedGrid s.grid }).grid := by
  rw [(frameEventWhole_keeps o s).2.2.2.2.2.2.2.1, gridFrame_begun_across hs h]
  simp only [beatCrossing_keeps]
  rfl

theorem frameEventWhole_lead_across : (frameEventWhole o s).lead =
    (crossingStages { frameBegun o s with grid := crossedGrid s.grid }).lead := by
  rw [(frameEventWhole_keeps o s).2.2.2.2.2.2.2.2.1, gridFrame_begun_across hs h]
  simp only [beatCrossing_keeps]
  rfl

theorem frameEventWhole_tc_across : (frameEventWhole o s).tc = (beatCrossing o.transportFirst { frameBegun o s with
    grid := { s.grid with pos := s.grid.pos.add s.grid.appliedInc, before := none } }).tc := by
  rw [(frameEventWhole_keeps o s).2.2.2.2.2.2.2.2.2, gridFrame_begun_across hs h]

end

/-- The song bar count at a crossing (R100). -/
def songAfter (g : Grid) (x : Transport) : BitVec 32 :=
  if g.beatInBar + 1 = g.meter ∧ (x.state = .playing ∨ x.state = .stopping) then x.songBar + 1 else x.songBar

theorem countSongBar_crossed {v : State} {g : Grid} (hc : v.grid.crossing = (crossedGrid g).crossing) :
    countSongBar v = { v with tc := { v.tc with songBar := songAfter g v.tc } } := by
  have hbar : v.grid.crossing = .bar ↔ g.beatInBar + 1 = g.meter := by
    rw [hc, crossedGrid_crossing]
    split <;> simp_all
  unfold countSongBar songAfter
  by_cases hx : g.beatInBar + 1 = g.meter ∧ (v.tc.state = .playing ∨ v.tc.state = .stopping)
  · have hv : v.grid.crossing = .bar ∧ (v.tc.state = .playing ∨ v.tc.state = .stopping) := ⟨hbar.2 hx.1, hx.2⟩
    rw [if_pos hv, if_pos hx]
  · have hv : ¬ (v.grid.crossing = .bar ∧ (v.tc.state = .playing ∨ v.tc.state = .stopping)) :=
      fun e => hx ⟨hbar.1 e.1, e.2⟩
    rw [if_neg hv, if_neg hx]

/-- The crossing is the boundary beat of the pending transport, if there is one (R97). -/
def changesTransport (g : Grid) (x : Transport) : Prop := ∃ p, x.pending = some p ∧ p.boundary = g.pos.beat + 1

/-- The transport after a crossing (R97, R100). -/
def tcCrossed (g : Grid) (x : Transport) : Transport :=
  match x.pending with
  | none => { x with songBar := songAfter g x }
  | some p =>
    if p.boundary = g.pos.beat + 1 then transportAfter p.kind (songAfter g x) else { x with songBar := songAfter g x }

theorem tcCrossed_changed {g : Grid} {x : Transport} {p : PendingTransport} (hp : x.pending = some p)
    (hb : p.boundary = g.pos.beat + 1) : tcCrossed g x = transportAfter p.kind (songAfter g x) := by
  simp [tcCrossed, hp, hb]

theorem tcCrossed_kept {g : Grid} {x : Transport} (h : ¬ changesTransport g x) :
    tcCrossed g x = { x with songBar := songAfter g x } := by
  unfold tcCrossed
  cases hp : x.pending with
  | none => rfl
  | some p =>
    have hb : p.boundary ≠ g.pos.beat + 1 := fun hb => h ⟨p, hp, hb⟩
    exact if_neg hb

/-- The Transport Controller's part of a crossing that is no boundary beat counts the song bar alone (R100). -/
theorem tcCrossing_kept {v : State} {g : Grid} (hc : v.grid.crossing = (crossedGrid g).crossing)
    (hb : v.grid.pos.beat = g.pos.beat + 1) (h : ¬ changesTransport g v.tc) :
    tcCrossing v = { v with tc := tcCrossed g v.tc } := by
  unfold tcCrossing
  rw [countSongBar_crossed hc, tcCrossed_kept h]
  obtain hp | ⟨p, hp⟩ := Option.eq_none_or_eq_some v.tc.pending
  · exact transportReached_none (s := { v with tc := { v.tc with songBar := songAfter g v.tc } }) hp
  · exact transportReached_waits (s := { v with tc := { v.tc with songBar := songAfter g v.tc } }) hp
      fun e => h ⟨p, hp, e.symm.trans hb⟩

/-- At a boundary beat the transport changes, with its indicator and its notice (R97). -/
theorem tcCrossing_changed {v : State} {g : Grid} (hc : v.grid.crossing = (crossedGrid g).crossing)
    (hb : v.grid.pos.beat = g.pos.beat + 1) (h : changesTransport g v.tc) :
    tcCrossing v = raiseHouse .transport (showSource .playing { v with tc := tcCrossed g v.tc }) := by
  obtain ⟨p, hp, hboundary⟩ := h
  unfold tcCrossing
  rw [countSongBar_crossed hc, tcCrossed_changed hp hboundary]
  exact transportReached_met hp (hb.trans hboundary.symm)

theorem tcCrossing_tc {v : State} {g : Grid} (hc : v.grid.crossing = (crossedGrid g).crossing)
    (hb : v.grid.pos.beat = g.pos.beat + 1) : (tcCrossing v).tc = tcCrossed g v.tc := by
  by_cases h : changesTransport g v.tc
  · rw [tcCrossing_changed hc hb h]
    simp
  · rw [tcCrossing_kept hc hb h]

/-- The new beat, with stages 2 to 5 of its crossing done (R11). -/
def stagesDone (g : Grid) (v : State) : State := crossingStages { v with grid := crossedGrid g }

theorem stagesDone_crossing (g : Grid) (v : State) : (stagesDone g v).grid.crossing = (crossedGrid g).crossing := by
  simp [stagesDone]

theorem stagesDone_beat {g : Grid} (h : 4294967296 ≤ g.pos.frac.toNat + g.appliedInc) (hn : g.appliedInc < 4294967296)
    (v : State) : (stagesDone g v).grid.pos.beat = g.pos.beat + 1 := by
  simp [stagesDone, Pos.add_beat_next h hn]

theorem changesMeter_pos (g : Grid) (p : Pos) : changesMeter { g with pos := p, before := none } = changesMeter g := rfl

/-- A crossing after its stages: the METER notice and the report to the Transport Controller, in either order, then the
indicators (R12, R13, R201). -/
theorem beatCrossing_eq (b : Bool) (g : Grid) (v : State) :
    beatCrossing b { v with grid := { g with pos := g.pos.add g.appliedInc, before := none } } =
      pdCrossing (if changesMeter g = true then
        if b = true then raiseHouse .meter (tcCrossing (stagesDone g v)) else tcCrossing (raiseHouse .meter (stagesDone g v))
      else tcCrossing (stagesDone g v)) := by
  unfold beatCrossing
  dsimp only
  rw [changesMeter_pos]
  rfl

theorem beatCrossing_tc {g : Grid} (h : 4294967296 ≤ g.pos.frac.toNat + g.appliedInc) (hn : g.appliedInc < 4294967296)
    (b : Bool) (v : State) : (beatCrossing b { v with
      grid := { g with pos := g.pos.add g.appliedInc, before := none } }).tc = tcCrossed g v.tc := by
  have hplain : (tcCrossing (stagesDone g v)).tc = tcCrossed g v.tc := by
    rw [tcCrossing_tc (stagesDone_crossing g v) (stagesDone_beat h hn v)]
    simp [stagesDone]
  have htold : (tcCrossing (raiseHouse .meter (stagesDone g v))).tc = tcCrossed g v.tc := by
    rw [tcCrossing_tc (v := raiseHouse .meter (stagesDone g v)) (stagesDone_crossing g v) (stagesDone_beat h hn v)]
    simp [stagesDone]
  rw [beatCrossing_eq, (pdCrossing_keeps _).2.2.2.2.2.2.2.1]
  split
  · split
    exacts [hplain, htold]
  · exact hplain

/-- Settles O13: with nothing waiting, a crossing numbers the beat, steps the glide and advances the trim. -/
theorem beatCrossingInStages : Obligations.BeatCrossingInStages := by
  intro s o hp hsw hs hh hpend hinc hacross
  generalize hu : ({ s with fru := frameFru s.fru } : State) = u
  have hg : u.grid = s.grid := by rw [← hu]
  have hlead : u.lead = s.lead := by rw [← hu]
  have htc : u.tc = s.tc := by rw [← hu]
  have hs' : u.grid.state ≠ .unset := hg ▸ hs
  have ha' : 4294967296 ≤ u.grid.pos.frac.toNat + u.grid.appliedInc := hg ▸ hacross
  have hpos := Pos.add_across hacross hinc
  generalize hv : ({ frameBegun o u with grid := crossedGrid u.grid } : State) = v
  have hvlead : v.lead = s.lead := by rw [← hv, ← hlead]; rfl
  have hvgrid : v.grid = crossedGrid s.grid := by rw [← hv, hg]
  have hnone : handoverAtCrossing { v with grid := glideStep v.grid } = { v with grid := glideStep v.grid } :=
    handoverAtCrossing_none (by rw [hvlead, hh])
  have hgrid : (frameEventWhole o u).grid = recompute { steppedGrid s.grid with trim := trimAdvanced s.grid.trim } := by
    rw [frameEventWhole_grid_across hs' ha', hv, crossingStages_grid, hnone, hvgrid]
    have htrim : (steppedGrid s.grid).trim = s.grid.trim := by simp [steppedGrid]
    rw [← htrim]
    rfl
  have hnum := crossedGrid_numbered s.grid
  have hglide := steppedGrid_glide s.grid
  have hbaseInc := steppedGrid_baseInc s.grid
  refine ⟨frameEventWhole o u, hu ▸ exec_frameEvent hp hsw o, ?_, ?_, ?_, ?_, ?_, ?_, ?_, ?_⟩
  · rw [hgrid]
    simp [recompute, steppedGrid, hpos]
  · rw [hgrid]
    rw [hpos] at hnum
    simp only [recompute, steppedGrid, glideStep_keeps]
    exact hnum
  · rw [hgrid]
    exact hglide
  · rw [hgrid]
    exact trimAdvanced_eq _
  · rw [hgrid]
    exact hbaseInc
  · rw [hgrid]
    rfl
  · have hsong : tcCrossed s.grid s.tc = { s.tc with songBar := songAfter s.grid s.tc } := by simp [tcCrossed, hpend]
    have hbegun : (frameBegun o u).tc = s.tc := (frameBegun_keeps o u).2.2.2.2.2.1.trans htc
    rw [frameEventWhole_tc_across hs' ha', hg, beatCrossing_tc hacross hinc, hbegun, hsong]
    rfl
  · rw [frameEventWhole_lead_across hs' ha', hv, crossingStages_lead, hnone, ← hvlead]

end Sys2Proof.Machine
end

section
/-! PROOF. A beat crossing, whatever waits for it: the handover, the transport, the notices and the indicators (R13, R18,
R82, R97, R161, R201; O14). -/

namespace Sys2Proof.Machine

/-! ### The handover at a crossing (R18, R82) -/

theorem handedOver_keeps (t : Terms) (est : Option Nat) (g : Grid) : (handedOver t est g).trim = g.trim ∧
    (g.baseInc = baseIncrement g.base → (handedOver t est g).baseInc = baseIncrement (handedOver t est g).base) := by
  have htempo : ∀ v m, (tempoChange v m g).trim = g.trim ∧
      (g.baseInc = baseIncrement g.base → (tempoChange v m g).baseInc = baseIncrement (tempoChange v m g).base) := by
    intro v m
    rw [tempoChange_eq]
    split
    · exact ⟨rfl, fun _ => rfl⟩
    · exact ⟨rfl, id⟩
  rw [handedOver_tempoChange]
  split
  · exact htempo _ _
  · exact ⟨rfl, id⟩

/-- The crossing is the align boundary of the handover. -/
theorem crossedGrid_meets (g : Grid) (a : Align) :
    (crossedGrid g).crossing = .bar ∨ (crossedGrid g).crossing = .beat ∧ a ≠ .bar ↔
      g.beatInBar + 1 = g.meter ∨ a ≠ .bar := by
  rw [crossedGrid_crossing]
  split <;> simp_all

/-- The grid that stage 5 leaves, from the grid after stage 3 (R11, R20). -/
def trimmedGrid (t : Trim) (g : Grid) : Grid := recompute { g with trim := trimAdvanced t }

theorem stagesDone_served {g : Grid} {v u : State} (hu : handoverAtCrossing { v with grid := steppedGrid g } = u)
    (ht : u.grid.trim = g.trim) :
    (stagesDone g v).grid = trimmedGrid g.trim u.grid ∧ (stagesDone g v).lead = u.lead := by
  subst hu
  rw [← ht]
  exact ⟨rfl, rfl⟩

/-- Stages 2 to 5 with no handover, or with one that waits on. -/
theorem stagesDone_waits {g : Grid} {v : State}
    (h : ∀ w, v.lead.handover = some w → ¬ (g.beatInBar + 1 = g.meter ∨ w.align ≠ .bar)) :
    (stagesDone g v).grid = trimmedGrid g.trim (steppedGrid g) ∧ (stagesDone g v).lead = v.lead := by
  have htrim : (steppedGrid g).trim = g.trim := by simp [steppedGrid]
  have hcross : (steppedGrid g).crossing = (crossedGrid g).crossing := by simp [steppedGrid]
  refine stagesDone_served (u := { v with grid := steppedGrid g }) ?_ htrim
  obtain hw | ⟨w, hw⟩ := Option.eq_none_or_eq_some v.lead.handover
  · exact handoverAtCrossing_none (s := { v with grid := steppedGrid g }) hw
  · refine handoverAtCrossing_waits (s := { v with grid := steppedGrid g }) hw ?_
    show ¬ ((steppedGrid g).crossing = .bar ∨ (steppedGrid g).crossing = .beat ∧ w.align ≠ .bar)
    rw [hcross, crossedGrid_meets]
    exact h w hw

/-- Stages 2 to 5 with a handover whose align boundary the crossing is. -/
theorem stagesDone_met {g : Grid} {v : State} {w : Handover} (hw : v.lead.handover = some w)
    (h : g.beatInBar + 1 = g.meter ∨ w.align ≠ .bar) :
    (stagesDone g v).grid =
        trimmedGrid g.trim (handedOver w.terms (v.follower w.station).estimate (steppedGrid g)) ∧
      (stagesDone g v).lead = { v.lead with handover := none } := by
  have htrim : (steppedGrid g).trim = g.trim := by simp [steppedGrid]
  have hcross : (steppedGrid g).crossing = (crossedGrid g).crossing := by simp [steppedGrid]
  refine stagesDone_served (u := { v with
    lead := { v.lead with handover := none }
    grid := handedOver w.terms (v.follower w.station).estimate (steppedGrid g) }) ?_
    ((handedOver_keeps w.terms _ _).1.trans htrim)
  refine handoverAtCrossing_met (s := { v with grid := steppedGrid g }) hw ?_
  show (steppedGrid g).crossing = .bar ∨ (steppedGrid g).crossing = .beat ∧ w.align ≠ .bar
  rw [hcross, crossedGrid_meets]
  exact h

theorem steppedGrid_baseInc_agrees {g : Grid} (h : g.baseInc = baseIncrement g.base) :
    (steppedGrid g).baseInc = baseIncrement (steppedGrid g).base := by
  rw [steppedGrid_baseInc]
  split
  · next hg => rw [steppedGrid_still hg]; simpa using h
  · rfl

theorem stagesDone_baseInc {g : Grid} {v : State} (h : g.baseInc = baseIncrement g.base) :
    (stagesDone g v).grid.baseInc = baseIncrement (stagesDone g v).grid.base := by
  by_cases hm : ∃ w, v.lead.handover = some w ∧ (g.beatInBar + 1 = g.meter ∨ w.align ≠ .bar)
  · obtain ⟨w, hw, hmet⟩ := hm
    rw [(stagesDone_met hw hmet).1]
    exact (handedOver_keeps w.terms _ _).2 (steppedGrid_baseInc_agrees h)
  · rw [(stagesDone_waits fun w hw e => hm ⟨w, hw, e⟩).1]
    exact steppedGrid_baseInc_agrees h

/-! ### The notices and the transport of a crossing (R12, R13, R201) -/

/-- A crossing after its stages, before the indicators: the METER notice and the Transport Controller, in either order. -/
def crossingTold (b : Bool) (g : Grid) (v : State) : State :=
  if changesMeter g = true then
    if b = true then raiseHouse .meter (tcCrossing (stagesDone g v)) else tcCrossing (raiseHouse .meter (stagesDone g v))
  else tcCrossing (stagesDone g v)

theorem changesMeter_iff (g : Grid) :
    changesMeter g = true ↔ g.beatInBar + 1 = g.meter ∧ ∃ m, g.pendingMeter = some m ∧ m ≠ g.meter := by
  unfold changesMeter crossesBar
  cases g.pendingMeter <;> simp

section
variable {g : Grid} (h : 4294967296 ≤ g.pos.frac.toNat + g.appliedInc) (hn : g.appliedInc < 4294967296)
include h hn

theorem told_kept {u v : State} (hg : u.grid = (stagesDone g v).grid) (hx : ¬ changesTransport g u.tc) :
    tcCrossing u = { u with tc := tcCrossed g u.tc } :=
  tcCrossing_kept (hg ▸ stagesDone_crossing g v) (hg ▸ stagesDone_beat h hn v) hx

theorem told_changed {u v : State} (hg : u.grid = (stagesDone g v).grid) (hx : changesTransport g u.tc) :
    tcCrossing u = raiseHouse .transport (showSource .playing { u with tc := tcCrossed g u.tc }) :=
  tcCrossing_changed (hg ▸ stagesDone_crossing g v) (hg ▸ stagesDone_beat h hn v) hx

theorem tcCrossing_pin {u v : State} (hg : u.grid = (stagesDone g v).grid) (p : PinId) :
    (¬ changesTransport g u.tc → (tcCrossing u).pin p = u.pin p) ∧
    (changesTransport g u.tc → (tcCrossing u).pin p =
      if (u.pin p).function = .indicator ∧ (u.pin p).source = some .playing then { u.pin p with
        level := decide ((tcCrossed g u.tc).state = .playing ∨ (tcCrossed g u.tc).state = .stopping) }
      else u.pin p) := by
  refine ⟨fun hx => ?_, fun hx => ?_⟩
  · rw [told_kept h hn hg hx]
    rfl
  · rw [told_changed h hn hg hx, raiseHouse_pin, showSource_pin]
    rfl

/-- The pins after a crossing's notices: the PLAYING indicators show a changed transport (R97, R161). -/
theorem crossingTold_pin (b : Bool) (v : State) (p : PinId) :
    (¬ changesTransport g v.tc → (crossingTold b g v).pin p = v.pin p) ∧
    (changesTransport g v.tc → (crossingTold b g v).pin p =
      if (v.pin p).function = .indicator ∧ (v.pin p).source = some .playing then { v.pin p with
        level := decide ((tcCrossed g v.tc).state = .playing ∨ (tcCrossed g v.tc).state = .stopping) }
      else v.pin p) := by
  have hpin : (stagesDone g v).pin p = v.pin p := by simp [stagesDone, State.pin]
  have htc : (stagesDone g v).tc = v.tc := by simp [stagesDone]
  have hplain := tcCrossing_pin h hn (u := stagesDone g v) rfl p
  have htold := tcCrossing_pin h hn (u := raiseHouse .meter (stagesDone g v)) (v := v) rfl p
  rw [hpin, htc] at hplain
  rw [raiseHouse_pin, raiseHouse_tc, hpin, htc] at htold
  unfold crossingTold
  split
  · split
    · rw [raiseHouse_pin]; exact hplain
    · exact htold
  · exact hplain

end

/-- The indicators after a crossing: BEAT pins pulse, and BAR pins at a bar crossing (R13, R161). -/
theorem pdCrossing_pin (s : State) (p : PinId) : (pdCrossing s).pin p =
    if (s.pin p).function = .indicator ∧
        ((s.pin p).source = some .beat ∨ (s.pin p).source = some .bar ∧ s.grid.crossing = .bar) then
      activate s.fru.count 2400 (s.pin p)
    else s.pin p := by
  have hpulse : (pdCrossing s).pin p = if s.grid.crossing = .bar then (pulseSource .bar (pulseSource .beat s)).pin p
      else (pulseSource .beat s).pin p := by
    unfold pdCrossing
    dsimp only
    split <;> rfl
  rw [hpulse, pulseSource_pin .bar, pulseSource_pin .beat]
  by_cases hf : (s.pin p).function = .indicator
  · by_cases hb : (s.pin p).source = some .beat
    · simp [hf, hb, activate, Config.indicatorFrames]
    · by_cases hc : s.grid.crossing = .bar
      · simp [hf, hb, hc, Config.indicatorFrames]
      · simp [hb, hc]
  · simp [hf]

/-! ### The timers of a frame event around a crossing (R155) -/

theorem activeUntilExpire_keeps (now : Frame) (x : Pin) : (activeUntilExpire now x).function = x.function ∧
    (activeUntilExpire now x).polarity = x.polarity ∧ (activeUntilExpire now x).source = x.source := by
  unfold activeUntilExpire
  split
  · split <;> exact ⟨rfl, rfl, rfl⟩
  · exact ⟨rfl, rfl, rfl⟩

theorem timerEnd_keeps (now : Frame) (x : Pin) : (timerEnd now x).function = x.function ∧
    (timerEnd now x).polarity = x.polarity ∧ (timerEnd now x).source = x.source := by
  unfold timerEnd
  split
  · split <;> exact ⟨rfl, rfl, rfl⟩
  · exact ⟨rfl, rfl, rfl⟩

theorem pinBegun_keeps (late : Bool) (now : Frame) (x : Pin) : (pinBegun late now x).function = x.function ∧
    (pinBegun late now x).polarity = x.polarity ∧ (pinBegun late now x).source = x.source := by
  obtain ⟨hf, hp, hs⟩ := activeUntilExpire_keeps now x
  obtain ⟨hf', hp', hs'⟩ := timerEnd_keeps now (activeUntilExpire now x)
  unfold pinBegun
  split
  · exact ⟨hf, hp, hs⟩
  · exact ⟨hf'.trans hf, hp'.trans hp, hs'.trans hs⟩

/-- A pulse that starts on the frame event does not end on it. -/
theorem pinEnded_activate (late : Bool) (now : Frame) (x : Pin) :
    pinEnded late now (activate now 2400 (pinBegun late now x)) =
      { x with level := true, timing := true, activeUntil := some (now + 2400) } := by
  obtain ⟨hf, hp, hs⟩ := pinBegun_keeps late now x
  have hstart : activate now 2400 (pinBegun late now x) =
      { x with level := true, timing := true, activeUntil := some (now + 2400) } := by
    rw [← hf, ← hp, ← hs]
    rfl
  have hdue : dueReached (now + 2400) now = false := by
    unfold dueReached interval
    simp only [decide_eq_false_iff_not]
    have hd : (now - (now + 2400)).toNat = 4294964896 := by
      rw [show now - (now + 2400) = 0 - (2400 : Frame) by bv_omega]
      rfl
    omega
  rw [hstart]
  unfold pinEnded
  split
  · show (if (true && dueReached (now + 2400) now) = true then _ else _) = _
    rw [hdue]
    rfl
  · rfl

/-- A level written on the frame event, before the late timers and after the others. -/
theorem pinEnded_level (late : Bool) (now : Frame) (x : Pin) (on : Bool) :
    pinEnded late now { pinBegun late now x with level := on } =
      if late = true then pinTimed now { x with level := on } else { pinTimed now x with level := on } := by
  have hexp : ∀ x : Pin, { activeUntilExpire now x with level := on } = activeUntilExpire now { x with level := on } := by
    intro x
    unfold activeUntilExpire
    dsimp only
    split
    · split <;> rfl
    · rfl
  have htimed := pinEnded_pinBegun late now
  cases late with
  | true => rw [if_pos rfl, ← htimed]; exact congrArg (pinEnded true now) (hexp x)
  | false => rw [if_neg Bool.false_ne_true, ← htimed]; rfl

/-! ### The notices at the links (R12, R97, R201) -/

theorem mem_replaceFirst_new {p : Message → Bool} {new : Message} {q : List Message} (h : q.any p = true) :
    new ∈ replaceFirst p new q := by
  induction q with
  | nil => simp at h
  | cons x rest ih =>
    unfold replaceFirst
    split
    · exact List.mem_cons_self
    · next hx => exact List.mem_cons_of_mem _ (ih (by simpa [hx] using h))

/-- A link that takes a House Notice, and keeps it waiting behind the message it sends (R201). -/
structure Hears (k : Link) : Prop where
  present : k.present = true
  sending : k.sending.isSome
  room : k.txQueue.any isHouse = true ∨ k.txQueue.length < 8

/-- A House Notice waits at a link whose presence and countdown stay. -/
structure Heard (n : HouseNotice) (k k' : Link) : Prop where
  hears : Hears k'
  countdown : k'.countdown = k.countdown
  waits : Message.house n ∈ k'.txQueue

theorem heard_placeHouse {k : Link} (h : Hears k) (n : HouseNotice) : Heard n k (placeHouse n k) := by
  have hstart : ∀ q : List Message, Message.house n ∈ q → Heard n k (txStart { k with txQueue := q }) := by
    intro q hq
    rw [txStart_sending (k := { k with txQueue := q }) h.sending]
    exact ⟨⟨h.present, h.sending, .inl (List.any_eq_true.2 ⟨_, hq, rfl⟩)⟩, rfl, hq⟩
  unfold placeHouse
  split
  · next hany => exact hstart _ (mem_replaceFirst_new hany)
  · next hany =>
    have hroom : k.txQueue.length < Config.txQueueMax := h.room.resolve_left hany
    rw [if_pos hroom]
    exact hstart _ (List.mem_append_right _ (List.mem_singleton.2 rfl))

theorem heard_raiseHouse {u : State} {k : Link} {i : Station} (hk : u.link i = k) (h : Hears k) (r : Reason) :
    Heard (houseNotice r u) k ((raiseHouse r u).link i) := by
  rw [raiseHouse_link, hk, if_pos h.present]
  exact heard_placeHouse h _

theorem Heard.again {n n' : HouseNotice} {k k' k'' : Link} (h : Heard n k k') (h' : Heard n' k' k'') : Heard n' k k'' :=
  ⟨h'.hears, h'.countdown.trans h.countdown, h'.waits⟩

/-- A House Notice that waits at a link which stays PRESENT still waits at the end of the frame event. -/
theorem Heard.frameEnd {n : HouseNotice} {k k' k'' : Link} (h : Heard n k k') (hc : k.countdown ≠ some 1)
    (hpost : Posted k' k'') (now : Frame) : Message.house n ∈ (linkFrameEnd now k'').txQueue := by
  obtain ⟨-, hhouse⟩ := hpost.house h.hears.sending
  have hdown : k''.countdown = k.countdown := by rw [hpost.keeps]; exact h.countdown
  rw [linkFrameEnd_stays fun e => hc (hdown ▸ e.2)]
  show Message.house n ∈ (gapTest now k'').txQueue
  rw [(gapTest_keeps now k'').2.2.2.2.2]
  exact hhouse n h.waits

/-- The notice a crossing leaves waiting at a link that hears it. -/
structure CrossingNotice (r : Reason) (song : BitVec 32) (x : Transport) (v : State) (n : HouseNotice) : Prop where
  reason : n.reason = r
  grid : n.grid = v.grid.state
  meter : n.meter = v.grid.meter
  transport : n.transport = x.state
  songBar : n.songBar = song

theorem stagesDone_link (g : Grid) (v : State) (i : Station) : (stagesDone g v).link i = v.link i := by
  simp [stagesDone, State.link]

section
variable {g : Grid} (h : 4294967296 ≤ g.pos.frac.toNat + g.appliedInc) (hn : g.appliedInc < 4294967296) {b : Bool}
  {v : State} {i : Station}
include h hn

theorem heard_transport {u : State} (hg : u.grid = (stagesDone g v).grid) {k : Link} (hk : u.link i = k) (hears : Hears k)
    (hx : changesTransport g u.tc) : ∃ n, Heard n k ((tcCrossing u).link i) ∧
      CrossingNotice .transport (tcCrossed g u.tc).songBar (tcCrossed g u.tc) (stagesDone g v) n := by
  rw [told_changed h hn hg hx]
  have hlink : (showSource .playing { u with tc := tcCrossed g u.tc }).link i = k := by rw [showSource_link]; exact hk
  exact ⟨_, heard_raiseHouse hlink hears .transport, rfl, by simp [houseNotice, hg], by simp [houseNotice, hg],
    by simp [houseNotice], by simp [houseNotice]⟩

variable (hears : Hears (v.link i))
include hears

theorem crossingTold_transport (hx : changesTransport g v.tc) (hm : changesMeter g ≠ true) :
    ∃ n, Heard n (v.link i) ((crossingTold b g v).link i) ∧
      CrossingNotice .transport (tcCrossed g v.tc).songBar (tcCrossed g v.tc) (stagesDone g v) n := by
  have htc : (stagesDone g v).tc = v.tc := by simp [stagesDone]
  have hheard := heard_transport h hn (u := stagesDone g v) rfl (stagesDone_link g v i) hears (htc.symm ▸ hx)
  rw [htc] at hheard
  unfold crossingTold
  rwa [if_neg hm]

theorem crossingTold_both (hx : changesTransport g v.tc) (hm : changesMeter g = true) :
    ∃ n, Heard n (v.link i) ((crossingTold b g v).link i) ∧
      CrossingNotice (if b = true then .meter else .transport) (tcCrossed g v.tc).songBar (tcCrossed g v.tc)
        (stagesDone g v) n := by
  have htc : (stagesDone g v).tc = v.tc := by simp [stagesDone]
  have hlink := stagesDone_link g v i
  unfold crossingTold
  rw [if_pos hm]
  cases b with
  | true =>
    obtain ⟨n, hheard, -⟩ := heard_transport h hn (u := stagesDone g v) rfl hlink hears (htc.symm ▸ hx)
    have hagain := heard_raiseHouse (u := tcCrossing (stagesDone g v)) rfl hheard.hears .meter
    have hcross := tcCrossing_tc (stagesDone_crossing g v) (stagesDone_beat h hn v)
    rw [htc] at hcross
    exact ⟨_, hheard.again hagain, rfl, by simp [houseNotice], by simp [houseNotice], by simp [houseNotice, hcross],
      by simp [houseNotice, hcross]⟩
  | false =>
    have hfirst := heard_raiseHouse (u := stagesDone g v) hlink hears .meter
    obtain ⟨n, hheard, hnotice⟩ := heard_transport h hn (u := raiseHouse .meter (stagesDone g v)) rfl rfl hfirst.hears
      (by rw [raiseHouse_tc, htc]; exact hx)
    rw [raiseHouse_tc, htc] at hnotice
    exact ⟨n, hfirst.again hheard, hnotice⟩

theorem crossingTold_meter (hx : ¬ changesTransport g v.tc) (hm : changesMeter g = true) :
    ∃ n, Heard n (v.link i) ((crossingTold b g v).link i) ∧
      CrossingNotice .meter (if b = true then songAfter g v.tc else v.tc.songBar) (tcCrossed g v.tc)
        (stagesDone g v) n := by
  have htc : (stagesDone g v).tc = v.tc := by simp [stagesDone]
  have hlink := stagesDone_link g v i
  have hkept := tcCrossed_kept hx
  unfold crossingTold
  rw [if_pos hm]
  cases b with
  | true =>
    have htold := told_kept h hn (u := stagesDone g v) (v := v) rfl (htc.symm ▸ hx)
    rw [htc, hkept] at htold
    have hlink' : (tcCrossing (stagesDone g v)).link i = v.link i := by rw [htold]; exact hlink
    refine ⟨_, heard_raiseHouse hlink' hears .meter, rfl, ?_, ?_, ?_, ?_⟩
    · simp [houseNotice]
    · simp [houseNotice]
    · rw [htold, hkept]; rfl
    · rw [htold]; rfl
  | false =>
    have htold := told_kept h hn (u := raiseHouse .meter (stagesDone g v)) (v := v) rfl
      (by rw [raiseHouse_tc, htc]; exact hx)
    have hlink' : (tcCrossing (raiseHouse .meter (stagesDone g v))).link i =
        (raiseHouse .meter (stagesDone g v)).link i := by rw [htold]; rfl
    rw [if_neg Bool.false_ne_true, hlink']
    refine ⟨_, heard_raiseHouse hlink hears .meter, rfl, rfl, rfl, ?_, ?_⟩
    · show (stagesDone g v).tc.state = _
      rw [htc, hkept]
    · show (stagesDone g v).tc.songBar = _
      rw [htc]
      rfl

end

end Sys2Proof.Machine
end

section
/-! PROOF. The frame event that crosses a beat, whatever waits for it (O14). -/

namespace Sys2Proof.Machine

theorem frameBegun_follower (o : FrameOrder) (s : State) (i : Station) :
    (frameBegun o s).follower i = followerExpire (s.fru.count + 1) (s.follower i) := mapEach_get _ _ _

theorem crossingTold_keeps (b : Bool) (g : Grid) (v : State) :
    (crossingTold b g v).grid.crossing = (crossedGrid g).crossing ∧ (crossingTold b g v).fru = v.fru := by
  unfold crossingTold
  repeat' split
  all_goals simp [stagesDone]

theorem stagesDone_trim (g : Grid) (v : State) : (stagesDone g v).grid.trim = trimAdvanced g.trim := by
  simp [stagesDone]

theorem stagesDone_appliedInc (g : Grid) (v : State) :
    (stagesDone g v).grid.appliedInc = appliedIncrement (stagesDone g v).grid.baseInc (stagesDone g v).grid.trim := rfl

theorem stagesDone_keeps (g : Grid) (v : State) : (stagesDone g v).grid.state = g.state ∧
    (stagesDone g v).grid.pos = g.pos.add g.appliedInc ∧ (stagesDone g v).grid.crossing = (crossedGrid g).crossing ∧
    (stagesDone g v).grid.meter = (crossedGrid g).meter ∧
    (stagesDone g v).grid.pendingMeter = (crossedGrid g).pendingMeter ∧
    (stagesDone g v).grid.barStart = (crossedGrid g).barStart ∧
    (stagesDone g v).grid.beatInBar = (crossedGrid g).beatInBar ∧
    (stagesDone g v).grid.barCount = (crossedGrid g).barCount := by
  simp [stagesDone]

/-- What a frame event that crosses a beat leaves of a pin that no lane holds: BEAT and BAR pins pulse, PLAYING pins show
a changed transport, and the timers of all others go on (R155, R161). -/
theorem crossing_pin {g : Grid} (h : 4294967296 ≤ g.pos.frac.toNat + g.appliedInc) (hn : g.appliedInc < 4294967296)
    {b late : Bool} {v : State} {p : PinId} {now : Frame} {x : Pin} (hv : v.pin p = pinBegun late now x)
    (hc : v.fru.count = now) :
    (x.function = .indicator → x.source = some .beat ∨ x.source = some .bar ∧ (crossedGrid g).crossing = .bar →
      pinEnded late now ((pdCrossing (crossingTold b g v)).pin p) =
        { x with level := true, timing := true, activeUntil := some (now + 2400) }) ∧
    (x.function = .indicator → x.source = some .playing ∧ changesTransport g v.tc →
      pinEnded late now ((pdCrossing (crossingTold b g v)).pin p) =
        if late = true then pinTimed now { x with
          level := decide ((tcCrossed g v.tc).state = .playing ∨ (tcCrossed g v.tc).state = .stopping) }
        else { pinTimed now x with
          level := decide ((tcCrossed g v.tc).state = .playing ∨ (tcCrossed g v.tc).state = .stopping) }) ∧
    (¬ (x.function = .indicator ∧
        ((x.source = some .beat ∨ x.source = some .bar ∧ (crossedGrid g).crossing = .bar) ∨
          x.source = some .playing ∧ changesTransport g v.tc)) →
      pinEnded late now ((pdCrossing (crossingTold b g v)).pin p) = pinTimed now x) := by
  obtain ⟨hfun, -, hsrc⟩ := pinBegun_keeps late now x
  obtain ⟨hcross, hfru⟩ := crossingTold_keeps b g v
  obtain ⟨hkept, hshown⟩ := crossingTold_pin h hn b v p
  rw [hv] at hkept hshown
  rw [hfun, hsrc] at hshown
  rw [pdCrossing_pin, hcross, hfru, hc]
  generalize (crossingTold b g v).pin p = w at hkept hshown
  have hwf : w.function = x.function ∧ w.source = x.source := by
    by_cases hx : changesTransport g v.tc
    · rw [hshown hx]
      split <;> exact ⟨hfun, hsrc⟩
    · rw [hkept hx]
      exact ⟨hfun, hsrc⟩
  have hplain : ¬ (x.function = .indicator ∧ x.source = some .playing ∧ changesTransport g v.tc) →
      w = pinBegun late now x := by
    intro hno
    by_cases hx : changesTransport g v.tc
    · exact (hshown hx).trans (if_neg fun e => hno ⟨e.1, e.2, hx⟩)
    · exact hkept hx
  rw [hwf.1, hwf.2]
  refine ⟨fun hind hpulses => ?_, fun hind hshows => ?_, fun hno => ?_⟩
  · have hnot : ¬ (x.source = some .playing) := by
      intro hplay
      rcases hpulses with e | ⟨e, -⟩ <;> rw [hplay] at e <;> cases e
    rw [if_pos ⟨hind, hpulses⟩, hplain fun e => hnot e.2.1, pinEnded_activate]
  · obtain ⟨hplay, hx⟩ := hshows
    rw [if_neg (by simp [hplay]), hshown hx, if_pos ⟨hind, hplay⟩, pinEnded_level]
  · rw [if_neg fun e => hno ⟨e.1, .inl e.2⟩, hplain fun e => hno ⟨e.1, .inr e.2⟩, pinEnded_pinBegun]

/-- Settles O14: the stages number the beat and serve the handover, then the transport, the notices and the indicators
have the crossing. -/
theorem crossingServesHandoverAndTransport : Obligations.CrossingServesHandoverAndTransport := by
  intro s o hp hsw hs hinc hacross bar estimate song
  generalize hu : ({ s with fru := frameFru s.fru } : State) = u
  have hg : u.grid = s.grid := by rw [← hu]
  have hcount : u.fru.count = s.fru.count := by rw [← hu]; exact (frameFru_keeps s.fru).1
  have hs' : u.grid.state ≠ .unset := hg ▸ hs
  have ha' : 4294967296 ≤ u.grid.pos.frac.toNat + u.grid.appliedInc := hg ▸ hacross
  have hpos := Pos.add_across hacross hinc
  have hbar : bar = true ↔ s.grid.beatInBar + 1 = s.grid.meter := decide_eq_true_iff
  have hsong : song = songAfter s.grid s.tc := by
    simp only [song, songAfter, hbar]
  have hvlead : (frameBegun o u).lead = s.lead := by rw [← hu]; rfl
  have hvtc : (frameBegun o u).tc = s.tc := by rw [← hu]; rfl
  have hvlink : ∀ i, (frameBegun o u).link i = s.link i := fun i => by rw [← hu]; rfl
  have hvcount : (frameBegun o u).fru.count = s.fru.count + 1 := by rw [← hcount]; rfl
  have hvest : ∀ i, ((frameBegun o u).follower i).estimate = estimate i := fun i => by
    rw [frameBegun_follower, hcount, ← hu]
    rfl
  have hvpin : ∀ p, (frameBegun o u).pin p = pinBegun (o.latePins.contains p) (s.fru.count + 1) (s.pin p) := fun p => by
    rw [frameBegun_pin, hcount, ← hu]
    rfl
  have htgrid : (frameEventWhole o u).grid = (stagesDone s.grid (frameBegun o u)).grid := by
    rw [frameEventWhole_grid_across hs' ha', hg]
    rfl
  have htlead : (frameEventWhole o u).lead = (stagesDone s.grid (frameBegun o u)).lead := by
    rw [frameEventWhole_lead_across hs' ha', hg]
    rfl
  have httc : (frameEventWhole o u).tc = tcCrossed s.grid s.tc := by
    rw [frameEventWhole_tc_across hs' ha', hg, beatCrossing_tc hacross hinc, hvtc]
  have htold : (gridFrame o.transportFirst (frameBegun o u)) =
      pdCrossing (crossingTold o.transportFirst s.grid (frameBegun o u)) := by
    rw [gridFrame_begun_across hs' ha', hg, beatCrossing_eq]
    rfl
  have htpin : ∀ p, FreePin p s → (frameEventWhole o u).pin p = pinEnded (o.latePins.contains p) (s.fru.count + 1)
      ((pdCrossing (crossingTold o.transportFirst s.grid (frameBegun o u))).pin p) := fun p hf => by
    have hfu : FreePin p u := by rw [← hu]; exact hf.of_lanes rfl
    rw [hfu.frameEventWhole, htold, hcount]
  obtain ⟨hkstate, hkpos, hkcrossing, hkmeter, hkpending, hkstart, hkbeat, hkbars⟩ :=
    stagesDone_keeps s.grid (frameBegun o u)
  refine ⟨frameEventWhole o u, steppedGrid s.grid, hu ▸ exec_frameEvent hp hsw o, ?_, ?_, ?_, ?_, ?_, fun hw => ?_,
    fun w hw => ?_, fun hb => ?_, ?_, fun hpend => ?_, fun p hpend => ?_, fun hl p hfree => ?_, fun i => ?_⟩
  · rw [htgrid, hkpos, hpos]
  · rw [htgrid, hkstate]
  · have hnum := crossedGrid_numbered s.grid
    rw [htgrid, hkcrossing, hkmeter, hkpending, hkstart, hkbeat, hkbars]
    rw [hpos] at hnum
    simp only [hbar]
    exact hnum
  · rw [htgrid, stagesDone_trim]
    exact trimAdvanced_eq _
  · exact steppedGrid_glide s.grid
  · obtain ⟨hgw, hlw⟩ := stagesDone_waits (g := s.grid) (v := frameBegun o u) fun w e => by
      rw [hvlead, hw] at e
      cases e
    rw [htlead, htgrid, hgw, hlw]
    exact ⟨hvlead, rfl, rfl⟩
  · simp only [hbar]
    split
    · next hm =>
      obtain ⟨hgm, hlm⟩ := stagesDone_met (hvlead.symm ▸ hw) hm
      rw [htlead, htgrid, hgm, hlm, hvest, hvlead]
      exact ⟨rfl, rfl, rfl⟩
    · next hm =>
      obtain ⟨hgw, hlw⟩ := stagesDone_waits (g := s.grid) (v := frameBegun o u) fun w' e => by
        rw [hvlead, hw] at e
        cases e
        exact hm
      rw [htlead, htgrid, hgw, hlw]
      exact ⟨hvlead, rfl, rfl⟩
  · rw [htgrid]
    exact stagesDone_baseInc hb
  · rw [htgrid]
    exact stagesDone_appliedInc _ _
  · rw [httc, hsong]
    exact tcCrossed_kept fun ⟨p, e, _⟩ => by rw [hpend] at e; cases e
  · rw [httc, hsong]
    split
    · next hb => rw [tcCrossed_changed hpend hb]; rfl
    · next hb =>
      exact tcCrossed_kept fun ⟨p', e, hb'⟩ => hb (by rw [hpend] at e; cases e; exact hb')
  · obtain ⟨hpulsed, hshown, hrest⟩ := crossing_pin hacross hinc (b := o.transportFirst) (hvpin p) hvcount
    have hbarc : (crossedGrid s.grid).crossing = .bar ↔ bar = true := by
      rw [crossedGrid_crossing, hbar]
      split <;> simp_all
    rw [← htpin p ⟨hl, hfree⟩] at hpulsed hshown hrest
    rw [hvtc, ← httc] at hshown
    simp only [hbarc] at hpulsed hrest
    refine ⟨hpulsed, fun hind hs => (hshown hind hs).trans ?_, fun hno => hrest (hvtc.symm ▸ hno)⟩
    exact if_congr List.contains_iff_mem rfl rfl
  · have hlink := frameEventWhole_link o u i
    have hpost := posted_frameWalked o u i
    have hpd : ∀ w : State, (pdCrossing w).link i = w.link i := fun w => by simp [State.link]
    rw [htold, hpd] at hpost
    intro k told newMeter changes hpres hdown hsend hroom
    have hears : Hears ((frameBegun o u).link i) := by
      rw [hvlink]
      exact ⟨hpres, hsend, .inr hroom⟩
    have htell : ∀ {r sg n}, Heard n ((frameBegun o u).link i)
        ((crossingTold o.transportFirst s.grid (frameBegun o u)).link i) →
        CrossingNotice r sg (tcCrossed s.grid s.tc) (stagesDone s.grid (frameBegun o u)) n → told r sg := by
      intro r sg n hheard hnotice
      refine ⟨n, ?_, hnotice.reason, hnotice.grid.trans hkstate, hnotice.meter.trans (by rw [htgrid]),
        hnotice.transport.trans (by rw [httc]), hnotice.songBar⟩
      rw [hlink]
      exact hheard.frameEnd (by rw [hvlink]; exact hdown) hpost _
    have hmeter : newMeter ↔ changesMeter s.grid = true := by rw [changesMeter_iff, ← hbar]
    have hsong' : (tcCrossed s.grid s.tc).songBar = (frameEventWhole o u).tc.songBar := by rw [httc]
    refine ⟨fun hc hm => ?_, fun hc hm => ?_, fun hm hc => ?_⟩
    · obtain ⟨n, hheard, hnotice⟩ := crossingTold_transport hacross hinc (b := o.transportFirst) hears
        (hvtc.symm ▸ hc) (fun e => hm (hmeter.2 e))
      rw [hvtc] at hnotice
      exact hsong' ▸ htell hheard hnotice
    · obtain ⟨n, hheard, hnotice⟩ := crossingTold_both hacross hinc (b := o.transportFirst) hears
        (hvtc.symm ▸ hc) (hmeter.1 hm)
      rw [hvtc] at hnotice
      exact hsong' ▸ htell hheard hnotice
    · obtain ⟨n, hheard, hnotice⟩ := crossingTold_meter hacross hinc (b := o.transportFirst) hears
        (hvtc.symm ▸ hc) (hmeter.1 hm)
      rw [hvtc, ← hsong] at hnotice
      exact htell hheard hnotice

end Sys2Proof.Machine
end

section
/-! PROOF. Grid Clear, owner by owner (R27, R61, R88, R104, R125, R160, R174, R209; O11). -/

namespace Sys2Proof.Machine

/-! ### A lane and its pin at the Clear (R125, R151, R160) -/

/-- The lane goes OFF, or stays OFF, at the Clear. -/
@[reducible] def offAtClear (ln : Lane) : Prop := ln.state = .off ∨ ln.state = .active ∧ ln.disable.isSome

theorem stateAtClear_off (ln : Lane) : stateAtClear ln = .off ↔ offAtClear ln := by
  unfold stateAtClear offAtClear
  cases ln.state with
  | off => simp
  | arming => simp
  | active => cases ln.disable <;> simp

theorem stateAtClear_on {ln : Lane} (h : ¬ offAtClear ln) : stateAtClear ln = .arming := by
  unfold offAtClear at h
  unfold stateAtClear
  cases hs : ln.state with
  | off => exact absurd (.inl hs) h
  | arming => rfl
  | active => exact if_neg fun hd => h (.inr ⟨hs, hd⟩)

theorem clearLane_eq (ln : Lane) : clearLane ln = { laneAfterDisable ln with
    settings := settingsAtClear ln, state := if offAtClear ln then .off else .arming } := by
  have hstate : stateAtClear ln = if offAtClear ln then .off else .arming := by
    split
    · next h => exact (stateAtClear_off ln).2 h
    · next h => exact stateAtClear_on h
  unfold clearLane
  rw [hstate]
  rfl

theorem holderGoesOff_iff {s : State} (h : PinsOk s) {l : LaneId} {p : PinId} (hl : holdsPin s l p) :
    holderGoesOff s p = true ↔ offAtClear (s.lane l) := by
  simp [holderGoesOff, (pinHolder_iff h p l).2 hl, stateAtClear_off]

theorem clearPin_held {s : State} (h : PinsOk s) {l : LaneId} {p : PinId} (hl : holdsPin s l p) : clearPin (holderGoesOff s p) (s.pin p) = { s.pin p with
      function := if offAtClear (s.lane l) then .level else .lane, level := false, timing := false, activeUntil := none } := by
  have hf : (s.pin p).function = .lane := (h.lane p).2 ⟨l, hl⟩
  have hiff := holderGoesOff_iff h hl
  unfold clearPin
  rw [if_pos hf]
  by_cases hoff : offAtClear (s.lane l)
  · rw [if_pos (hiff.2 hoff), if_pos hoff]
    rfl
  · rw [if_neg (mt hiff.1 hoff), if_neg hoff, ← hf]

theorem clearPin_free {b : Bool} {p : Pin} (h : p.function ≠ .lane) : clearPin b p = p := if_neg h

/-! ### A port at the Clear (R174) -/

/-- Codes that enter a port behind a code being sent wait in order (R164, R167). -/
theorem foldl_portTransport_waits (codes : List Byte) {q : Port} (hs : q.sending.isSome) (ho : q.owedTicks = 0)
    (hroom : q.fifo.length + codes.length ≤ 16) : codes.foldl (fun q c => portTransport c q) q =
      { q with fifo := q.fifo ++ codes.map fun c => ⟨c, false⟩ } := by
  induction codes generalizing q with
  | nil => simp
  | cons c rest ih =>
    have hlen : (c :: rest).length = rest.length + 1 := rfl
    have hfirst : portTransport c q = { q with fifo := q.fifo ++ [⟨c, false⟩] } := by
      have hlt : q.fifo.length < Config.fifoMax := by simp only [Config.fifoMax]; omega
      rw [portTransport, if_pos ho, if_pos hlt, portEnter_sending hs]
    rw [List.foldl_cons, hfirst, ih (by exact hs) (by exact ho) (by simp; omega)]
    simp

/-- The codes of a Clear at a port: the first is sent where the transmitter is IDLE, the others wait. -/
def portCleared (x : Port) (stops : List FifoCode) : Port :=
  match x.sending, stops with
  | none, c :: rest => ⟨x.rate, some ⟨c.code, x.rate⟩, rest, 0, none, none, x.lost⟩
  | _, _ => ⟨x.rate, x.sending, stops, 0, none, none, x.lost⟩

theorem clearPort_eq {codes : List Byte} (h : codes.length ≤ 16) (x : Port) :
    clearPort codes x = portCleared x (codes.map fun c => ⟨c, false⟩) := by
  obtain ⟨rate, sending, fifo, n, tick, held, lost⟩ := x
  unfold clearPort
  cases sending with
  | some y =>
    refine (foldl_portTransport_waits codes (q := ⟨rate, some y, [], 0, none, none, lost⟩) rfl rfl (by simpa using h)).trans ?_
    cases codes <;> rfl
  | none =>
    cases codes with
    | nil => rfl
    | cons c rest =>
      exact foldl_portTransport_waits rest (q := ⟨rate, some ⟨c, rate⟩, [], 0, none, none, lost⟩) rfl rfl
        (by simpa using Nat.le_of_succ_le h)

theorem lanes_toList (s : State) : s.lanes.toList = (List.finRange 16).map s.lane := by
  refine List.ext_getElem (by simp) fun i h1 h2 => ?_
  simp [State.lane]

/-- The stop codes of a port at the Clear, in order of lane index. -/
def stopsAtClear (s : State) (p : PortId) : List FifoCode :=
  (List.finRange 16).filterMap fun l =>
    if (s.lane l).settings.kind = .stream ∧ (s.lane l).settings.target = .port p ∧ (s.lane l).emittedPlaying then
      some ⟨(settingsAtClear (s.lane l)).codes.stop, false⟩ else none

theorem clearCodes_stops (s : State) (p : PortId) :
    (clearCodes s p).map (fun c => (⟨c, false⟩ : FifoCode)) = stopsAtClear s p := by
  unfold clearCodes stopsAtClear
  rw [lanes_toList, List.filterMap_map, List.map_filterMap]
  refine List.filterMap_congr fun l _ => ?_
  simp only [Function.comp]
  split <;> rfl

theorem clearCodes_length (s : State) (p : PortId) : (clearCodes s p).length ≤ 16 := by
  unfold clearCodes
  exact (List.length_filterMap_le _ _).trans (by simp)

theorem clearPort_clearCodes (s : State) (p : PortId) :
    clearPort (clearCodes s p) (s.port p) = portCleared (s.port p) (stopsAtClear s p) := by
  rw [clearPort_eq (clearCodes_length s p), clearCodes_stops]

/-! ### The indicators at the Clear (R161) -/

/-- The state of a Clear before its notice. -/
def clearShows (s : State) : State := showSource .playing (showSource .holdover (clearItems s))

theorem clearPart_shows (s : State) : clearPart s = raiseHouse .cleared (clearShows s) := rfl

theorem clearItems_pin (s : State) (p : PinId) : (clearItems s).pin p = clearPin (holderGoesOff s p) (s.pin p) :=
  mapEach_get _ _ _

/-- After a Clear the grid is not in HOLDOVER and the transport not PLAYING. -/
theorem clearShows_pin (s : State) (p : PinId) : (clearShows s).pin p =
    let x := clearPin (holderGoesOff s p) (s.pin p)
    if x.function = .indicator ∧ (x.source = some .holdover ∨ x.source = some .playing) then { x with level := false }
    else x := by
  have hhold : (showSource .holdover (clearItems s)).pin p =
      if ((clearItems s).pin p).function = .indicator ∧ ((clearItems s).pin p).source = some .holdover then
        { (clearItems s).pin p with level := false } else (clearItems s).pin p := showSource_pin .holdover (clearItems s) p
  have hlevel : levelOf (showSource .holdover (clearItems s)) .playing = some false := by
    simp [levelOf, clearItems, Transport.reset]
  have hplay := showSource_pin .playing (showSource .holdover (clearItems s)) p
  rw [hlevel] at hplay
  refine hplay.trans ?_
  dsimp only
  rw [hhold, clearItems_pin]
  generalize clearPin (holderGoesOff s p) (s.pin p) = x
  by_cases hf : x.function = .indicator
  · by_cases hsrc : x.source = some .holdover
    · simp [hf, hsrc]
    · simp [hf, hsrc]
  · simp [hf]

/-! ### The obligation -/

theorem exec_gridClear {s : State} {st : Station} {tag : Byte} {f : List Byte} (hc : canTake st 0x15 tag f s)
    (hf : f.length = 2) : exec (.gridClear st tag f) s =
      .next (placeReply st 0x15 tag (gridClearOwner st f (afterTaking st s)).2 (gridClearOwner st f (afterTaking st s)).1) :=
  congrArg Host.Outcome.next (takeRequest_taken hc (by simp [hf]))

theorem clearCode_alone (code : BitVec 16) : clearCode (be2 code.toNat) = code := by
  simpa [clearCode] using fCode_be2 code []

/-- Settles O11: the checks of a Grid Clear in their order, then every owner's part. -/
theorem gridClearReturnsToUnset : Obligations.GridClearReturnsToUnset := by
  intro s st tag code hsafe hc s1 ends
  have hexec := exec_gridClear hc (by simp [be2])
  have hread := clearCode_alone code
  have hpres : (s1.link st).present = (s.link st).present := by simp [s1]
  have hlead : s1.lead.code = s.lead.code := rfl
  refine ⟨fun hp => ?_, fun hp hcode => ?_, fun hp hcode hne => ?_, fun hp hcode heq => ?_⟩
  · have howner : gridClearOwner st (be2 code.toNat) s1 = answered .noChange 0 s1 := by
      simp [gridClearOwner, hpres, hp]
    rw [howner] at hexec
    exact hexec
  · have howner : gridClearOwner st (be2 code.toNat) s1 = answered .seizeOff 0 s1 := by
      simp [gridClearOwner, hpres, hp, hlead, hcode]
    rw [howner] at hexec
    exact hexec
  · have howner : gridClearOwner st (be2 code.toNat) s1 = answered .badCode 0 (setLatch st 0x15 s1) := by
      have hcode : ¬ s.lead.code = 0#16 := hcode
      simp [gridClearOwner, hpres, hp, hlead, hcode, hread, hne]
    rw [howner, setLatch_eq] at hexec
    exact hexec
  · have howner : gridClearOwner st (be2 code.toNat) s1 = (clearPart s1, .answer .ok 0) := by
      have hcode : ¬ s.lead.code = 0#16 := hcode
      simp [gridClearOwner, hpres, hp, hlead, hcode, hread.trans heq]
    rw [howner, clearPart_shows] at hexec
    have hpin : ∀ p, s1.pin p = s.pin p := fun p => afterTaking_pin st s p
    have hlane : ∀ l, s1.lane l = s.lane l := fun l => afterTaking_lane st s l
    have hpinOk : PinsOk s := hsafe.pins
    have hgoes : ∀ p, holderGoesOff s1 p = holderGoesOff s p := by
      intro p
      unfold holderGoesOff pinHolder
      simp only [hlane]
    have hshow := clearShows_pin s1
    simp only [hpin, hgoes] at hshow
    refine ⟨clearShows s1, hexec, ?_, ?_, ?_, ?_, ?_, fun i => ?_, ⟨fun l => ?_, fun l p hl => ?_, fun p hf => ?_,
      fun p hf => ?_, fun p => ?_⟩, ?_, ?_, ?_, ?_, ?_⟩
    · simp [clearShows, clearItems]
    · simp [clearShows, clearItems]
    · simp [clearShows, clearItems, clearGrid, s1]
    · simp [clearShows, clearItems, Transport.reset]
    · simp [clearShows, clearItems, clearLead, s1]
    · rw [clearShows, showSource_follower, showSource_follower]
      refine (mapEach_get _ _ _).trans ?_
      rfl
    · rw [clearShows, showSource_lane, showSource_lane]
      exact (mapEach_get _ _ _).trans (clearLane_eq (s.lane l))
    · rw [hshow, clearPin_held hpinOk hl]
      refine if_neg ?_
      rintro ⟨hfun, -⟩
      dsimp only at hfun
      split at hfun <;> cases hfun
    · rw [hshow, clearPin_free (by simp [hf])]
      simp [hf]
    · rw [hshow, clearPin_free (by simp [hf])]
      by_cases hsrc : (s.pin p).source = some .holdover ∨ (s.pin p).source = some .playing
      · rw [if_pos ⟨hf, hsrc⟩, if_pos hsrc]
      · rw [if_neg fun e => hsrc e.2, if_neg hsrc]
    · rw [clearShows, showSource_port, showSource_port]
      have hport : clearPort (clearCodes s1 p) (s1.port p) = portCleared (s.port p) (stopsAtClear s p) := by
        rw [clearPort_clearCodes, afterTaking_port]
        unfold stopsAtClear
        simp only [hlane]
      exact (mapEach_get _ _ _).trans hport
    · simp [clearShows, clearItems, s1]
    · simp [clearShows, clearItems, s1]
    · simp [clearShows, clearItems, s1]
    · simp [clearShows, clearItems, s1]
    · simp [clearShows, clearItems, s1]

end Sys2Proof.Machine
end

section
/-! PROOF. A Query and its Reports (R198 to R200; O56). -/

namespace Sys2Proof.Machine

/-! ### The topic and the checks of a Query (R198) -/

section
variable {a i part : Byte}

theorem readTopic_eq : readTopic [a, i, part] = match a.toNat with
    | 0 => some .grid
    | 1 => some .lead
    | 2 => some .transport
    | 3 => if h : i.toNat < 16 then some (.lane ⟨i.toNat, h⟩) else none
    | 4 => if h : i.toNat < 4 then some (.port ⟨i.toNat, h⟩) else none
    | 5 => if h : i.toNat < 8 then some (.pin ⟨i.toNat, h⟩) else none
    | 6 => if h : i.toNat < 2 then some (.input ⟨i.toNat, h⟩) else none
    | 7 => some .link
    | 8 => some .reference
    | 9 => some .store
    | _ => none := by
  have hfin : ∀ {α : Type} (n : Nat) (f : Fin n → α), (fFin n [a, i, part] 1).map f =
      if h : i.toNat < n then some (f ⟨i.toNat, h⟩) else none := by
    intro α n f
    show Option.map f (if h : i.toNat < n then some ⟨i.toNat, h⟩ else none) = _
    split <;> rfl
  unfold readTopic
  rw [hfin, hfin, hfin, hfin]
  rfl

theorem readTopic_none (h : 9 < a.toNat ∨ a = 3 ∧ 15 < i.toNat ∨ a = 4 ∧ 3 < i.toNat ∨ a = 5 ∧ 7 < i.toNat ∨
    a = 6 ∧ 1 < i.toNat) : readTopic [a, i, part] = none := by
  rw [readTopic_eq]
  rcases h with h | ⟨rfl, h⟩ | ⟨rfl, h⟩ | ⟨rfl, h⟩ | ⟨rfl, h⟩
  · obtain ⟨n, hn⟩ : ∃ n, a.toNat = n + 10 := ⟨a.toNat - 10, by omega⟩
    rw [hn]
    rfl
  · exact dif_neg (by omega)
  · exact dif_neg (by omega)
  · exact dif_neg (by omega)
  · exact dif_neg (by omega)

theorem readTopic_lane {l : LaneId} (ha : a = 3) (hl : l.val = i.toNat) : readTopic [a, i, part] = some (.lane l) := by
  subst ha
  rw [readTopic_eq]
  refine (dif_pos (hl ▸ l.isLt)).trans ?_
  simp [← hl]

theorem readTopic_port {p : PortId} (ha : a = 4) (hp : p.val = i.toNat) : readTopic [a, i, part] = some (.port p) := by
  subst ha
  rw [readTopic_eq]
  refine (dif_pos (hp ▸ p.isLt)).trans ?_
  simp [← hp]

theorem readTopic_pin {p : PinId} (ha : a = 5) (hp : p.val = i.toNat) : readTopic [a, i, part] = some (.pin p) := by
  subst ha
  rw [readTopic_eq]
  refine (dif_pos (hp ▸ p.isLt)).trans ?_
  simp [← hp]

theorem readTopic_input {j : InputId} (ha : a = 6) (hj : j.val = i.toNat) : readTopic [a, i, part] = some (.input j) := by
  subst ha
  rw [readTopic_eq]
  refine (dif_pos (hj ▸ j.isLt)).trans ?_
  simp [← hj]

end

theorem exec_query {s : State} {st : Station} {tag a i part : Byte} (hc : canTake st 0x02 tag [a, i, part] s) :
    exec (.query st tag [a, i, part]) s = .next (placeReply st 0x02 tag
      (queryOwner st [a, i, part] (afterTaking st s)).2 (queryOwner st [a, i, part] (afterTaking st s)).1) :=
  congrArg Host.Outcome.next (takeRequest_taken hc (by simp))

section
variable {s : State} {st : Station} {tag a i part : Byte} (hc : canTake st 0x02 tag [a, i, part] s)
  (hp : (s.link st).present = true)
include hc hp

theorem query_unread (ht : readTopic [a, i, part] = none) : exec (.query st tag [a, i, part]) s =
    .next (placeReply st 0x02 tag (.answer .badField 0) (afterTaking st s)) := by
  have howner : queryOwner st [a, i, part] (afterTaking st s) = answered .badField 0 (afterTaking st s) := by
    simp [queryOwner, hp, ht]
  rw [exec_query hc, howner]
  rfl

theorem query_beyond {t : Topic} (ht : readTopic [a, i, part] = some t) (hn : partCount t ≤ part.toNat) :
    exec (.query st tag [a, i, part]) s =
      .next (placeReply st 0x02 tag (.answer .badField (BitVec.ofNat 8 (partCount t))) (afterTaking st s)) := by
  have hn : partCount t ≤ f1 [a, i, part] 2 := hn
  have howner : queryOwner st [a, i, part] (afterTaking st s) =
      answered .badField (BitVec.ofNat 8 (partCount t)) (afterTaking st s) := by
    simp [queryOwner, hp, ht, hn]
  rw [exec_query hc, howner]
  rfl

theorem query_shown {t : Topic} (ht : readTopic [a, i, part] = some t) (hn : part.toNat < partCount t) :
    exec (.query st tag [a, i, part]) s =
      .next (placeReply st 0x02 tag (.report (reportContents st t part.toNat (afterTaking st s)))
        (clearShown st t (afterTaking st s))) := by
  have hn : ¬ partCount t ≤ f1 [a, i, part] 2 := Nat.not_le.2 hn
  have howner : queryOwner st [a, i, part] (afterTaking st s) = (clearShown st t (afterTaking st s),
      .report (reportContents st t part.toNat (afterTaking st s))) := by
    simp only [queryOwner, afterTaking_present, hp, ht, hn, Bool.not_true, Bool.false_eq_true, if_false]
    rfl
  rw [exec_query hc, howner]

end

/-! ### The lengths of the parts (R199) -/

theorem held_length {α : Type} (w : Nat) (enc : α → List Byte) (o : Option α) (h : ∀ a, (enc a).length = w) :
    (held w enc o).length = w := by
  cases o <;> simp [held, h]

theorem termsBytes_length (t : Terms) : (termsBytes t).length = 9 := by simp [termsBytes]

theorem entryBytes_length (e : Option LeadEntry) : (entryBytes e).length = 10 := by
  cases e <;> simp [entryBytes, termsBytes_length]

theorem latchBytes_length (x : Option Latch) : (latchBytes x).length = 4 := by cases x <;> rfl

theorem followerBytes_length (x : Follower) : (followerBytes x).length = 12 := by
  simp [followerBytes, optional_length 4 be32 _ be32_length, optional_length 3 be3 _ be3_length]

theorem rateBytes_length (r : Rate) : (rateBytes r).length = 2 := by cases r <;> rfl

theorem barCodeBytes_length (b : Option Byte) : (optional 1 (fun x => [x]) b).length = 2 :=
  optional_length 1 _ b fun _ => rfl

theorem settingsBytes_length (x : Settings) : (settingsBytes x).length = 22 := by
  simp [settingsBytes, rateBytes_length, barCodeBytes_length]

theorem patchBytes_length (p : Patch) : (patchBytes p).length = 22 := by
  unfold patchBytes
  simp only [List.length_append]
  rw [held_length 1 _ _ (by simp), held_length 1 _ _ (by simp), held_length 2 _ _ rateBytes_length,
    held_length 1 _ _ be1_length, held_length 2 _ _ beSigned2_length, held_length 1 _ _ (by simp),
    held_length 1 _ _ (by simp), held_length 2 _ _ be2_length, held_length 2 _ _ (by simp), held_length 1 _ _ (by simp),
    held_length 1 _ _ (by simp), held_length 1 _ _ be1_length, held_length 4 _ _ (by simp),
    held_length 2 _ _ barCodeBytes_length]

theorem boundaryBytes_length (g : Grid) (d : LaneBoundary) : (boundaryBytes g d).length = 5 := by simp [boundaryBytes]

theorem trimBytes_length (t : Trim) : (trimBytes t).length = 7 := by cases t <;> rfl

theorem sourceBytes_length (x : Option Source) : (sourceBytes x).length = 2 := by
  cases x with
  | none => rfl
  | some y => cases y <;> rfl

theorem gridParts_length (g : Grid) : (gridPart0 g).length = 29 ∧ (gridPart1 g).length = 16 := by
  refine ⟨by simp [gridPart0], ?_⟩
  simp [gridPart1, optional_length 8 glideBytes _ (by simp [glideBytes]), trimBytes_length]

theorem leadParts_length (s : State) (j k : Station) : (leadPart0 s).length = 33 ∧ (leadPart1 s).length = 34 ∧
    (leadPart2 j k s).length = 28 := by
  have hhandover : ∀ h, (handoverBytes h).length = 12 := by simp [handoverBytes, termsBytes_length]
  refine ⟨?_, ?_, ?_⟩
  · simp [leadPart0, latchBytes_length, entryBytes_length, optional_length 4 beSigned4 _ beSigned4_length,
      optional_length 12 handoverBytes _ hhandover]
  · simp [leadPart1, latchBytes_length, entryBytes_length]
  · simp [leadPart2, latchBytes_length, followerBytes_length]

theorem transportPart_length (s : State) : (transportPart s).length = 16 := by
  simp [transportPart, optional_length 6 pendingBytes _ (by simp [pendingBytes])]

theorem lanePart_length (l : LaneId) (n : Nat) (s : State) : (lanePart l n s).length ≤ 34 := by
  have hpos : ∀ a, (posBytes (activationShown s.grid a)).length = 8 := by simp [posBytes]
  have hstaged : ∀ sp, (stagedBytes s.grid sp).length = 29 := by
    simp [stagedBytes, boundaryBytes_length, patchBytes_length]
  have hpoint : ∀ n : NextPoint, (be32 n.beat ++ be1 n.index).length = 5 := by simp
  have howed : ∀ o, (owedBytes o).length = 6 := by
    simp [owedBytes, optional_length 4 be32 _ be32_length]
  unfold lanePart
  split
  · simp [settingsBytes_length]
  · simp [lanePart1, optional_length 8 _ _ hpos, optional_length 4 be32 _ be32_length,
      optional_length 5 _ _ (boundaryBytes_length s.grid)]
  · simp [lanePart2, optional_length 29 _ _ hstaged]
  · simp [lanePart3, optional_length 5 _ _ hpoint, optional_length 4 be32 _ be32_length, howed,
      optional_length 4 (fun r : PointRecord => be32 r.due) _ (by simp)]

theorem partContents_length (st : Station) (t : Topic) (n : Nat) (s : State) : (partContents st t n s).length ≤ 34 := by
  cases t with
  | grid =>
    obtain ⟨h0, h1⟩ := gridParts_length s.grid
    simp only [partContents]
    split <;> omega
  | lead =>
    obtain ⟨h0, h1, h2⟩ := leadParts_length s 0 1
    obtain ⟨-, -, h3⟩ := leadParts_length s 2 3
    simp only [partContents]
    split <;> omega
  | transport => simp [partContents, transportPart_length]
  | lane l => exact lanePart_length l n s
  | port p => simp [partContents, portPart, barCodeBytes_length]
  | pin p =>
    simp [partContents, pinPart, sourceBytes_length, optional_length 4 be32 _ be32_length,
      optional_length 1 (fun l : LaneId => be1 l.val) _ (by simp)]
  | input j => simp [partContents, inputPart, optional_length 4 be32 _ be32_length]
  | link => simp [partContents, linkPart]
  | reference => simp [partContents, referencePart]
  | store => simp [partContents, storePart]

end Sys2Proof.Machine
end

section
/-! PROOF. What a Report says (R26, R37, R46, R87, R103, R124, R163, R172, R190, R208; O56). -/

namespace Sys2Proof.Machine

theorem query_absent {s : State} {st : Station} {tag a i part : Byte} (hc : canTake st 0x02 tag [a, i, part] s)
    (hp : (s.link st).present = false) : exec (.query st tag [a, i, part]) s =
      .next (placeReply st 0x02 tag (.answer .noChange 0) (afterTaking st s)) := by
  have howner : queryOwner st [a, i, part] (afterTaking st s) = answered .noChange 0 (afterTaking st s) := by
    simp [queryOwner, hp]
  rw [exec_query hc, howner]
  rfl

/-! ### The Report of a part -/

section
variable {s : State} {st : Station} {tag a i part : Byte} (hc : canTake st 0x02 tag [a, i, part] s)
  (hp : (s.link st).present = true)
include hc hp

/-- A part of a topic, byte for byte: its head, its contents `body`, and the state `u` its topic clears to. -/
theorem query_reports {t : Topic} {n : Nat} {index parts : Byte} {body : List Byte} {u : State}
    (ht : readTopic [a, i, part] = some t) (hpart : part.toNat = n) (hn : n < partCount t) (ha : topicByte t = a)
    (hi : indexByte t = index) (hparts : BitVec.ofNat 8 (partCount t) = parts)
    (hbody : partContents st t n (afterTaking st s) = body) (hu : clearShown st t (afterTaking st s) = u) :
    body.length ≤ 34 ∧ exec (.query st tag [a, i, part]) s =
      .next (placeReply st 0x02 tag (.report ([a, index, part, parts] ++ body)) u) := by
  subst hpart
  have hhead : reportContents st t part.toNat (afterTaking st s) = [a, index, part, parts] ++ body := by
    rw [reportContents, ha, hi, hparts, hbody, BitVec.ofNat_toNat, BitVec.setWidth_eq]
  refine ⟨hbody ▸ partContents_length st t part.toNat _, ?_⟩
  rw [query_shown hc hp ht hn, hhead, hu]

/-- A topic of one part has no other. -/
theorem query_beyond_one {t : Topic} (ht : readTopic [a, i, part] = some t) (hone : partCount t = 1) (hpart : part ≠ 0) :
    exec (.query st tag [a, i, part]) s = .next (placeReply st 0x02 tag (.answer .badField 1) (afterTaking st s)) := by
  have hpos : part.toNat ≠ 0 := fun h => hpart (BitVec.eq_of_toNat_eq h)
  have h := query_beyond hc hp ht (by omega)
  rwa [hone] at h

end

/-! ### LEAD: whether a code is set (R87) -/

theorem codeSet_byte (c : BitVec 16) : flagByte (decide (c ≠ 0)) = if c = 0 then 0 else 1 := by
  unfold flagByte
  by_cases h : c = 0
  · simp [h]
  · simp

/-! ### TRANSPORT: the horizon (R92, R103) -/

theorem foldl_max_spec {α : Type} (f : α → Nat) (xs : List α) (n : Nat) :
    n ≤ xs.foldl (fun h x => max h (f x)) n ∧ (∀ x ∈ xs, f x ≤ xs.foldl (fun h x => max h (f x)) n) ∧
      (xs.foldl (fun h x => max h (f x)) n = n ∨ ∃ x ∈ xs, xs.foldl (fun h x => max h (f x)) n = f x) := by
  induction xs generalizing n with
  | nil => simp
  | cons y ys ih =>
    obtain ⟨hinit, hall, hreached⟩ := ih (max n (f y))
    rw [List.foldl_cons]
    refine ⟨(le_max_left _ _).trans hinit, ?_, ?_⟩
    · rintro x (_ | ⟨_, hx⟩)
      · exact (le_max_right _ _).trans hinit
      · exact hall x hx
    · rcases hreached with h | ⟨x, hx, h⟩
      · rw [h]
        rcases max_choice n (f y) with hm | hm
        · exact .inl hm
        · exact .inr ⟨y, List.mem_cons_self, hm⟩
      · exact .inr ⟨x, List.mem_cons_of_mem _ hx, h⟩

/-- A lane that is not OFF and whose offset is not above 0 is ahead of the house by `x` u (R92). -/
@[reducible] def aheadBy (s : State) (l : LaneId) (x : Nat) : Prop := (s.lane l).state ≠ .off ∧
  (s.lane l).settings.offset ≤ 0 ∧ x = (s.lane l).settings.offset.natAbs * s.grid.appliedInc

theorem laneHorizon_ahead {s : State} {l : LaneId} {x : Nat} (h : aheadBy s l x) : laneHorizon s.grid (s.lane l) = x := by
  obtain ⟨hstate, hoff, rfl⟩ := h
  have habs : (-(s.lane l).settings.offset).toNat = (s.lane l).settings.offset.natAbs := by omega
  rw [laneHorizon, if_pos ⟨hstate, hoff⟩, projection, habs]

theorem laneHorizon_cases (s : State) (l : LaneId) :
    laneHorizon s.grid (s.lane l) = 0 ∨ aheadBy s l (laneHorizon s.grid (s.lane l)) := by
  by_cases h : (s.lane l).state ≠ .off ∧ (s.lane l).settings.offset ≤ 0
  · exact .inr ⟨h.1, h.2, laneHorizon_ahead ⟨h.1, h.2, rfl⟩⟩
  · exact .inl (if_neg h)

/-- The horizon is the greatest of what the lanes are ahead by, or 0 (R92). -/
theorem horizon_spec (s : State) : (∀ l x, aheadBy s l x → x ≤ horizon s) ∧
    (horizon s = 0 ∨ ∃ l, aheadBy s l (horizon s)) := by
  obtain ⟨-, hall, hreached⟩ := foldl_max_spec (laneHorizon s.grid) s.lanes.toList 0
  have hmem : ∀ l, s.lane l ∈ s.lanes.toList := fun l => by
    rw [lanes_toList]
    exact List.mem_map_of_mem (List.mem_finRange l)
  refine ⟨fun l x hx => laneHorizon_ahead hx ▸ hall _ (hmem l), ?_⟩
  rcases hreached with h | ⟨ln, hln, h⟩
  · exact .inl h
  · rw [lanes_toList] at hln
    obtain ⟨l, -, rfl⟩ := List.mem_map.1 hln
    rcases laneHorizon_cases s l with hzero | hahead
    · exact .inl (h.trans hzero)
    · exact .inr ⟨l, (show horizon s = laneHorizon s.grid (s.lane l) from h) ▸ hahead⟩

/-! ### PORT: the lanes that use it (R172) -/

theorem laneBits_testBit {ls : List LaneId} (h : ls.SortedLT) (l : LaneId) :
    (laneBits ls).testBit l.val = decide (l ∈ ls) := by
  have hbits : (laneBits ls).bitIndices = ls.map Fin.val := by
    have hsorted : (ls.map Fin.val).SortedLT :=
      (h.pairwise.map Fin.val fun _ _ hlt => hlt).sortedLT
    rw [← Nat.bitIndices_sum_map_two_pow hsorted, List.map_map]
    rfl
  rw [Bool.eq_iff_iff, ← Nat.mem_bitIndices, hbits]
  simp [Fin.val_inj]

theorem portLanes_testBit (s : State) (p : PortId) (l : LaneId) : (laneBits (portLanes s p)).testBit l.val =
    decide ((s.lane l).state ≠ .off ∧ (s.lane l).settings.kind = .stream ∧ (s.lane l).settings.target = .port p) := by
  have hsorted : (portLanes s p).SortedLT := ((List.sortedLT_finRange 16).pairwise.filter _).sortedLT
  rw [laneBits_testBit hsorted]
  simp [portLanes]

/-! ### PIN: its holder and the level it shows (R154, R163) -/

section
variable {s : State} {p : PinId} {holder : Option LaneId}
  (h : ∀ l, holder = some l ↔ (s.pin p).function = .lane ∧ holdsPin s l p)
include h

theorem holdingLane_eq : holdingLane s p = holder := by
  unfold holdingLane
  split
  · next hf =>
    cases hh : pinHolder s p with
    | some l =>
      have hl : holdsPin s l p := by simpa [holdsPin] using List.find?_some hh
      exact ((h l).2 ⟨hf, hl⟩).symm
    | none =>
      cases holder with
      | none => rfl
      | some l =>
        have hnone := List.find?_eq_none.1 hh l (List.mem_finRange l)
        exact absurd ((h l).1 rfl).2 (by simpa [holdsPin] using hnone)
  · next hf =>
    cases holder with
    | none => rfl
    | some l => exact absurd ((h l).1 rfl).1 hf

theorem governingPolarity_eq : governingPolarity s p =
    (holder.map fun l => (s.lane l).settings.polarity).getD (s.pin p).polarity := by
  rw [← holdingLane_eq h]
  unfold governingPolarity holdingLane
  split
  · cases pinHolder s p <;> rfl
  · rfl

theorem pinPart_eq : pinPart p s =
    [functionByte (s.pin p).function, flagByte (s.pin p).level, polarityByte (s.pin p).polarity] ++
      sourceBytes (s.pin p).source ++
      [if (holder.map fun l => (s.lane l).settings.polarity).getD (s.pin p).polarity = .inverted then
        flagByte !(s.pin p).level else flagByte (s.pin p).level, flagByte (s.pin p).timing] ++
      optional 4 be32 (s.pin p).activeUntil ++ optional 1 (fun l : LaneId => be1 l.val) holder := by
  have hshown : flagByte (pinShown s p) = if governingPolarity s p = .inverted then flagByte !(s.pin p).level
      else flagByte (s.pin p).level := by
    unfold pinShown
    cases governingPolarity s p <;> rfl
  unfold pinPart
  rw [hshown, governingPolarity_eq h, holdingLane_eq h]

end

/-! ### The obligation -/

/-- Settles O56, topic by topic over `query_reports`: each part's contents are the model's byte for byte, the horizon is
`horizon_spec`, the users of a port are `portLanes_testBit`, and the holder of a pin is `holdingLane_eq`. -/
theorem queryReports : Obligations.QueryReports := by
  intro s st tag a i part hc s1 refused reports terms entry latch record horizonIs boundary g cleared
  refine ⟨query_absent hc, fun hp => ?_⟩
  have hlatch : latchBytes s.lead.latch = latch := by
    simp only [latch]
    cases s.lead.latch <;> rfl
  have hentry : ∀ e, entryBytes e = entry e := by rintro (_ | e) <;> rfl
  have hboundary : boundaryBytes s.grid = boundary := by
    funext d
    obtain ⟨_, _ | _⟩ := d <;> rfl
  refine ⟨fun h => query_unread hc hp (readTopic_none h), ?_, ?_, ?_, ?_, ?_, ?_, ?_, ?_, ?_, ?_, ?_, ?_, ?_, ?_, ?_, ?_,
    ?_, ?_, ?_, ?_⟩
  · rintro rfl h
    exact query_beyond hc hp (t := .grid) rfl h
  · rintro rfl rfl
    exact query_reports hc hp (t := .grid) (n := 0) rfl rfl (by decide) rfl rfl rfl rfl rfl
  · rintro rfl rfl
    refine query_reports hc hp (t := .grid) (n := 1) rfl rfl (by decide) rfl rfl rfl ?_ rfl
    refine congrArg₂ (· ++ ·) (?_ : optional 8 glideBytes s.grid.glide = _) (?_ : trimBytes s.grid.trim = _)
    · cases s.grid.glide <;> rfl
    · cases s.grid.trim <;> rfl
  · rintro rfl h
    exact query_beyond hc hp (t := .lead) rfl h
  · rintro rfl rfl
    refine query_reports hc hp (t := .lead) (n := 0) rfl rfl (by decide) rfl rfl rfl ?_ rfl
    rw [← hlatch, ← hentry]
    show leadPart0 s = _
    unfold leadPart0
    rw [codeSet_byte]
    cases s.lead.handover <;> rfl
  · rintro rfl rfl
    refine query_reports hc hp (t := .lead) (n := 1) rfl rfl (by decide) rfl rfl rfl ?_ rfl
    rw [← hlatch, ← hentry, ← hentry, ← hentry]
    rfl
  · rintro rfl rfl
    refine query_reports hc hp (t := .lead) (n := 2) rfl rfl (by decide) rfl rfl rfl ?_ rfl
    rw [← hlatch]
    rfl
  · rintro rfl rfl
    refine query_reports hc hp (t := .lead) (n := 3) rfl rfl (by decide) rfl rfl rfl ?_ rfl
    rw [← hlatch]
    rfl
  · rintro rfl h
    exact query_beyond_one hc hp (t := .transport) rfl rfl h
  · rintro rfl rfl
    exact ⟨horizon s, horizon_spec s,
      query_reports hc hp (t := .transport) (n := 0) rfl rfl (by decide) rfl rfl rfl rfl rfl⟩
  · intro l ha hl ln x
    have ht := readTopic_lane (part := part) ha hl
    have hi : indexByte (.lane l) = i := by simp [indexByte, hl]
    refine ⟨query_beyond hc hp ht, ?_, ?_, ?_, ?_⟩
    · rintro rfl
      exact query_reports hc hp (n := 0) ht rfl (by decide : 0 < 4) ha.symm hi rfl rfl rfl
    · rintro rfl
      refine query_reports hc hp (n := 1) ht rfl (by decide : 1 < 4) ha.symm hi rfl ?_ rfl
      rw [← hboundary]
      show lanePart1 s.grid (s.lane l) = _
      unfold lanePart1
      rcases (s.lane l).activation with _ | _ | _ <;> rfl
    · rintro rfl
      refine query_reports hc hp (n := 2) ht rfl (by decide : 2 < 4) ha.symm hi rfl ?_ rfl
      rw [← hboundary]
      rfl
    · rintro rfl
      refine query_reports hc hp (n := 3) ht rfl (by decide : 3 < 4) ha.symm hi rfl ?_ rfl
      show lanePart3 (s.lane l) = _
      unfold lanePart3
      rcases (s.lane l).owed with _ | ⟨k, _ | b⟩ <;> rfl
  · intro p ha hidx x
    have ht := readTopic_port (part := part) ha hidx
    have hi : indexByte (.port p) = i := by simp [indexByte, hidx]
    refine ⟨query_beyond_one hc hp ht rfl, ?_⟩
    rintro rfl
    exact ⟨laneBits (portLanes s p), query_reports hc hp (n := 0) ht rfl (by decide : 0 < 1) ha.symm hi rfl rfl rfl,
      portLanes_testBit s p⟩
  · intro p ha hidx x
    have ht := readTopic_pin (part := part) ha hidx
    have hi : indexByte (.pin p) = i := by simp [indexByte, hidx]
    refine ⟨query_beyond_one hc hp ht rfl, ?_⟩
    rintro rfl holder hholder inverted
    refine query_reports hc hp (n := 0) ht rfl (by decide : 0 < 1) ha.symm hi rfl ?_ rfl
    refine (pinPart_eq hholder).trans ?_
    simp only [x]
    cases holder <;> rcases (s.pin p).source with _ | _ | _ | _ | _ | _ | _ | k | _ <;> rfl
  · intro j ha hidx x
    have ht := readTopic_input (part := part) ha hidx
    have hi : indexByte (.input j) = i := by simp [indexByte, hidx]
    refine ⟨query_beyond_one hc hp ht rfl, ?_⟩
    rintro rfl
    refine query_reports hc hp (n := 0) ht rfl (by decide : 0 < 1) ha.symm hi rfl ?_ rfl
    show inputPart j s = _
    obtain ho | ⟨o, ho⟩ := Option.eq_none_or_eq_some (s.input j).lastOutcome
    · simp only [inputPart, x, ho]
    · simp only [inputPart, x, ho]
  · rintro rfl h
    exact query_beyond_one hc hp (t := .link) rfl rfl h
  · rintro rfl rfl
    refine query_reports hc hp (t := .link) (n := 0) rfl rfl (by decide) rfl rfl rfl ?_ rfl
    show linkPart st (afterTaking st s) = _
    unfold linkPart
    rewrite [afterTaking_present, afterTaking_present, afterTaking_present, afterTaking_present]
    rfl
  · rintro rfl h
    exact query_beyond_one hc hp (t := .reference) rfl rfl h
  · rintro rfl rfl
    exact query_reports hc hp (t := .reference) (n := 0) rfl rfl (by decide) rfl rfl rfl rfl rfl
  · rintro rfl h
    exact query_beyond_one hc hp (t := .store) rfl rfl h
  · rintro rfl rfl
    exact query_reports hc hp (t := .store) (n := 0) rfl rfl (by decide) rfl rfl rfl rfl rfl

end Sys2Proof.Machine
end

section
/-! PROOF. The links, the ports, the follower records and the reference, each kept whatever the other blocks hold: edits
of one block, notices and requests, the grid, the transport and the lead (R33 to R38, R47, R60, R84, R164, R178). -/

namespace Sys2Proof.Machine

/-- Each of the four blocks keeps its own ranges and agreements from one state to another, whatever the others hold. -/
structure EachKept (a t : State) : Prop where
  links : LinksOk a → LinksOk t
  ports : PortsOk a → PortsOk t
  followers : FollowersOk a → FollowersOk t
  fru : FruOk a → FruOk t

namespace EachKept

theorem refl (a : State) : EachKept a a := ⟨id, id, id, id⟩

theorem trans {a t u : State} (h : EachKept a t) (h' : EachKept t u) : EachKept a u :=
  ⟨h'.links ∘ h.links, h'.ports ∘ h.ports, h'.followers ∘ h.followers, h'.fru ∘ h.fru⟩

section Edits

variable {a t : State} (h : EachKept a t)
include h

/-! ### Edits of one block -/

/-- Nothing that a block speaks of is edited. -/
theorem edit {u : State} (phase : u.phase = t.phase := by simp) (fru : u.fru = t.fru := by simp)
    (followers : u.followers = t.followers := by simp) (ports : u.ports = t.ports := by simp)
    (links : u.links = t.links := by simp) : EachKept a u where
  links ha := (h.links ha).of_eq fun i => by simp [State.link, links]
  ports ha := (h.ports ha).of_eq fun p => by simp [State.port, ports]
  followers ha := (h.followers ha).of_eq (fun i => by simp [State.follower, followers])
    fun i hp he => by simpa [State.link, links] using And.intro hp he
  fru ha := (h.fru ha).of_eq fru phase

theorem withLinks (v : Vector Link 4) (hk : ∀ i : Station, LinkStays (t.link i) v[i]) :
    EachKept a { t with links := v } where
  links ha := ⟨fun i => (hk i).ok ((h.links ha).link i)⟩
  ports ha := (h.ports ha).of_eq fun _ => rfl
  followers ha := (h.followers ha).of_eq (fun _ => rfl) fun i hp he => ⟨(hk i).present ▸ hp, (hk i).empty ▸ he⟩
  fru ha := (h.fru ha).of_eq rfl rfl

/-- A link's items changed: a station ABSENT after that, with no emptying reported, was so before. -/
theorem setLinkAnew {i : Station} {k : Link} (hk : LinkOk (t.link i) → LinkOk k)
    (he : k.present = false → k.emptyReported = false →
      (t.link i).present = false ∧ (t.link i).emptyReported = false) : EachKept a (t.setLink i k) where
  links ha := ⟨fun j => by
    rw [setLink_link]
    split
    exacts [hk ((h.links ha).link i), (h.links ha).link j]⟩
  ports ha := (h.ports ha).of_eq fun _ => rfl
  followers ha := (h.followers ha).of_eq (fun _ => rfl) fun j hp hr => by
    rw [setLink_link] at hp hr
    split at hp
    · next e => subst e; rw [if_pos rfl] at hr; exact he hp hr
    · next e => rw [if_neg e] at hr; exact ⟨hp, hr⟩
  fru ha := (h.fru ha).of_eq rfl rfl

theorem setLink {i : Station} {k : Link} (hk : LinkStays (t.link i) k) : EachKept a (t.setLink i k) :=
  h.setLinkAnew hk.ok fun hp he => ⟨hk.present ▸ hp, hk.empty ▸ he⟩

/-- Every port changed in one way that keeps its bounds. -/
theorem mapPorts (f : PortId → Port → Port) (hf : ∀ p x, PortOk x → PortOk (f p x)) :
    EachKept a { t with ports := mapEach t.ports f } where
  links ha := (h.links ha).of_eq fun _ => rfl
  ports ha := ⟨fun p => by
    rw [show State.port { t with ports := mapEach t.ports f } p = f p (t.port p) from mapEach_get _ _ _]
    exact hf p _ ((h.ports ha).port p)⟩
  followers ha := (h.followers ha).of_eq (fun _ => rfl) fun _ hp he => ⟨hp, he⟩
  fru ha := (h.fru ha).of_eq rfl rfl

theorem setPort {p : PortId} {x : Port} (hx : PortOk (t.port p) → PortOk x) : EachKept a (t.setPort p x) where
  links ha := (h.links ha).of_eq fun _ => rfl
  ports ha := ⟨fun q => by
    rw [setPort_port]
    split
    exacts [hx ((h.ports ha).port p), (h.ports ha).port q]⟩
  followers ha := (h.followers ha).of_eq (fun _ => rfl) fun _ hp he => ⟨hp, he⟩
  fru ha := (h.fru ha).of_eq rfl rfl

/-- A record written, which stays empty where its station is ABSENT. -/
theorem setFollower {i : Station} {x : Follower} (hx : FollowerOk (t.follower i) → FollowerOk x)
    (he : t.follower i = Follower.empty → (t.link i).present = false → x = Follower.empty) :
    EachKept a (t.setFollower i x) where
  links ha := (h.links ha).of_eq fun _ => rfl
  ports ha := (h.ports ha).of_eq fun _ => rfl
  followers ha := by
    obtain ⟨hok, habs⟩ := h.followers ha
    refine ⟨fun j => ?_, fun j hp hr => ?_⟩
    · rw [setFollower_follower]
      split
      exacts [hx (hok i), hok j]
    · have hold := habs j hp hr
      rw [setFollower_follower]
      split
      · next e => subst e; exact he hold hp
      · exact hold
  fru ha := (h.fru ha).of_eq rfl rfl

/-- Every record changed in one way that keeps its bounds and an empty record. -/
theorem mapFollowers (f : Station → Follower → Follower) (hf : ∀ i x, FollowerOk x → FollowerOk (f i x))
    (he : ∀ i, f i Follower.empty = Follower.empty) :
    EachKept a { t with followers := mapEach t.followers f } where
  links ha := (h.links ha).of_eq fun _ => rfl
  ports ha := (h.ports ha).of_eq fun _ => rfl
  followers ha := by
    obtain ⟨hok, habs⟩ := h.followers ha
    have hget : ∀ i : Station, State.follower { t with followers := mapEach t.followers f } i = f i (t.follower i) :=
      fun i => mapEach_get _ _ _
    refine ⟨fun i => by rw [hget]; exact hf i _ (hok i), fun i hp hr => ?_⟩
    rw [hget, habs i hp hr]
    exact he i
  fru ha := (h.fru ha).of_eq rfl rfl

/-- The reference items, once frames have begun. -/
theorem withFru {f : Fru} (hp : t.phase = .running) (hf : FruFits t.fru → FruFits f) :
    EachKept a { t with fru := f } where
  links ha := (h.links ha).of_eq fun _ => rfl
  ports ha := (h.ports ha).of_eq fun _ => rfl
  followers ha := (h.followers ha).of_eq (fun _ => rfl) fun _ hp he => ⟨hp, he⟩
  fru ha := (hf (h.fru ha).fits).ok hp

theorem foldl {α : Type} {f : State → α → State} (hf : ∀ t x, EachKept a t → EachKept a (f t x)) (l : List α) :
    EachKept a (l.foldl f t) := by
  induction l generalizing t with
  | nil => exact h
  | cons x rest ih => exact ih (hf t x h)

/-! ### Notices, indicators and the taking of a request -/

theorem raiseHouse (r : Reason) : EachKept a (raiseHouse r t) :=
  h.withLinks _ fun i => by
    show LinkStays (t.link i) ((Machine.raiseHouse r t).link i)
    rw [raiseHouse_link]
    split
    exacts [linkStays_placeHouse ‹_› _, LinkStays.refl _]

theorem showSource (x : Source) : EachKept a (showSource x t) := h.edit

theorem pulseSource (x : Source) : EachKept a (pulseSource x t) := h.edit

theorem setLatch (st : Station) (kind : Byte) : EachKept a (setLatch st kind t) := by
  unfold Machine.setLatch
  exact h.edit

theorem placeReply (st : Station) (kind tag : Byte) (r : Reply) : EachKept a (placeReply st kind tag r t) := by
  cases r with
  | answer code detail => exact h.setLink (linkStays_placeAnswer rfl _)
  | report contents => exact h.setLink (linkStays_placeAnswer rfl _)
  | deferred => exact h

theorem afterTaking (st : Station) : EachKept a (afterTaking st t) := by
  have hk : LinkStays (t.link st) { t.link st with rxQueue := (t.link st).rxQueue.tail } :=
    ⟨fun hk => { hk with
      rxQueue := by have := hk.rxQueue; simp only [List.length_tail]; omega
      bodies := fun b hb => hk.bodies b (List.mem_of_mem_tail hb) }, rfl, rfl, rfl⟩
  exact (h.setLink hk).edit rfl rfl rfl rfl rfl

theorem takeRequest {st : Station} {kind tag : Byte} {f : List Byte} {lengths : List Nat}
    {owner : State → State × Reply} (ho : ∀ u, EachKept a u → u.phase = .running → EachKept a (owner u).1) :
    EachKept a (takeRequest st kind tag f lengths owner t) := by
  have ht := h.afterTaking st
  rcases takeRequest_cases st kind tag f lengths owner t with e | ⟨hp, r, e | e⟩ <;> rw [e]
  · exact h
  · exact (ho _ ht hp).placeReply _ _ _ _
  · exact ht.placeReply _ _ _ _

theorem whenRunning {f : State → State} (hf : t.phase = .running → EachKept a (f t)) :
    EachKept a (whenRunning f t) := by
  unfold Machine.whenRunning
  split
  · next hp => exact hf hp
  · exact h

/-! ### The grid, the transport and the lead -/

theorem handoverTakes : EachKept a (handoverTakes t) := h.edit

theorem handoverAtCrossing : EachKept a (handoverAtCrossing t) := h.edit

theorem transportReached : EachKept a (transportReached t) := by
  unfold Machine.transportReached
  split
  · exact h
  · split
    exacts [(h.edit.showSource _).raiseHouse _, h]

theorem tcCrossing : EachKept a (tcCrossing t) := by
  have hbar : EachKept a (countSongBar t) := h.edit
  exact hbar.transportReached

theorem pdCrossing : EachKept a (pdCrossing t) := h.edit

theorem startGrid (v e : Nat) : EachKept a (startGrid v e t) := by
  have hstart : EachKept a { t with grid := startedGrid v e t.grid } := h.edit
  have hlanes : EachKept a { Machine.handoverTakes { t with grid := startedGrid v e t.grid } with
      lanes := mapEach (Machine.handoverTakes { t with grid := startedGrid v e t.grid }).lanes fun _ ln => startLane ln } :=
    hstart.handoverTakes.edit
  exact hlanes.tcCrossing.pdCrossing

theorem gridFrame (b : Bool) : EachKept a (gridFrame b t) := by
  have hcross : ∀ g, EachKept a (beatCrossing b { t with grid := g }) := by
    intro g
    have hstages : EachKept a (crossingStages { t with grid := numberBeat g }) := h.edit
    unfold beatCrossing
    dsimp only
    repeat' split
    · exact (hstages.tcCrossing.raiseHouse _).pdCrossing
    · exact (hstages.raiseHouse _).tcCrossing.pdCrossing
    · exact hstages.tcCrossing.pdCrossing
  rcases gridFrame_cases b t with e | ⟨-, e⟩ | ⟨-, e⟩ <;> rw [e]
  · exact h
  · exact h.edit
  · exact hcross _

theorem removePhaseError (st : Station) : EachKept a (removePhaseError st t) :=
  h.setFollower FollowerOk.withoutPhaseError fun he _ => by rw [he]; rfl

theorem gridHandOff : EachKept a (gridHandOff t) := by
  have hrun : EachKept a { t with grid := { t.grid with state := .running } } := h.edit
  unfold Machine.gridHandOff
  repeat' split
  · exact h.edit
  · exact h
  · exact h.startGrid _ _
  · exact h
  · exact hrun.handoverTakes
  · exact hrun

theorem changeHolder (new : Option LeadEntry) (q : List LeadEntry) (r : Reason) :
    EachKept a (changeHolder new q r t) := by
  have hphase : EachKept a (phaseHandOff t) := by
    unfold phaseHandOff
    split
    exacts [h.removePhaseError _, h]
  exact ((hphase.edit.gridHandOff.showSource _).showSource _).raiseHouse _

theorem leaveLead (r : Reason) : EachKept a (leaveLead r t) := by
  unfold Machine.leaveLead
  split <;> exact h.changeHolder _ _ _

theorem leadLapse (st : Station) : EachKept a (leadLapse st t) := by
  have hlink : EachKept a (t.setLink st { t.link st with lapseReported := false }) :=
    h.setLinkAnew (fun hk => { hk with returned := fun e => ⟨rfl, (hk.returned e).2⟩ }) fun hp he => ⟨hp, he⟩
  unfold Machine.leadLapse lapseStation
  repeat' split
  · exact hlink.leaveLead _
  · exact hlink.edit.raiseHouse _
  · exact hlink
  · exact h

/-- R60: the record is empty where its link no longer reports a departure. -/
theorem emptyFollower (st : Station) : EachKept a (emptyFollower st t) := by
  unfold Machine.emptyFollower
  split
  · have hempty : EachKept a (t.setFollower st Follower.empty) := h.setFollower (fun _ => followerOk_empty) fun _ _ => rfl
    refine ⟨fun ha => ⟨fun j => ?_⟩, fun ha => (h.ports ha).of_eq fun _ => rfl, fun ha => ?_, fun ha => (h.fru ha).of_eq rfl rfl⟩
    · have hk := (h.links ha).link
      show LinkOk ((t.setLink st { t.link st with emptyReported := false }).link j)
      rw [setLink_link]
      split
      · exact { hk st with returned := fun e => ⟨((hk st).returned e).1, rfl⟩ }
      · exact hk j
    · obtain ⟨hok, habs⟩ := hempty.followers ha
      refine ⟨hok, fun j hp hr => ?_⟩
      by_cases e : j = st
      · subst e
        exact setFollower_follower_same _ _ _
      · have hlink : ((t.setLink st { t.link st with emptyReported := false }).link j) = t.link j :=
          setLink_link_ne _ _ _ _ e
        exact habs j (hlink ▸ hp) (hlink ▸ hr)
  · exact h

theorem replaceTerms (st : Station) (x : Terms) : EachKept a (replaceTerms st x t) := by
  have hterms : ∀ g y, EachKept a { t with grid := g, lead := y } := fun _ _ => h.edit
  unfold Machine.replaceTerms
  dsimp only
  split
  · split
    exacts [(hterms _ _).startGrid _ _, hterms _ _]
  · split
    exacts [(hterms _ _).handoverTakes, hterms _ _]

theorem takeLeadOwner (st : Station) (f : List Byte) : EachKept a (takeLeadOwner st f t).1 := by
  unfold Machine.takeLeadOwner takeLeadWith
  repeat' split
  · exact h
  · exact h
  · exact h.changeHolder _ _ _
  · exact h.replaceTerms _ _
  · exact h.edit.raiseHouse _

theorem yieldOwner (st : Station) : EachKept a (yieldOwner st t).1 := by
  unfold Machine.yieldOwner
  repeat' split
  · exact h
  · exact h.leaveLead _
  · exact h.edit.raiseHouse _
  · exact h

theorem seizeOwner (st : Station) (f : List Byte) : EachKept a (seizeOwner st f t).1 := by
  unfold Machine.seizeOwner seizeWith
  repeat' split
  · exact h
  · exact h
  · exact h.setLatch _ _
  · exact h
  · exact h.changeHolder _ _ _
  · exact h
  · exact h.changeHolder _ _ _

theorem seizeCodeSetOwner (st : Station) (f : List Byte) : EachKept a (seizeCodeSetOwner st f t).1 := by
  unfold Machine.seizeCodeSetOwner
  repeat' split
  · exact h
  · exact h.setLatch _ _
  · exact h
  · exact h.edit

theorem tempoOwner (st : Station) (f : List Byte) : EachKept a (tempoOwner st f t).1 := by
  have hdrop : EachKept a (dropHandover t) := h.edit rfl rfl rfl rfl rfl
  have htempo : ∀ v m c, EachKept a (tempoWith v m c t).1 := by
    intro v m c
    unfold tempoWith
    split
    exacts [hdrop.startGrid _ _, hdrop.edit]
  unfold Machine.tempoOwner
  repeat' split
  exacts [h, h, htempo _ _ _]

theorem nudgeOwner (st : Station) (f : List Byte) : EachKept a (nudgeOwner st f t).1 := by
  unfold Machine.nudgeOwner
  split
  · exact h
  · split
    · exact h
    · dsimp only
      split
      exacts [h, h.edit]

theorem setMeterOwner (st : Station) (f : List Byte) : EachKept a (setMeterOwner st f t).1 := by
  unfold Machine.setMeterOwner meterAtOnce meterPending
  dsimp only
  repeat' split
  · exact h
  · exact h
  · exact h.edit
  · exact h.edit.raiseHouse _
  · exact h.edit
  · exact h
  · exact h.edit

theorem transportChange (x : Transport) : EachKept a (transportChange x t) := (h.edit.showSource _).raiseHouse _

theorem onLanes (f : Lane → Lane) : EachKept a (onLanes f t) := by
  unfold Machine.onLanes
  exact h.edit

theorem fixBoundary (m : Measured) (k : TransportKind) (q : Quantum) (x : TransportState) :
    EachKept a (fixBoundary m k q x t).1 := (h.onLanes _).transportChange _

theorem cancelBoundary (f : Beat → Lane → Lane) (x : TransportState) : EachKept a (cancelBoundary f x t).1 := by
  unfold Machine.cancelBoundary
  dsimp only
  split
  exacts [(h.onLanes _).transportChange _, h.transportChange _]

theorem transportOwner (st : Station) (b : TransportBody) : EachKept a (transportOwner st b t).1 := by
  unfold Machine.transportOwner transportWith
  repeat' split
  · exact h
  · exact h
  · exact h.fixBoundary _ _ _ _
  · exact h
  · exact h.cancelBoundary _ _
  · exact h
  · exact h.fixBoundary _ _ _ _
  · exact h
  · exact h.cancelBoundary _ _
  · exact h
  · exact h

theorem handoverMoment : EachKept a (handoverMoment t) := by
  unfold Machine.handoverMoment
  split
  exacts [h, h.handoverAtCrossing]

theorem transportMoment : EachKept a (transportMoment t) := by
  unfold Machine.transportMoment
  split
  exacts [h, h.transportReached]

end Edits

end EachKept

end Sys2Proof.Machine
end

section
/-! PROOF. The links, the ports, the follower records and the reference, each kept by the lanes, the marks, the characters,
the frame event, the switches and the start-up, and so by every step (O4). -/

namespace Sys2Proof.Machine

namespace EachKept

section Edits

variable {a t : State} (h : EachKept a t)
include h

/-! ### The lanes, the pins and the ports -/

theorem releaseTarget (x : Settings) (e : Bool) : EachKept a (releaseTarget x e t) := by
  rcases releaseTarget_cases x e t with ⟨p, -, -, eq⟩ | ⟨p, -, -, -, eq⟩ | ⟨-, eq⟩ <;> rw [eq]
  · exact h.edit
  · exact h.setPort PortOk.transport
  · exact h

theorem setLane (l : LaneId) (x : Lane) : EachKept a (t.setLane l x) := h.edit

theorem setPin (p : PinId) (x : Pin) : EachKept a (t.setPin p x) := h.edit

theorem disableLane (l : LaneId) : EachKept a (disableLane l t) := (h.setLane l _).releaseTarget _ _

theorem putWalked (l : LaneId) (w : Walked) : EachKept a (putWalked l w t) := by
  unfold Machine.putWalked
  split
  exacts [h.setLane l _, (h.setLane l _).releaseTarget _ _]

theorem deliver (l : LaneId) (x : Settings) (e : Emitted) : EachKept a (deliver l x e t) := by
  unfold Machine.deliver
  split
  · exact h.setPin _ _
  · exact h.setPort PortOk.emission
  · split
    · exact h
    · next hn => exact h.setLink (linkStays_placeBeat (by simp at hn; exact hn.2) _)
  · exact h

theorem laneFrame (l : LaneId) : EachKept a (laneFrame l t) := by
  have hwalk : EachKept a (walkLane l t) := h.putWalked l _
  unfold Machine.laneFrame emitLane
  split
  · exact h
  · split
    · exact hwalk
    · split
      exacts [(hwalk.setLane l _).deliver _ _ _, hwalk]

theorem lanesFrame (named : List LaneId) : EachKept a (lanesFrame named t) := h.foldl (fun _ l hu => hu.laneFrame l) _

/-- The moments of a lane take the item its walk takes next, or none (log entry 8). -/
theorem activationMoment (l : LaneId) : EachKept a (activationMoment l t) := by
  unfold Machine.activationMoment
  repeat' split
  exacts [h.putWalked _ _, h, h]

theorem stagedMoment (l : LaneId) : EachKept a (stagedMoment l t) := by
  unfold Machine.stagedMoment
  repeat' split
  exacts [h.putWalked _ _, h, h]

theorem disableMoment (l : LaneId) : EachKept a (disableMoment l t) := by
  unfold Machine.disableMoment
  repeat' split
  exacts [h.putWalked _ _, h, h]

theorem withLane {st : Station} {f : List Byte} {act : LaneId → State → State × Reply}
    (ha : ∀ l, EachKept a (act l t).1) : EachKept a (withLane st f act t).1 := by
  unfold Machine.withLane
  repeat' split
  exacts [h, h, ha _]

theorem owned {st : Station} {l : LaneId} {kind : Byte} {force : Bool} {code : BitVec 16} {act : State → State × Reply}
    (ha : EachKept a (act t).1) : EachKept a (owned st l kind force code act t).1 := by
  unfold Machine.owned
  split
  · next r hr =>
    unfold ownerRefusal at hr
    repeat' split at hr
    all_goals cases hr
    exacts [h, h, h.setLatch _ _]
  · exact ha

theorem laneSetOwner (st : Station) (f : List Byte) : EachKept a (laneSetOwner st f t).1 :=
  h.withLane fun l => h.owned (by
    unfold laneSetChecked laneSetWith
    dsimp only
    repeat' split
    exacts [h, h.setLane _ _, h.setLane _ _, h, h, h])

theorem laneEnableOwner (st : Station) (f : List Byte) : EachKept a (laneEnableOwner st f t).1 :=
  h.withLane fun l => h.owned (by
    have henable : EachKept a (enableLane l t) := by
      unfold enableLane takeTarget
      dsimp only
      split
      exacts [(h.setLane l _).setPin _ _, h.setLane l _]
    unfold laneEnableChecked
    dsimp only
    repeat' split
    exacts [h, h, henable, h, h.setLane _ _, h])

theorem laneDisableOwner (st : Station) (f : List Byte) : EachKept a (laneDisableOwner st f t).1 :=
  h.withLane fun l => h.owned (by
    unfold laneDisableChecked laneDisableWith
    repeat' split
    exacts [h, h, h.disableLane _, h.disableLane _, h.setLane _ _, h.setLane _ _])

theorem laneReleaseOwner (st : Station) (f : List Byte) : EachKept a (laneReleaseOwner st f t).1 :=
  h.withLane fun l => by
    unfold laneReleaseWith
    repeat' split
    exacts [h, h.setLane _ _, h]

theorem pinSetOwner (st : Station) (f : List Byte) : EachKept a (pinSetOwner st f t).1 := by
  unfold Machine.pinSetOwner
  repeat' split
  exacts [h, h, h, h, h, h.setPin _ _]

theorem portSetOwner (st : Station) (f : List Byte) : EachKept a (portSetOwner st f t).1 := by
  unfold Machine.portSetOwner
  repeat' split
  exacts [h, h, h, h, h, h.setPort fun hk => hk.withRate _]

/-! ### Marks -/

theorem phaseHandOffs {st : Station} (hp : (t.link st).present = true) (x : Terms) (stamp : Frame) (down : Bool) :
    EachKept a (phaseHandOffs st x stamp down t) := by
  have hf : EachKept a (t.setFollower st { t.follower st with
      phaseError := some (phaseError (positionAtStamp stamp t.fru.count t.grid)) }) :=
    h.setFollower (fun hx => hx.withPhaseError _) fun _ ha => by simp [hp] at ha
  rw [phaseHandOffs_eq]
  exact hf.edit

/-- A mark of a PRESENT station (R48, R54). -/
theorem beatMark {st : Station} (hp : (t.link st).present = true) (stamp : Frame) (down : Bool) :
    EachKept a (beatMark st stamp down t) := by
  have hf := h.setFollower (i := st) (x := followerAfter (markOutcome stamp (t.follower st)) stamp (t.follower st))
    (fun hx => hx.followerAfter stamp) fun _ ha => by simp [hp] at ha
  unfold Machine.beatMark markHandOffs
  dsimp only
  split
  · exact hf
  · next x _ =>
    have hfollow : ∀ o u, EachKept a u → EachKept a (followHandOff st x o u) := by
      intro o u hu
      unfold followHandOff
      repeat' split
      exacts [hu.edit, hu, hu]
    have hstart : ∀ o u, EachKept a u → EachKept a (startHandOff st x o stamp u) := by
      intro o u hu
      unfold startHandOff
      repeat' split
      exacts [hu.startGrid _ _, hu, hu]
    split
    · split
      exacts [hfollow _ _ (hf.phaseHandOffs hp _ _ _), hf]
    · exact hstart _ _ hf
    · exact hf

theorem markOwner (st : Station) (f : List Byte) : EachKept a (markOwner st f t).1 := by
  unfold Machine.markOwner
  split
  · exact h
  · next hp => exact h.beatMark (by simpa using hp) _ _

theorem inputSetOwner (st : Station) (f : List Byte) : EachKept a (inputSetOwner st f t).1 := by
  unfold Machine.inputSetOwner
  dsimp only
  repeat' split
  exacts [h, h, h, h, h.edit, h.edit]

theorem inputEdge (i : InputId) (c : LevelChange) : EachKept a (inputEdge i c t) := by
  have hin : ∀ x, EachKept a (t.setInput i x) := fun _ => h.edit
  unfold Machine.inputEdge deliveredMark
  dsimp only
  split
  · exact h
  · next st _ =>
    split
    · split
      · exact hin _
      · next hp =>
        have hp : (t.link st).present = true := by simpa using hp
        repeat' split
        exacts [(hin _).phaseHandOffs hp _ _ _, hin _, hin _, (hin _).beatMark hp _ _]
    · exact h

/-! ### The links and the store -/

theorem presenceOwner (st : Station) (f : List Byte) : EachKept a (presenceOwner st f t).1 := by
  unfold Machine.presenceOwner
  split
  · exact h
  · next hp =>
    have hp : (t.link st).present = true := by simpa using hp
    exact h.setLink ⟨fun hk => hk.withWindow hp (clampNat_range _ (by omega)), rfl, rfl, rfl⟩

theorem queryOwner (st : Station) (f : List Byte) : EachKept a (queryOwner st f t).1 := by
  have hclear : ∀ x, EachKept a (clearShown st x t) := by
    intro x
    cases x with
    | lead => exact h.edit.showSource .seizeFailed
    | port p => exact h.setPort fun hk => { hk with }
    | link => exact h.setLink ⟨fun hk => hk.cleared, rfl, rfl, rfl⟩
    | grid => exact h
    | transport => exact h
    | lane l => exact h
    | pin p => exact h
    | input i => exact h
    | reference => exact h
    | store => exact h
  unfold Machine.queryOwner
  repeat' split
  exacts [h, h, h, hclear _]

theorem takeUnknown (st : Station) (kind tag : Byte) (f : List Byte) : EachKept a (takeUnknown st kind tag f t) := by
  unfold Machine.takeUnknown
  split
  · exact h
  · rcases takeFrame_cases st (kind :: tag :: f) t with ht | ht <;> simp only [ht]
    exacts [h, (h.afterTaking st).placeReply _ _ _ _]

/-- R184: the departure waits to be acted on. -/
theorem departLink (st : Station) : EachKept a (departLink st t) := by
  rw [departLink_eq]
  have hk : EachKept a (t.setLink st (departed (t.link st))) :=
    h.setLinkAnew LinkOk.departed (by simp [departed])
  exact hk.edit

theorem breakMoment (st : Station) (x : Frame) : EachKept a (breakMoment st x t) := by
  have hk : EachKept a (t.setLink st { t.link st with receiver := .hunt, heldAtSpace := true }) :=
    h.setLink ⟨fun hk => { hk with receiver := trivial }, rfl, rfl, rfl⟩
  unfold Machine.breakMoment
  dsimp only
  repeat' split
  exacts [hk.departLink st, hk, h]

theorem expiryMoment (st : Station) : EachKept a (expiryMoment st t) := by
  unfold Machine.expiryMoment
  split
  exacts [h.departLink st, h]

theorem byteTaken (st : Station) (b : Byte)
    (hs : (byteTaken b (t.link st)).2 = true → (t.link st).lapseReported = false ∧ (t.link st).emptyReported = false) :
    EachKept a (t.setLink st (byteTaken b { t.link st with lastByte := t.fru.count }).1) := by
  have hend := byteTaken_frame_congr (k := t.link st) (k' := { t.link st with lastByte := t.fru.count }) b rfl
  refine h.setLinkAnew (fun hk => LinkOk.byteTaken { hk with } fun e => hs (hend ▸ e)) fun hp he => ?_
  rcases byteTaken_presence b { t.link st with lastByte := t.fru.count } with ⟨-, hpres⟩ | ⟨-, hpres, -, hempty⟩
  · simp [hpres] at hp
  · exact ⟨hpres ▸ hp, hempty ▸ he⟩

theorem characterTaken (st : Station) (c : LineChar) : EachKept a (characterTaken st c t) := by
  have hend : ∀ u b, EachKept a u →
      ((Machine.byteTaken b (u.link st)).2 = true → (u.link st).lapseReported = false ∧ (u.link st).emptyReported = false) →
      EachKept a (if (Machine.byteTaken b { u.link st with lastByte := u.fru.count }).2 = true then
        Machine.pulseSource (.linkActivity st) (u.setLink st (Machine.byteTaken b { u.link st with lastByte := u.fru.count }).1)
      else u.setLink st (Machine.byteTaken b { u.link st with lastByte := u.fru.count }).1) := by
    intro u b hu hs
    split
    exacts [(hu.byteTaken st b hs).pulseSource _, hu.byteTaken st b hs]
  unfold Machine.characterTaken
  split
  · exact h
  · cases c with
    | framingError => exact h.setLink ⟨fun hk => hk.framingError, rfl, rfl, rfl⟩
    | byte b =>
      dsimp only
      split
      · exact hend _ b ((h.leadLapse st).emptyFollower st) fun _ => settleDeparture_told st t
      · next hn => exact hend _ b h fun e => absurd e hn

theorem sceneSaveOwner (st : Station) (tag : Byte) : EachKept a (sceneSaveOwner st tag t).1 := by
  unfold Machine.sceneSaveOwner
  repeat' split
  exacts [h, h, h.edit]

theorem saveEnd (ok : Bool) : EachKept a (saveEnd ok t) := by
  have hwritten : ∀ x, EachKept a { t with store := x } := fun _ => h.edit
  unfold Machine.saveEnd saveAnswer
  split
  · exact h
  · split
    exacts [(hwritten _).setLink (linkStays_placeAnswer rfl _), hwritten _]

/-- A Clear drops what a port owes and holds, and every last phase error (R61, R174). -/
theorem gridClearOwner (st : Station) (f : List Byte) : EachKept a (gridClearOwner st f t).1 := by
  have hitems : EachKept a (clearItems t) :=
    ((h.mapFollowers (fun _ x => { x with phaseError := none }) (fun _ _ hx => hx.withoutPhaseError) fun _ => rfl).mapPorts
      (fun i p => clearPort (clearCodes t i) p) fun _ _ _ => portOk_clearPort _ _).edit rfl rfl rfl rfl rfl
  unfold Machine.gridClearOwner
  repeat' split
  · exact h
  · exact h
  · exact h.setLatch _ _
  · rw [clearPart_eq]
    exact ((hitems.showSource _).showSource _).raiseHouse _

/-! ### The reference -/

theorem referenceChange {f : Fru} (hp : t.phase = .running) (hf : FruFits t.fru → FruFits f) :
    EachKept a (referenceChange f t) := ((h.withFru hp hf).showSource _).raiseHouse _

theorem setFromInternal (hp : t.phase = .running) {src : RefSource} {d : Nat} (hd : d = 1 ∨ d = 2)
    (hs : t.fru.state = .internal) :
    EachKept a (setFromInternal src d { t with fru := { t.fru with requested := src } }).1 := by
  cases src with
  | internal => exact h.withFru hp fun hf => hf.requestInternal hd hs
  | external => exact h.referenceChange hp fun hf => hf.startQualifying hd

theorem setWhileQualifying (hp : t.phase = .running) {src : RefSource} {d : Nat} (hd : d = 1 ∨ d = 2)
    (hs : isQualifying t.fru.state = true) :
    EachKept a (setWhileQualifying src d { t with fru := { t.fru with requested := src } }).1 := by
  have hni : t.fru.state ≠ .internal := by intro e; simp [e, isQualifying] at hs
  unfold Machine.setWhileQualifying
  split
  · exact h.withFru hp fun _ => FruFits.leaveQualifying hs hd
  · next hsw =>
    have hsw : t.fru.switch ≠ .toInternal := by simpa using hsw
    split
    · exact h.withFru hp fun hf => hf.withRequested hni fun _ => by simp [hsw]
    · exact h.withFru hp fun _ => FruFits.requalify hs hd
  · next hsw =>
    have hsw : t.fru.switch = .toInternal := by simpa using hsw
    refine h.withFru hp fun hf => ?_
    have hleft := FruFits.leaveQualifying hs hd
    rwa [← hf.runZero (.inr (.inr hsw)), ← hsw] at hleft
  · exact h.withFru hp fun _ => FruFits.requalify hs hd

theorem setFromExternal (hp : t.phase = .running) {src : RefSource} {d : Nat} (hd : d = 1 ∨ d = 2)
    (hs : t.fru.state = .external) :
    EachKept a (setFromExternal src d { t with fru := { t.fru with requested := src } }).1 := by
  have hni : t.fru.state ≠ .internal := by simp [hs]
  have hnq : isQualifying t.fru.state ≠ true := by simp [hs, isQualifying]
  have hwaits : ∀ r, t.fru.switch = .toInternal → FruFits t.fru →
      FruFits { t.fru with requested := r, nextDivisor := d } := by
    intro r hsw hf
    have hleft := hf.leaveExternal hs (r := r) hd
    rwa [← hsw] at hleft
  unfold Machine.setFromExternal
  split
  · exact h.withFru hp fun hf => hf.leaveExternal hs hd
  · split
    · exact h.withFru hp fun hf => hf.withRequested hni fun e => absurd e hnq
    · exact h.withFru hp fun hf => hf.leaveExternal hs hd
  · next hsw => exact h.withFru hp (hwaits _ (by simpa using hsw))
  · next hsw =>
    split
    · exact h.withFru hp fun hf => hf.stayExternal hs hd
    · exact h.withFru hp (hwaits _ (by simpa using hsw))

theorem referenceSetOwner (hp : t.phase = .running) (st : Station) (f : List Byte) :
    EachKept a (referenceSetOwner st f t).1 := by
  unfold Machine.referenceSetOwner
  split
  · exact h
  · split
    · next hd =>
      have hd := readDivisor_range hd
      unfold referenceSetWith
      dsimp only
      split
      · next hs => exact h.setFromInternal hp hd hs
      · next hs => exact h.setFromExternal hp hd hs
      · next hs => exact h.setWhileQualifying hp hd (by simp [hs, isQualifying])
      · next hs => exact h.setWhileQualifying hp hd (by simp [hs, isQualifying])
    · exact h

/-! ### The frame event and the switches -/

theorem linkFrameEvent (st : Station) : EachKept a (linkFrameEvent st t) := by
  have hgap : EachKept a (t.setLink st (gapTest t.fru.count (t.link st))) := h.setLink (linkStays_gapTest _ _)
  unfold Machine.linkFrameEvent
  dsimp only
  split
  exacts [hgap.departLink st, hgap.setLink (linkStays_countDown _)]

/-- The expiries and the first timers of a frame event: of the four blocks, the stamps alone expire (R50). -/
theorem frameBegun (hp : t.phase = .running) (o : FrameOrder) : EachKept a (frameBegun o t) :=
  ((h.withFru hp fun hf => hf.withCount (t.fru.count + 1)).mapFollowers
    (fun _ x => followerExpire (t.fru.count + 1) x) (fun _ _ hx => hx.followerExpire _) fun _ => rfl).edit
    rfl rfl rfl rfl rfl

theorem frameEventWhole (hp : t.phase = .running) (o : FrameOrder) : EachKept a (frameEventWhole o t) := by
  have hwalked : EachKept a (frameWalked o t) :=
    (((h.frameBegun hp o).gridFrame _).lanesFrame _).edit rfl rfl rfl rfl rfl
  rw [frameEventWhole_links]
  exact hwalked.foldl (fun _ st hu => hu.linkFrameEvent st) _

theorem fallback (hp : t.phase = .running) : EachKept a (fallback t) := h.referenceChange hp FruFits.fallback

theorem switchInternal (hp : t.phase = .running) (hs : t.fru.switch = .toInternal) :
    EachKept a (switchInternal t) := h.referenceChange hp fun hf => hf.switchInternal hs

theorem internalBoundary (hp : t.phase = .running) (o : FrameOrder) : EachKept a (internalBoundary o t) := by
  have hf := h.frameEventWhole hp o
  have hp' : (Machine.frameEventWhole o t).phase = .running := by simpa using hp
  unfold Machine.internalBoundary
  dsimp only
  split
  · exact hf
  · exact hf.referenceChange hp' FruFits.switchExternal
  · next hs => exact hf.switchInternal hp' hs

theorem wckFrameEdge (hp : t.phase = .running) (o : FrameOrder) : EachKept a (wckFrameEdge o t) := by
  have hf := h.frameEventWhole hp o
  unfold Machine.wckFrameEdge
  dsimp only
  split
  · next hs => exact hf.switchInternal (by simpa using hp) hs
  · exact hf
  · exact hf

theorem wckFrameEvent (hp : t.phase = .running) (o : FrameOrder) : EachKept a (wckFrameEvent o t) :=
  (h.withFru hp fun hf => hf.withPlace true (placeAfterFrame t.fru.divisor)).wckFrameEdge hp o

theorem frameMoment (hp : t.phase = .running) (o : FrameOrder) : EachKept a (frameMoment o t) := by
  unfold Machine.frameMoment
  split
  exacts [h.internalBoundary hp o, h.internalBoundary hp o, h.wckFrameEvent hp o, h.internalBoundary hp o]

theorem wckMoment (hp : t.phase = .running) (w : WckPeriod) (o : FrameOrder) : EachKept a (wckMoment w o t) := by
  have hqualify : isQualifying t.fru.state = true → EachKept a { t with fru := qualifyEdge w t.fru } :=
    fun hs => h.withFru hp fun hf => hf.qualifyEdge hs w
  unfold Machine.wckMoment
  split
  · exact h
  · next hs => exact hqualify (by simp [hs, isQualifying])
  · next hs => exact hqualify (by simp [hs, isQualifying])
  · have hplace := h.withFru hp fun hf => hf.withPlace true (placeAfter w t.fru)
    unfold externalEdge
    dsimp only
    split
    · exact h.fallback hp
    · split
      exacts [hplace.wckFrameEdge hp o, hplace]

theorem silence (hp : t.phase = .running) : EachKept a (silence t) := by
  unfold Machine.silence
  split
  · exact h
  · exact h.fallback hp
  · split
    · exact h
    · next hs => exact h.withFru hp fun hf => hf.silence hs

theorem toExternalMoment (hp : t.phase = .running) (o : FrameOrder) : EachKept a (toExternalMoment o t) := by
  unfold Machine.toExternalMoment
  split
  exacts [h.internalBoundary hp o, h]

theorem toInternalMoment (hp : t.phase = .running) (o : FrameOrder) : EachKept a (toInternalMoment o t) := by
  unfold Machine.toInternalMoment
  split
  · split
    exacts [h, h.internalBoundary hp o, h.internalBoundary hp o, h.wckFrameEvent hp o]
  · exact h

/-! ### Reset and start-up (R203, R207) -/

theorem loadScene (sc : Scene) : EachKept a (loadScene sc t) := by
  have hitems : EachKept a (sceneItems sc t) :=
    (h.mapPorts (fun i p => { p with rate := sc.rates[i] }) fun _ _ hx => hx.withRate _).edit rfl rfl rfl rfl rfl
  obtain ⟨v, hv, -⟩ := loadScene_pins sc t
  rw [hv]
  exact hitems.edit

theorem sceneStep : EachKept a (sceneStep t) := by
  have houtcome : ∀ o u, EachKept a u → EachKept a (withOutcome o u) := fun o u hu => hu.edit rfl rfl rfl rfl rfl
  unfold Machine.sceneStep
  repeat' split
  exacts [houtcome _ _ h, houtcome _ _ (h.loadScene _), houtcome _ _ h]

/-- The reference items before frames are those of every phase once frames have begun. -/
theorem startPart : EachKept a (startPart t) := by
  unfold Machine.startPart
  split
  · obtain ⟨hlinks, hports, hfollowers, hfru⟩ := h.sceneStep
    exact ⟨fun ha => (hlinks ha).of_eq fun _ => rfl, fun ha => (hports ha).of_eq fun _ => rfl,
      fun ha => (hfollowers ha).of_eq (fun _ => rfl) fun _ hp he => ⟨hp, he⟩,
      fun ha => FruFits.ok ((hfru ha).fits.withCount 1) rfl⟩
  · exact h

end Edits

theorem resetPart (s : State) : EachKept s (resetPart s) where
  links _ := safe_reset.links.of_eq fun _ => rfl
  ports _ := safe_reset.ports.of_eq fun _ => rfl
  followers _ := safe_reset.followers.of_eq (fun _ => rfl) fun _ hp he => ⟨hp, he⟩
  fru _ := fruOk_reset.of_eq rfl rfl

theorem releasePart (x : Straps) (s : State) : EachKept s (releasePart x s) := by
  unfold Machine.releasePart
  split
  · next hp =>
    refine ⟨fun h => h.of_eq fun _ => rfl, fun h => h.of_eq fun _ => rfl,
      fun h => h.of_eq (fun _ => rfl) fun _ hp he => ⟨hp, he⟩, fun h => ?_⟩
    obtain ⟨hstate, hrun, hswitch, hcount⟩ := h.before (by simp [hp])
    have hone := h.oneDivisor hstate
    have hd := h.divisor
    cases x.external <;> constructor <;> simp [hd, hrun, hswitch, hcount, hone, Config.qualifyRun, isQualifying]
  · exact refl s

/-! ### Every command -/

theorem exec {s t : State} (c : Instr) (ht : exec c s = .next t) : EachKept s t := by
  have h := refl s
  cases c with
  | presence st tag f => cases ht; exact h.takeRequest fun _ h _ => h.presenceOwner st f
  | query st tag f => cases ht; exact h.takeRequest fun _ h _ => h.queryOwner st f
  | takeLead st tag f => cases ht; exact h.takeRequest fun _ h _ => h.takeLeadOwner st f
  | yield st tag f => cases ht; exact h.takeRequest fun _ h _ => h.yieldOwner st
  | seize st tag f => cases ht; exact h.takeRequest fun _ h _ => h.seizeOwner st f
  | seizeCodeSet st tag f => cases ht; exact h.takeRequest fun _ h _ => h.seizeCodeSetOwner st f
  | tempo st tag f => cases ht; exact h.takeRequest fun _ h _ => h.tempoOwner st f
  | nudge st tag f => cases ht; exact h.takeRequest fun _ h _ => h.nudgeOwner st f
  | setMeter st tag f => cases ht; exact h.takeRequest fun _ h _ => h.setMeterOwner st f
  | mark st tag f => cases ht; exact h.takeRequest fun _ h _ => h.markOwner st f
  | inputSet st tag f => cases ht; exact h.takeRequest fun _ h _ => h.inputSetOwner st f
  | transport st tag b => cases ht; exact h.takeRequest fun _ h _ => h.transportOwner st b
  | laneSet st tag f => cases ht; exact h.takeRequest fun _ h _ => h.laneSetOwner st f
  | laneEnable st tag f => cases ht; exact h.takeRequest fun _ h _ => h.laneEnableOwner st f
  | laneDisable st tag f => cases ht; exact h.takeRequest fun _ h _ => h.laneDisableOwner st f
  | laneRelease st tag f => cases ht; exact h.takeRequest fun _ h _ => h.laneReleaseOwner st f
  | pinSet st tag f => cases ht; exact h.takeRequest fun _ h _ => h.pinSetOwner st f
  | portSet st tag f => cases ht; exact h.takeRequest fun _ h _ => h.portSetOwner st f
  | referenceSet st tag f => cases ht; exact h.takeRequest fun _ h hp => h.referenceSetOwner hp st f
  | sceneSave st tag f => cases ht; exact h.takeRequest fun _ h _ => h.sceneSaveOwner st tag
  | gridClear st tag f => cases ht; exact h.takeRequest fun _ h _ => h.gridClearOwner st f
  | unknownKind st kind tag f => cases ht; exact h.whenRunning fun _ => h.takeUnknown st kind tag f
  | sceneSaveComplete ok => cases ht; exact h.whenRunning fun _ => h.saveEnd ok
  | hardwareReset => cases ht; exact resetPart s
  | rstnRelease x => cases ht; exact releasePart x s
  | oscillatorStarted => cases ht; exact h.startPart
  | frameEvent o => cases ht; exact h.whenRunning fun hp => h.frameMoment hp o
  | handoverEffect => cases ht; exact h.whenRunning fun _ => h.handoverMoment
  | transportBoundary => cases ht; exact h.whenRunning fun _ => h.transportMoment
  | laneActivation l => cases ht; exact h.whenRunning fun _ => h.activationMoment l
  | stagedPartApply l => cases ht; exact h.whenRunning fun _ => h.stagedMoment l
  | pendingDisableEffect l => cases ht; exact h.whenRunning fun _ => h.disableMoment l
  | pinTimerEnd p => cases ht; exact h.whenRunning fun _ => h.setPin _ _
  | activeUntilExpiry p => cases ht; exact h.whenRunning fun _ => h.setPin _ _
  | lastEmissionExpiry l => cases ht; exact h.whenRunning fun _ => h.setLane _ _
  | lastStampExpiry st =>
    cases ht
    exact h.whenRunning fun _ => h.setFollower (fun hx => hx.followerExpire _) fun he _ => by rw [he]; rfl
  | edgeFrameExpiry i => cases ht; exact h.whenRunning fun _ => h.edit
  | markInputEdge i c => cases ht; exact h.whenRunning fun _ => h.inputEdge i c
  | wckEdge w o => cases ht; exact h.whenRunning fun hp => h.wckMoment hp w o
  | wckSilence => cases ht; exact h.whenRunning fun hp => h.silence hp
  | switchToExternal o => cases ht; exact h.whenRunning fun hp => h.toExternalMoment hp o
  | switchToInternal o => cases ht; exact h.whenRunning fun hp => h.toInternalMoment hp o
  | characterReceived st c => cases ht; exact h.whenRunning fun _ => h.characterTaken st c
  | gapDetected st => cases ht; exact h.whenRunning fun _ => h.setLink (linkStays_gapTest _ _)
  | breakDetected st x => cases ht; exact h.whenRunning fun _ => h.breakMoment st x
  | presenceExpiry st => cases ht; exact h.whenRunning fun _ => h.expiryMoment st
  | leadLapse st => cases ht; exact h.whenRunning fun _ => h.leadLapse st
  | followerEmptied st => cases ht; exact h.whenRunning fun _ => h.emptyFollower st
  | linkMessageEnd st => cases ht; exact h.whenRunning fun _ => h.setLink (linkStays_messageEnd _)
  | portCharacterEnd p => cases ht; exact h.whenRunning fun _ => h.setPort fun hx => hx.charEnd
  | lineReturnsToMark st => cases ht; exact h.whenRunning fun _ => h.setLink (linkStays_lineAtMark _)

end EachKept

/-- Settles O4: every command keeps each of the four blocks, and the commands that wait take part in none. -/
theorem blocksKept : Obligations.BlocksKept := by
  intro s t ht
  have hkept : EachKept s t := by
    unfold step at ht
    split at ht
    · cases ht
      exact EachKept.refl s
    · next c rest _ =>
      have hrest : EachKept s { s with pending := rest } := (EachKept.refl s).edit
      exact hrest.trans (EachKept.exec c ht)
  exact ⟨hkept.links, hkept.ports, hkept.followers, hkept.fru⟩

end Sys2Proof.Machine
end


section
/-! PROOF. The rising edges on WCK and its silence, and Reference Set (R29, R32 to R38; O16, O17, O18, O20). -/

namespace Sys2Proof.Machine

/-! ### A period and its measure (R32) -/

theorem goodPeriod_iff (d p : Nat) : goodPeriod d p = true ↔ 999000 ≤ p * d ∧ p * d ≤ 1001000 := by
  refine decide_eq_true_iff.trans ?_
  unfold Config.periodUnit Config.periodWindow
  omega

theorem goodPeriod_bad {d p : Nat} (h : p * d < 999000 ∨ 1001000 < p * d) : goodPeriod d p = false := by
  rw [Bool.eq_false_iff, Ne, goodPeriod_iff]
  omega

theorem isQualifying_iff (x : RefState) : isQualifying x = true ↔ x = .qualifying ∨ x = .fallback := by
  cases x <;> simp [isQualifying]

/-! ### Edges and silence while qualifying (R33, R34) -/

/-- The edge that opens a period is measured against nothing. -/
theorem qualifyEdge_opens {f : Fru} (hs : f.switch ≠ .toInternal) (ho : f.periodOpen = false) (w : WckPeriod) :
    qualifyEdge w f = { f with periodOpen := true } := by
  unfold qualifyEdge
  split
  · next h => exact absurd h hs
  · exact if_pos (by simp [ho])

theorem qualifyEdge_bad {f : Fru} (hs : f.switch ≠ .toInternal) (ho : f.periodOpen = true) {w : WckPeriod}
    (hw : goodPeriod f.divisor w.period = false) : qualifyEdge w f = { f with run := 0, switch := .none } := by
  unfold qualifyEdge
  split
  · next h => exact absurd h hs
  · rw [if_neg (by simp [ho]), if_neg (by simp [hw])]

theorem qualifyEdge_good {f : Fru} (hs : f.switch ≠ .toInternal) (ho : f.periodOpen = true) {w : WckPeriod}
    (hw : goodPeriod f.divisor w.period = true) (hr : f.run < 4800) : qualifyEdge w f =
      { f with run := f.run + 1, switch := if f.run + 1 = 4800 then .toExternal else f.switch } := by
  unfold qualifyEdge
  split
  · next h => exact absurd h hs
  · rw [if_neg (by simp [ho]), if_pos hw]
    simp only [Config.qualifyRun, hr, if_true]

theorem exec_wckEdge {s : State} (hp : s.phase = .running) (w : WckPeriod) (o : FrameOrder) :
    exec (.wckEdge w o) s = .next (wckMoment w o s) := congrArg Host.Outcome.next (whenRunning_running hp)

theorem exec_wckSilence {s : State} (hp : s.phase = .running) : exec .wckSilence s = .next (silence s) :=
  congrArg Host.Outcome.next (whenRunning_running hp)

theorem exec_wckEdge_qualifying {s : State} (hp : s.phase = .running) (hq : isQualifying s.fru.state = true)
    (w : WckPeriod) (o : FrameOrder) :
    exec (.wckEdge w o) s = .next { s with fru := qualifyEdge w s.fru } := by
  rw [exec_wckEdge hp]
  unfold wckMoment
  rcases (isQualifying_iff _).1 hq with h | h <;> rw [h]

theorem exec_wckEdge_external {s : State} (hp : s.phase = .running) (hs : s.fru.state = .external) (w : WckPeriod)
    (o : FrameOrder) : exec (.wckEdge w o) s = .next (externalEdge w o s) := by
  rw [exec_wckEdge hp]
  unfold wckMoment
  rw [hs]

/-- Settles O16: an edge opens a period, adds a good one to the run, or ends the run. -/
theorem edgesQualifyWck : Obligations.EdgesQualifyWck := by
  intro s w o hp hq hs
  rw [exec_wckEdge_qualifying hp hq]
  refine ⟨fun ho => ?_, fun ho hl hu => ⟨fun hr => ?_, fun hr => ?_⟩, fun ho hbad => ?_⟩
  · rw [qualifyEdge_opens hs ho]
  · rw [qualifyEdge_good hs ho ((goodPeriod_iff _ _).2 ⟨hl, hu⟩) (by omega), if_neg (by omega)]
  · rw [qualifyEdge_good hs ho ((goodPeriod_iff _ _).2 ⟨hl, hu⟩) (by omega), if_pos hr, hr]
  · rw [qualifyEdge_bad hs ho (goodPeriod_bad hbad)]

/-! ### WCK fails (R33, R35) -/

theorem silence_qualifying {s : State} (hq : isQualifying s.fru.state = true) (hs : s.fru.switch = .none) :
    silence s = { s with fru := { s.fru with run := 0, periodOpen := false } } := by
  unfold silence
  rcases (isQualifying_iff _).1 hq with h | h <;> simp only [h, hs]

theorem silence_external {s : State} (hs : s.fru.state = .external) : silence s = fallback s := by
  unfold silence
  rw [hs]

theorem externalEdge_bad {s : State} (ho : s.fru.periodOpen = true) {w : WckPeriod}
    (hw : goodPeriod s.fru.divisor w.period = false) (o : FrameOrder) : externalEdge w o s = fallback s :=
  if_pos (by simp [ho, hw])

/-- Settles O17: silence while qualifying ends the run, and in EXTERNAL it falls back as a bad period does. -/
theorem wckFailureFallsBack : Obligations.WckFailureFallsBack := by
  intro s hp
  refine ⟨fun hq hs => ?_, fun hs => ⟨?_, fun w o ho hbad => ?_⟩⟩
  · rw [exec_wckSilence hp, silence_qualifying hq hs]
  · rw [exec_wckSilence hp, silence_external hs]
    rfl
  · rw [exec_wckEdge_external hp hs, externalEdge_bad ho (goodPeriod_bad hbad)]
    rfl

/-! ### Edges in EXTERNAL (R29, R34) -/

/-- An edge that closes no bad period. -/
theorem externalEdge_good {s : State} {w : WckPeriod}
    (hw : s.fru.periodOpen = false ∨ goodPeriod s.fru.divisor w.period = true) (o : FrameOrder) :
    externalEdge w o s =
      if isFrameEdge w s.fru = true then wckFrameEvent o s
      else { s with fru := { s.fru with periodOpen := true, place := placeAfter w s.fru } } := by
  have hgood : ¬ (s.fru.periodOpen && !goodPeriod s.fru.divisor w.period) = true := by
    rcases hw with h | h <;> simp [h]
  unfold externalEdge
  rw [if_neg hgood]
  dsimp only
  split
  · next hf => simp only [placeAfter, hf, if_true]; rfl
  · rfl

theorem isFrameEdge_first {f : Fru} (h : f.place = .awaitFirst) (w : WckPeriod) :
    isFrameEdge w f = decide (500000 ≤ w.sinceSwitch) := by
  unfold isFrameEdge
  rw [h]
  refine decide_eq_decide.2 ?_
  unfold Config.periodUnit
  omega

theorem isFrameEdge_next {f : Fru} (h : f.place = .frameNext) (w : WckPeriod) : isFrameEdge w f = true := by
  simp [isFrameEdge, h]

theorem isFrameEdge_skip {f : Fru} (h : f.place = .skipNext) (w : WckPeriod) : isFrameEdge w f = false := by
  simp [isFrameEdge, h]

theorem exec_frameMoment {s : State} (hp : s.phase = .running) (o : FrameOrder) :
    exec (.frameEvent o) s = .next (frameMoment o s) := congrArg Host.Outcome.next (whenRunning_running hp)

theorem frameMoment_external {s : State} (hs : s.fru.state = .external) (o : FrameOrder) :
    frameMoment o s = wckFrameEvent o s := by
  unfold frameMoment
  rw [hs]

theorem toInternalMoment_external {s : State} (hs : s.fru.state = .external) (hw : s.fru.switch = .toInternal)
    (o : FrameOrder) : toInternalMoment o s = wckFrameEvent o s := by
  unfold toInternalMoment
  rw [if_pos hw, hs]

theorem exec_switchToInternal {s : State} (hp : s.phase = .running) (o : FrameOrder) :
    exec (.switchToInternal o) s = .next (toInternalMoment o s) := congrArg Host.Outcome.next (whenRunning_running hp)

theorem frameFru_external {f : Fru} (hs : f.state = .external) :
    frameFru f = { f with periodOpen := true, place := if f.divisor = 2 then .skipNext else .frameNext } := if_pos hs

/-- Settles O18: an edge that is no WCK frame edge moves the place alone, and a good frame edge is the frame event, which
finds the period open and its place told already. -/
theorem wckEdgesDriveFrames : Obligations.WckEdgesDriveFrames := by
  intro s w o hp hs hperiod opened framed
  have hgood : s.fru.periodOpen = false ∨ goodPeriod s.fru.divisor w.period = true :=
    hperiod.imp_right (goodPeriod_iff _ _).2
  have hnone : isFrameEdge w s.fru = false → ∀ x, placeAfter w s.fru = x →
      exec (.wckEdge w o) s = .next { s with fru := { opened with place := x } } := by
    rintro he x rfl
    rw [exec_wckEdge_external hp hs, externalEdge_good hgood, if_neg (by simp [he])]
  have hframe : s.fru.place = .frameNext ∨ s.fru.place = .awaitFirst ∧ 500000 ≤ w.sinceSwitch →
      exec (.wckEdge w o) s = .next (wckFrameEvent o s) := by
    intro hplace
    have hedge : isFrameEdge w s.fru = true := by
      rcases hplace with h | ⟨h, hlate⟩
      · exact isFrameEdge_next h w
      · simpa [isFrameEdge_first h] using hlate
    rw [exec_wckEdge_external hp hs, externalEdge_good hgood, if_pos hedge]
  refine ⟨fun hplace hearly => ?_, fun hplace => ?_, fun hplace hsw => ⟨?_, _, hframe hplace, ?_⟩, fun hplace hsw => ?_⟩
  · have he : isFrameEdge w s.fru = false := by simpa [isFrameEdge_first hplace] using hearly
    have hstay : ({ opened with place := .awaitFirst } : Fru) = opened := by rw [← hplace]
    rw [hnone he .awaitFirst (by simp [placeAfter, he, hplace]), hstay]
  · have he := isFrameEdge_skip hplace w
    exact hnone he .frameNext (by simp [placeAfter, he, hplace])
  · rw [hframe hplace, exec_frameMoment (s := { s with fru := framed }) hp, frameMoment_external (s := { s with fru := framed }) hs]
    rfl
  · rw [← frameMoment_external hs, frameMoment_eq hsw, frameFru_external hs]
    simp [framed, opened]
  · rw [hframe hplace, exec_switchToInternal (s := { s with fru := framed }) hp,
      toInternalMoment_external (s := { s with fru := framed }) hs hsw]
    rfl

/-! ### Reference Set (R38) -/

theorem exec_referenceSet {s : State} {st : Station} {tag x y : Byte} (hc : canTake st 0x13 tag [x, y] s) :
    exec (.referenceSet st tag [x, y]) s = .next (placeReply st 0x13 tag
      (referenceSetOwner st [x, y] (afterTaking st s)).2 (referenceSetOwner st [x, y] (afterTaking st s)).1) :=
  congrArg Host.Outcome.next (takeRequest_taken hc (by simp))

theorem readRefSource_none {n : Nat} (h : 1 < n) : readRefSource n = none := by
  match n, h with
  | _ + 2, _ => rfl

theorem readDivisor_none {n : Nat} (h : 1 < n) : readDivisor n = none := by
  match n, h with
  | _ + 2, _ => rfl

theorem referenceSetOwner_badField {s : State} {st : Station} {x y : Byte} (hh : holds s st = true)
    (h : 1 < x.toNat ∨ 1 < y.toNat) : referenceSetOwner st [x, y] s = (s, .answer .badField 0) := by
  unfold referenceSetOwner
  rw [if_neg (by simp [hh])]
  rw [show f1 [x, y] 0 = x.toNat from rfl, show f1 [x, y] 1 = y.toNat from rfl]
  rcases h with h | h
  · rw [readRefSource_none h]
    rfl
  · rw [readDivisor_none h]
    cases readRefSource x.toNat <;> rfl

theorem referenceSetOwner_sent {s : State} {st : Station} (hh : holds s st = true) (ext fast : Bool) :
    referenceSetOwner st [flagByte ext, flagByte fast] s =
      referenceSetWith (if ext then .external else .internal) (if fast then 2 else 1) s := by
  unfold referenceSetOwner
  rw [if_neg (by simp [hh])]
  cases ext <;> cases fast <;> rfl

section Rows

variable {s : State} {src : RefSource} {d : Nat}

/-- The state whose requested source was set (R38). -/
def requestedAs (src : RefSource) (s : State) : State := { s with fru := { s.fru with requested := src } }

theorem referenceSetWith_internal (h : s.fru.state = .internal) :
    referenceSetWith src d s = setFromInternal src d (requestedAs src s) := by
  unfold referenceSetWith
  rw [h]
  rfl

theorem referenceSetWith_external (h : s.fru.state = .external) :
    referenceSetWith src d s = setFromExternal src d (requestedAs src s) := by
  unfold referenceSetWith
  rw [h]
  rfl

theorem referenceSetWith_qualifying (h : isQualifying s.fru.state = true) :
    referenceSetWith src d s = setWhileQualifying src d (requestedAs src s) := by
  unfold referenceSetWith
  rcases (isQualifying_iff _).1 h with h | h <;> rw [h] <;> rfl

theorem setFromInternal_internal (d : Nat) (s : State) : setFromInternal .internal d s =
    ({ s with fru := bothDivisors d s.fru }, .answer (if d = s.fru.divisor then .noChange else .ok) 0) := by
  unfold setFromInternal
  rw [ite_not]

theorem setWhileQualifying_leaves (h : s.fru.switch ≠ .toInternal) : setWhileQualifying .internal d s =
    ({ s with fru := { bothDivisors d s.fru with switch := .toInternal, run := 0 } }, .answer .ok 0) := by
  unfold setWhileQualifying
  rw [decide_eq_false h]

theorem setWhileQualifying_stays (h : s.fru.switch ≠ .toInternal) : setWhileQualifying .external d s =
    if d = s.fru.divisor then (s, .answer .noChange 0)
    else ({ s with fru := { bothDivisors d s.fru with run := 0, switch := .none, periodOpen := false } },
      .answer .ok 0) := by
  unfold setWhileQualifying
  rw [decide_eq_false h]

theorem setWhileQualifying_leaving (h : s.fru.switch = .toInternal) : setWhileQualifying .internal d s =
    ({ s with fru := bothDivisors d s.fru }, .answer (if d = s.fru.divisor then .noChange else .ok) 0) := by
  unfold setWhileQualifying
  rw [decide_eq_true h, ite_not]

theorem setWhileQualifying_returns (h : s.fru.switch = .toInternal) : setWhileQualifying .external d s =
    ({ s with fru := { bothDivisors d s.fru with switch := .none, run := 0, periodOpen := false } },
      .answer .ok 0) := by
  unfold setWhileQualifying
  rw [decide_eq_true h]

theorem setFromExternal_leaves (h : s.fru.switch ≠ .toInternal) : setFromExternal .internal d s =
    ({ s with fru := { s.fru with switch := .toInternal, nextDivisor := d } }, .answer .ok 0) := by
  unfold setFromExternal
  rw [decide_eq_false h]

theorem setFromExternal_stays (h : s.fru.switch ≠ .toInternal) : setFromExternal .external d s =
    if d = s.fru.divisor then (s, .answer .noChange 0)
    else ({ s with fru := { s.fru with switch := .toInternal, nextDivisor := d } }, .answer .ok 0) := by
  unfold setFromExternal
  rw [decide_eq_false h]

theorem setFromExternal_leaving (h : s.fru.switch = .toInternal) : setFromExternal .internal d s =
    ({ s with fru := { s.fru with nextDivisor := d } },
      .answer (if d = s.fru.nextDivisor then .noChange else .ok) 0) := by
  unfold setFromExternal
  rw [decide_eq_true h, ite_not]

theorem setFromExternal_returns (h : s.fru.switch = .toInternal) : setFromExternal .external d s =
    if d = s.fru.divisor then ({ s with fru := { s.fru with switch := .none, nextDivisor := d } }, .answer .ok 0)
    else ({ s with fru := { s.fru with nextDivisor := d } }, .answer .ok 0) := by
  unfold setFromExternal
  rw [decide_eq_true h]

end Rows

/-- Settles O20, row by row: a field outside its list is refused, and a Reference Set of the holder is carried out by the
reference state and the switch that waits. -/
theorem referenceSetFollowsItsTable : Obligations.ReferenceSetFollowsItsTable := by
  refine ⟨fun s st tag a b hh hc hbad => ?_, ?_⟩
  · rw [exec_referenceSet hc, referenceSetOwner_badField (by simpa using hh) hbad]
  · intro s st tag ext fast hh hc d src f both ends changed nextChanged
    have hset : exec (.referenceSet st tag [flagByte ext, flagByte fast]) s = .next (placeReply st 0x13 tag
        (referenceSetWith src d (afterTaking st s)).2 (referenceSetWith src d (afterTaking st s)).1) := by
      rw [exec_referenceSet hc, referenceSetOwner_sent (by simpa using hh)]
    have hends : ∀ x code, referenceSetWith src d (afterTaking st s) =
        ({ afterTaking st s with fru := x }, .answer code 0) → ends x code := by
      intro x code hx
      show exec _ s = _
      rw [hset, hx]
    have hinternal : s.fru.state = .internal →
        referenceSetWith src d (afterTaking st s) = setFromInternal src d (requestedAs src (afterTaking st s)) :=
      referenceSetWith_internal (s := afterTaking st s)
    have hqualifying : isQualifying s.fru.state = true →
        referenceSetWith src d (afterTaking st s) = setWhileQualifying src d (requestedAs src (afterTaking st s)) :=
      referenceSetWith_qualifying (s := afterTaking st s)
    have hexternal : s.fru.state = .external →
        referenceSetWith src d (afterTaking st s) = setFromExternal src d (requestedAs src (afterTaking st s)) :=
      referenceSetWith_external (s := afterTaking st s)
    refine ⟨fun hs he => ?_, fun hs he => ?_, fun hs hw he => ?_, fun hs hw he => ?_, fun hs hw he => ?_,
      fun hs hw he => ?_, fun hs hw he => ?_, fun hs hw he => ?_, fun hs hw he => ?_, fun hs hw he => ?_⟩
    all_goals subst he
    · exact hends _ _ ((hinternal hs).trans (setFromInternal_internal _ _))
    · rw [hset, hinternal hs]
      rfl
    · exact hends _ _ ((hqualifying hs).trans (setWhileQualifying_leaves hw))
    · have hrow := (hqualifying hs).trans (setWhileQualifying_stays hw)
      split
      · next hd => exact hends _ _ (hrow.trans (if_pos hd))
      · next hd => exact hends _ _ (hrow.trans (if_neg hd))
    · exact hends _ _ ((hqualifying hs).trans (setWhileQualifying_leaving hw))
    · exact hends _ _ ((hqualifying hs).trans (setWhileQualifying_returns hw))
    · exact hends _ _ ((hexternal hs).trans (setFromExternal_leaves hw))
    · have hrow := (hexternal hs).trans (setFromExternal_stays hw)
      split
      · next hd => exact hends _ _ (hrow.trans (if_pos hd))
      · next hd => exact hends _ _ (hrow.trans (if_neg hd))
    · exact hends _ _ ((hexternal hs).trans (setFromExternal_leaving hw))
    · have hrow := (hexternal hs).trans (setFromExternal_returns hw)
      split
      · next hd => exact hends _ _ (hrow.trans (if_pos hd))
      · next hd => exact hends _ _ (hrow.trans (if_neg hd))

end Sys2Proof.Machine
end


section
/-! PROOF. The switch that waits takes no part in a frame event, and takes effect at its boundary with its indicator and
its notice (R33, R34, R36, R37; O19). -/

namespace Sys2Proof.Machine

/-! ### What a frame event reads of the reference -/

/-- Another switch waits. -/
def State.withSwitch (s : State) (w : Switch) : State := { s with fru := { s.fru with switch := w } }

theorem withSwitch_self {s : State} {w : Switch} (h : s.fru.switch = w) : s.withSwitch w = s := by
  subst h
  rfl

theorem emitLane_empty {l : LaneId} {s : State} (hq : (s.lane l).queue = []) : emitLane l s = s := by
  unfold emitLane
  rw [hq]

theorem emitLane_head {l : LaneId} {s : State} {r : PointRecord} {rest : List PointRecord}
    (hq : (s.lane l).queue = r :: rest) : emitLane l s =
      if emissionReady s (s.lane l) r = true then
        deliver l (s.lane l).settings ⟨r.beatFlag, r.barFlag, r.mark, viewAfter (s.lane l).emittedPlaying r.mark⟩
          (s.setLane l (laneEmitted s.fru.count r rest (s.lane l)))
      else s := by
  unfold emitLane
  rw [hq]
  rfl

/-- An operation that neither reads nor writes the switch that waits. -/
def SwitchBlind (f : State → State) : Prop := ∀ (w : Switch) (s : State), f (s.withSwitch w) = (f s).withSwitch w

namespace SwitchBlind

theorem refl : SwitchBlind fun s => s := fun _ _ => rfl

theorem comp {f g : State → State} (hf : SwitchBlind f) (hg : SwitchBlind g) : SwitchBlind fun s => f (g s) := by
  intro w s
  show f (g (s.withSwitch w)) = _
  rw [hg, hf]

theorem foldl {α : Type} {f : State → α → State} (hf : ∀ x, SwitchBlind fun s => f s x) (l : List α) :
    SwitchBlind fun s => l.foldl f s := by
  intro w s
  induction l generalizing s with
  | nil => rfl
  | cons x rest ih => exact (congrArg (rest.foldl f) (hf x w s)).trans (ih (f s x))

/-- A test that does not read the switch chooses between two such operations. -/
theorem ite {c : State → Prop} [DecidablePred c] {f g : State → State} (hc : ∀ w s, c (s.withSwitch w) ↔ c s)
    (hf : SwitchBlind f) (hg : SwitchBlind g) : SwitchBlind fun s => if c s then f s else g s := by
  intro w s
  show (if c (s.withSwitch w) then f (s.withSwitch w) else g (s.withSwitch w)) = _
  rw [if_congr (hc w s) (hf w s) (hg w s)]
  exact (apply_ite (State.withSwitch · w) _ _ _).symm

theorem raiseHouse (r : Reason) : SwitchBlind (raiseHouse r) := fun _ _ => rfl

theorem showSource (x : Source) : SwitchBlind (showSource x) := fun _ _ => by cases x <;> rfl

theorem pulseSource (x : Source) : SwitchBlind (pulseSource x) := fun _ _ => rfl

/-! ### The Grid Engine's part (R6, R11) -/

theorem handoverAtCrossing : SwitchBlind handoverAtCrossing := fun w s => by
  obtain hh | ⟨h, hh⟩ := Option.eq_none_or_eq_some s.lead.handover
  · rw [handoverAtCrossing_none hh, handoverAtCrossing_none (s := s.withSwitch w) hh]
  · by_cases hc : s.grid.crossing = .bar ∨ s.grid.crossing = .beat ∧ h.align ≠ .bar
    · rw [handoverAtCrossing_met hh hc, handoverAtCrossing_met (s := s.withSwitch w) hh hc]
      rfl
    · rw [handoverAtCrossing_waits hh hc, handoverAtCrossing_waits (s := s.withSwitch w) hh hc]

theorem transportReached : SwitchBlind transportReached := fun w s => by
  obtain hp | ⟨p, hp⟩ := Option.eq_none_or_eq_some s.tc.pending
  · rw [transportReached_none hp, transportReached_none (s := s.withSwitch w) hp]
  · by_cases hb : s.grid.pos.beat = p.boundary
    · rw [transportReached_met hp hb, transportReached_met (s := s.withSwitch w) hp hb]
      rfl
    · rw [transportReached_waits hp hb, transportReached_waits (s := s.withSwitch w) hp hb]

theorem countSongBar : SwitchBlind countSongBar :=
  ite (c := fun s => s.grid.crossing = .bar ∧ (s.tc.state = .playing ∨ s.tc.state = .stopping)) (fun _ _ => Iff.rfl)
    (fun _ _ => rfl) fun _ _ => rfl

theorem tcCrossing : SwitchBlind tcCrossing := transportReached.comp countSongBar

theorem pdCrossing : SwitchBlind pdCrossing :=
  ite (c := fun s => s.grid.crossing = .bar) (fun _ _ => Iff.rfl) ((pulseSource .bar).comp (pulseSource .beat))
    (pulseSource .beat)

/-- The grid given anew. -/
theorem withGrid (f : Grid → Grid) : SwitchBlind fun s => { s with grid := f s.grid } := fun _ _ => rfl

theorem crossingStages : SwitchBlind crossingStages :=
  (withGrid fun g => recompute { g with trim := trimAdvanced g.trim }).comp (handoverAtCrossing.comp (withGrid glideStep))

theorem beatCrossing (b : Bool) : SwitchBlind (beatCrossing b) := by
  have hstages := crossingStages.comp (withGrid numberBeat)
  refine pdCrossing.comp (ite (c := fun s => changesMeter s.grid = true) (fun _ _ => Iff.rfl) ?_ (tcCrossing.comp hstages))
  exact ite (c := fun _ => b = true) (fun _ _ => Iff.rfl) ((raiseHouse .meter).comp (tcCrossing.comp hstages))
    (tcCrossing.comp ((raiseHouse .meter).comp hstages))

theorem gridFrame (b : Bool) : SwitchBlind (gridFrame b) := by
  refine ite (c := fun s => s.grid.state = .unset) (fun _ _ => Iff.rfl) (fun _ _ => rfl) ?_
  refine ite (c := fun s => Config.beatU ≤ s.grid.pos.frac.toNat + s.grid.appliedInc) (fun _ _ => Iff.rfl) ?_ fun _ _ => rfl
  exact (beatCrossing b).comp (withGrid fun g => { g with pos := g.pos.add g.appliedInc, before := none })

/-! ### The lanes and the links (R136, R143, R180, R183) -/

theorem releaseTarget (x : Settings) (e : Bool) : SwitchBlind (releaseTarget x e) := fun w s => by
  unfold Machine.releaseTarget
  split
  · rfl
  · split <;> rfl
  · rfl

theorem putWalked (l : LaneId) (x : Walked) : SwitchBlind (putWalked l x) := fun w s => by
  unfold Machine.putWalked
  split
  · rfl
  · exact releaseTarget _ _ w (s.setLane l x.lane)

theorem deliver (l : LaneId) (x : Settings) (e : Emitted) : SwitchBlind (deliver l x e) := fun w s => by
  unfold Machine.deliver
  split
  · rfl
  · rfl
  · next st _ _ =>
    have hplaced : SwitchBlind fun s => s.setLink st (placeBeat (beatNotice l e s) (s.link st)) := fun _ _ => rfl
    exact ite (c := fun s => (suppressed x e || !(s.link st).present) = true) (fun _ _ => Iff.rfl) refl hplaced w s
  · rfl

theorem emitLane (l : LaneId) : SwitchBlind (emitLane l) := fun w s => by
  cases hq : (s.lane l).queue with
  | nil => rw [emitLane_empty hq, emitLane_empty (s := s.withSwitch w) hq]
  | cons r rest =>
    rw [emitLane_head hq, emitLane_head (s := s.withSwitch w) hq]
    have hemits : SwitchBlind fun s => Machine.deliver l (s.lane l).settings
        ⟨r.beatFlag, r.barFlag, r.mark, viewAfter (s.lane l).emittedPlaying r.mark⟩
        (s.setLane l (laneEmitted s.fru.count r rest (s.lane l))) :=
      fun w s => deliver l _ _ w (s.setLane l (laneEmitted s.fru.count r rest (s.lane l)))
    exact ite (c := fun s => emissionReady s (s.lane l) r = true) (fun _ _ => Iff.rfl) hemits refl w s

theorem laneFrame (l : LaneId) : SwitchBlind (laneFrame l) := by
  have hwalk : SwitchBlind (walkLane l) := fun w s => putWalked l _ w s
  exact ite (c := fun s => s.grid.state = .unset) (fun _ _ => Iff.rfl) (fun _ _ => rfl) ((emitLane l).comp hwalk)

theorem linkFrameEvent (st : Station) : SwitchBlind (linkFrameEvent st) := by
  have hgap : SwitchBlind fun s => s.setLink st (gapTest s.fru.count (s.link st)) := fun _ _ => rfl
  have hdeparts : SwitchBlind (departLink st) := fun _ _ => rfl
  have hcounts : SwitchBlind fun s => s.setLink st (countDown (s.link st)) := fun _ _ => rfl
  exact (ite (c := fun s => lastFrameOfWindow (s.link st) = true) (fun _ _ => Iff.rfl) hdeparts hcounts).comp hgap

theorem lanesFrame (named : List LaneId) : SwitchBlind (lanesFrame named) := foldl laneFrame _

theorem linksFrame : SwitchBlind linksFrame := foldl linkFrameEvent _

theorem frameEventWhole (o : FrameOrder) : SwitchBlind (frameEventWhole o) := by
  have hbegun : SwitchBlind (frameBegun o) := fun _ _ => rfl
  have htimers : ∀ sel, SwitchBlind (timersEnd sel) := fun _ _ _ => rfl
  exact linksFrame.comp ((htimers _).comp ((lanesFrame _).comp ((gridFrame _).comp hbegun)))

end SwitchBlind

/-! ### The switches (R34, R36, R37) -/

/-- A pin after a level source's pins were shown its state. -/
theorem shown_level {s : State} {x : Source} {on : Bool} (hx : levelOf s x = some on) {p : PinId}
    (hf : ((showSource x s).pin p).function = .indicator) (hs : ((showSource x s).pin p).source = some x) :
    ((showSource x s).pin p).level = on := by
  rw [showSource_pin, hx] at hf hs ⊢
  dsimp only at hf hs ⊢
  split at hf
  · next h => rw [if_pos h]
  · next h => rw [if_neg h] at hs; exact absurd ⟨hf, hs⟩ h

@[simp] theorem referenceChange_keeps (f : Fru) (s : State) :
    (referenceChange f s).phase = s.phase ∧ (referenceChange f s).straps = s.straps ∧
      (referenceChange f s).fru = f ∧ (referenceChange f s).grid = s.grid ∧ (referenceChange f s).lanes = s.lanes ∧
      (referenceChange f s).rotation = s.rotation := by
  simp [referenceChange]

theorem referenceChange_pin {f : Fru} {s : State} {p : PinId}
    (hf : ((referenceChange f s).pin p).function = .indicator)
    (hs : ((referenceChange f s).pin p).source = some .externalRef) :
    ((referenceChange f s).pin p).level = decide (f.state = .external) := by
  rw [referenceChange, raiseHouse_pin] at hf hs ⊢
  exact shown_level rfl hf hs

/-- A PRESENT link with room behind the message it sends hears of a change of the reference (R37, R201). -/
theorem referenceChange_told {f : Fru} {s : State} {i : Station}
    (hp : ((referenceChange f s).link i).present = true) (hsend : (s.link i).sending.isSome)
    (hroom : (s.link i).txQueue.length < 8) :
    ∃ n, .house n ∈ ((referenceChange f s).link i).txQueue ∧ n.reason = .reference ∧ n.reference = f.state := by
  have hlink : (showSource .externalRef { s with fru := f }).link i = s.link i := showSource_link _ _ _
  have hpres : (s.link i).present = true := by
    rw [referenceChange, raiseHouse_link, hlink] at hp
    split at hp
    · assumption
    · exact hp
  have hheard := heard_raiseHouse (r := .reference) hlink ⟨hpres, hsend, .inr hroom⟩
  refine ⟨_, hheard.waits, rfl, ?_⟩
  simp [houseNotice]

theorem lanesFrame_unset {s : State} (hs : s.grid.state = .unset) (named : List LaneId) : lanesFrame named s = s := by
  unfold lanesFrame
  induction laneOrder named with
  | nil => rfl
  | cons l rest ih => rw [List.foldl_cons, show laneFrame l s = s from if_pos hs, ih]

/-- In UNSET a frame event leaves the grid, and of the lanes their last emission frames alone expire (R145, R151). -/
theorem frameEventWhole_unset {s : State} (hs : s.grid.state = .unset) (o : FrameOrder) :
    (frameEventWhole o s).grid = s.grid ∧
      ∀ l, (frameEventWhole o s).lane l = lastEmissionExpire (s.fru.count + 1) (s.lane l) := by
  have hb : (frameBegun o s).grid.state = .unset := hs
  refine ⟨by simp [gridFrame_unset hb], fun l => ?_⟩
  rw [frameEventWhole_eq, gridFrame_unset hb, lanesFrame_unset hb]
  simp only [State.lane, linksFrame_keeps, timersEnd_keeps]
  exact mapEach_get _ _ _

/-! ### The boundaries (R31, R34, R36) -/

/-- A frame event with a switch pending is the one without it, the switch still pending after it. -/
theorem frameEventWhole_pending {s : State} {w : Switch} (hw : s.fru.switch = w) (o : FrameOrder) :
    frameEventWhole o s = (frameEventWhole o (s.withSwitch .none)).withSwitch w := by
  rw [← SwitchBlind.frameEventWhole o w]
  exact congrArg (frameEventWhole o) (withSwitch_self hw).symm

theorem internalBoundary_toExternal {s : State} (hw : s.fru.switch = .toExternal) (o : FrameOrder) :
    internalBoundary o s = switchExternal (frameEventWhole o s) := by
  have h : (frameEventWhole o s).fru.switch = .toExternal := by simpa using hw
  unfold internalBoundary
  dsimp only
  rw [h]

theorem internalBoundary_toInternal {s : State} (hw : s.fru.switch = .toInternal) (o : FrameOrder) :
    internalBoundary o s = switchInternal (frameEventWhole o s) := by
  have h : (frameEventWhole o s).fru.switch = .toInternal := by simpa using hw
  unfold internalBoundary
  dsimp only
  rw [h]

theorem wckFrameEdge_toInternal {s : State} (hw : s.fru.switch = .toInternal) (o : FrameOrder) :
    wckFrameEdge o s = switchInternal (frameEventWhole o s) := by
  have h : (frameEventWhole o s).fru.switch = .toInternal := by simpa using hw
  unfold wckFrameEdge
  dsimp only
  rw [h]

theorem toExternalMoment_boundary {s : State} (hq : isQualifying s.fru.state = true) (hw : s.fru.switch = .toExternal)
    (o : FrameOrder) : toExternalMoment o s = switchExternal (frameEventWhole o s) :=
  (if_pos ⟨hw, hq⟩).trans (internalBoundary_toExternal hw o)

theorem frameFru_switch (f : Fru) (w : Switch) :
    frameFru { f with switch := w } = { frameFru f with switch := w } := by
  unfold frameFru
  dsimp only
  split <;> rfl

/-- The boundary a pending TO_INTERNAL waited for, on the reference items its frame event finds. -/
theorem toInternalMoment_boundary {s : State} (hs : s.fru.state ≠ .internal) (hw : s.fru.switch = .toInternal)
    (o : FrameOrder) :
    toInternalMoment o s = switchInternal (frameEventWhole o { s with fru := frameFru s.fru }) := by
  by_cases he : s.fru.state = .external
  · rw [toInternalMoment_external he hw]
    rw [frameFru_external he]
    exact wckFrameEdge_toInternal
      (s := { s with fru := { s.fru with periodOpen := true, place := placeAfterFrame s.fru.divisor } }) hw o
  · rw [show frameFru s.fru = s.fru from if_neg he, ← internalBoundary_toInternal hw]
    unfold toInternalMoment
    rw [if_pos hw]
    cases h : s.fru.state with
    | internal => exact absurd h hs
    | qualifying => rfl
    | fallback => rfl
    | external => exact absurd h he

theorem exec_switchToExternal {s : State} (hp : s.phase = .running) (o : FrameOrder) :
    exec (.switchToExternal o) s = .next (toExternalMoment o s) := congrArg Host.Outcome.next (whenRunning_running hp)

theorem switchExternal_pending (v : State) (w : Switch) : switchExternal (v.withSwitch w) =
    referenceChange { v.fru with state := .external, run := 0, switch := .none, place := .awaitFirst } v := rfl

theorem switchInternal_pending (v : State) (w : Switch) : switchInternal (v.withSwitch w) =
    referenceChange { v.fru with
      state := if v.fru.state = .external ∧ v.fru.requested = .external then .qualifying else .internal
      run := 0, switch := .none, divisor := v.fru.nextDivisor, periodOpen := false } v := rfl

/-- Settles O19: the boundary is the frame event that no switch waits for, then the change of the reference. -/
theorem switchesTakeEffect : Obligations.SwitchesTakeEffect := by
  intro s o hp quiet
  have hframe : exec (.frameEvent o) quiet = .next (frameEventWhole o { quiet with fru := frameFru quiet.fru }) :=
    exec_frameEvent (s := quiet) hp rfl o
  refine ⟨fun hq hw => ?_, fun hs hw => ?_⟩
  · have hfru : frameFru quiet.fru = quiet.fru := if_neg (by
      rcases (isQualifying_iff _).1 hq with h | h <;> simp [quiet, h])
    rw [hfru] at hframe
    have hswitch : toExternalMoment o s = switchExternal ((frameEventWhole o quiet).withSwitch .toExternal) := by
      rw [toExternalMoment_boundary hq hw, frameEventWhole_pending hw]
      rfl
    have hunset := frameEventWhole_unset (s := quiet) (o := o)
    obtain ⟨hphase, hstraps, hvfru, -, -, hrotation, -⟩ := frameEventWhole_keeps o quiet
    generalize frameEventWhole o quiet = v at hframe hswitch hunset hphase hstraps hvfru hrotation
    rw [switchExternal_pending, hvfru] at hswitch
    refine ⟨v, _, hframe, (exec_switchToExternal hp o).trans (congrArg Host.Outcome.next hswitch), rfl, fun hu => ?_,
      fun p hf hsrc => ?_, fun i hpres hsend hroom => referenceChange_told hpres hsend hroom, ?_, ?_, ?_⟩
    · obtain ⟨hg, hl⟩ := hunset hu
      refine ⟨by simpa using hg, fun l => ?_⟩
      simp only [State.lane, referenceChange_keeps]
      exact hl l
    · simpa using referenceChange_pin hf hsrc
    · simpa using hstraps
    · simpa using hrotation
    · simpa using hphase
  · have hstate := (frameFru_keeps quiet.fru).2.2
    have hcount := (frameFru_keeps quiet.fru).1
    have hrest : (frameFru quiet.fru).requested = s.fru.requested ∧ (frameFru quiet.fru).nextDivisor = s.fru.nextDivisor := by
      unfold frameFru
      split <;> exact ⟨rfl, rfl⟩
    obtain ⟨hrequested, hdivisor⟩ := hrest
    generalize hf : frameFru quiet.fru = f at hframe hstate hcount hrequested hdivisor
    have hswitch : toInternalMoment o s =
        switchInternal ((frameEventWhole o { quiet with fru := f }).withSwitch .toInternal) := by
      have hfound : frameFru s.fru = { f with switch := .toInternal } := by
        rw [← hf, ← frameFru_switch]
        exact congrArg frameFru (congrArg (fun w => { s.fru with switch := w }) hw)
      have hbegun : ({ s with fru := frameFru s.fru } : State) = ({ quiet with fru := f } : State).withSwitch .toInternal :=
        congrArg (fun f => { s with fru := f }) hfound
      rw [toInternalMoment_boundary hs hw, hbegun, SwitchBlind.frameEventWhole]
    obtain ⟨hphase, hstraps, hvfru, -, -, hrotation, -⟩ := frameEventWhole_keeps o { quiet with fru := f }
    generalize frameEventWhole o { quiet with fru := f } = v at hframe hswitch hphase hstraps hvfru hrotation
    rw [switchInternal_pending] at hswitch
    have hnext : (if v.fru.state = .external ∧ v.fru.requested = .external then .qualifying else .internal : RefState) =
        if s.fru.state = .external ∧ s.fru.requested = .external then .qualifying else .internal := by
      rw [hvfru]
      simp [hstate, hrequested, quiet]
    rw [hnext, show v.fru.nextDivisor = s.fru.nextDivisor by rw [hvfru]; exact hdivisor] at hswitch
    refine ⟨v, _, hframe, (exec_switchToInternal hp o).trans (congrArg Host.Outcome.next hswitch), ?_, rfl, ?_, ?_,
      fun p hf hsrc => ?_, fun i hpres hsend hroom => referenceChange_told hpres hsend hroom, ?_, ?_, ?_⟩
    · rw [hvfru]
      simp [hcount, quiet]
    · simp [hvfru, hdivisor]
    · simp [hvfru, hrequested]
    · refine (referenceChange_pin hf hsrc).trans (decide_eq_false ?_)
      dsimp only
      split <;> simp
    · simpa using hstraps
    · simpa using hrotation
    · simpa using hphase

end Sys2Proof.Machine
end


section
/-! PROOF. Start-up: the straps at the release of RSTN, then frames from count 1, on the state the scene load leaves (R203,
R39, R207; O8). -/

namespace Sys2Proof.Machine

theorem execRstnRelease_reset {s : State} (hp : s.phase = .reset) (x : Straps) :
    execRstnRelease x s = .next { s with
      phase := .starting
      straps := x
      fru := { s.fru with
        requested := if x.external then .external else .internal
        state := if x.external then .qualifying else .internal } } := congrArg Host.Outcome.next (if_pos hp)

theorem exec_oscillatorStarted {s : State} (hp : s.phase = .starting) :
    exec .oscillatorStarted s = .next { sceneStep s with
      phase := .running, fru := { (sceneStep s).fru with count := 1 } } := congrArg Host.Outcome.next (if_pos hp)

/-! ### The scene load step (R207) -/

theorem sceneStep_notRequested {s : State} (h : s.straps.load = false) : sceneStep s = withOutcome .notRequested s := by
  simp [sceneStep, h]

theorem sceneStep_invalid {s : State} (h : s.straps.load = true) (hv : s.store.valid = false) :
    sceneStep s = withOutcome .invalid s := by
  simp [sceneStep, h, hv]

theorem sceneStep_loaded {s : State} {sc : Scene} (h : s.straps.load = true) (hv : s.store.valid = true)
    (hsc : s.store.stored = some sc) : sceneStep s = withOutcome .loaded (loadScene sc s) := by
  simp [sceneStep, h, hv, hsc]

/-- The lanes stored as not OFF hold their pins (R126). -/
theorem holdsPin_sceneItems (sc : Scene) (s : State) (l : LaneId) (p : PinId) : holdsPin (sceneItems sc s) l p ↔
    sc.lanes[l].off = false ∧ sc.lanes[l].settings.kind = .pin ∧ sc.lanes[l].settings.target = .pin p := by
  unfold holdsPin
  rw [sceneItems_lane, loadedLane_off]
  exact Iff.rfl

/-- The state of a level source (R161). -/
theorem levelOf_true (s : State) (x : Option Source) : (x.bind (levelOf s)).getD false = true ↔ match x with
    | some .leadHeld => s.lead.holder.isSome
    | some .holdover => s.grid.state = .holdover
    | some .externalRef => s.fru.state = .external
    | some .seizeFailed => s.lead.latch.isSome
    | some .playing => s.tc.state = .playing ∨ s.tc.state = .stopping
    | _ => False := by
  rcases x with _ | x
  · simp
  · cases x <;> simp [levelOf]

/-- An indicator of a level source shows its source's state; any other loaded pin is INACTIVE (R161, R175). -/
theorem loadedPin_level (s : State) (x : ScenePin) : (loadedPin s x).level = true ↔
    x.function = .indicator ∧ (x.source.bind (levelOf s)).getD false = true := by
  by_cases h : x.function = .indicator <;> simp [loadedPin, h]

/-- Settles O8, on the state that the scene load step leaves to the first frame event. -/
theorem startUpBeginsFrames : Obligations.StartUpBeginsFrames := by
  refine ⟨fun s x hp => execRstnRelease_reset hp x, fun s hp => ⟨fun hload => ?_, fun hload hv => ?_, ?_⟩⟩
  · rw [exec_oscillatorStarted hp, sceneStep_notRequested hload]
    rfl
  · rw [exec_oscillatorStarted hp, sceneStep_invalid hload hv]
    rfl
  · intro sc hload hv hsc _
    obtain ⟨v, hscene, hheld, hfree⟩ := loadScene_pins sc s
    refine ⟨_, exec_oscillatorStarted hp, ?_⟩
    rw [sceneStep_loaded hload hv hsc, hscene]
    refine ⟨rfl, rfl, rfl, rfl, rfl, rfl, sceneItems_lane sc s, sceneItems_input sc s, sceneItems_port sc s, fun p => ?_,
      fun i => ⟨rfl, rfl⟩, rfl, rfl⟩
    show v[p].polarity = _ ∧ v[p].timing = _ ∧ v[p].activeUntil = _ ∧
      if _ then v[p].function = _ ∧ v[p].level = _ ∧ v[p].source = _
      else v[p].function = _ ∧ v[p].source = _ ∧ (v[p].level = true ↔ _)
    simp only [holdsPin_sceneItems] at hheld hfree
    split
    · next h =>
      rw [hheld p h]
      exact ⟨rfl, rfl, rfl, rfl, rfl, rfl⟩
    · next h =>
      rw [hfree p h]
      exact ⟨rfl, rfl, rfl, rfl, rfl, (loadedPin_level _ _).trans (and_congr_right fun _ => levelOf_true _ _)⟩

end Sys2Proof.Machine
end

section
/-! PROOF. The marks of a station that does not hold the lead, and the settings of the mark inputs (R41, R45, R48, R49,
R59; O27, O30). -/

namespace Sys2Proof.Machine

/-! ### A Mark (R41, R59) -/

theorem holderTerms_outside {s : State} {st : Station} (hno : ∀ h, s.lead.holder = some h → h.station ≠ st) :
    holderTerms s st = none := by
  unfold holderTerms
  split
  · next h hh => exact if_neg (hno h hh)
  · rfl

/-- A mark of a station that does not hold the lead changes its record alone (R59). -/
theorem beatMark_outside {s : State} {st : Station} (hno : ∀ h, s.lead.holder = some h → h.station ≠ st) (stamp : Frame)
    (down : Bool) : beatMark st stamp down s =
      s.setFollower st (followerAfter (markOutcome stamp (s.follower st)) stamp (s.follower st)) := by
  have hterms : ∀ x, holderTerms (s.setFollower st x) st = none := fun x => holderTerms_outside hno
  simp only [beatMark, markHandOffs, hterms]

theorem markOwner_absent {s : State} {st : Station} {f : List Byte} (h : (s.link st).present = false) :
    markOwner st f s = (s, .answer .noChange 6) := by
  simp [markOwner, h, answered, outcomeByte]

/-- The record after an ACCEPTED mark, with an estimate where it held a history (R48, R49). -/
theorem followerAfter_accepted_record {stamp a : Frame} {r : Follower} (h : r.lastStamp = some a) :
    followerAfter .accepted stamp r =
      ⟨min 65535 (r.runCount + 1), some stamp, ((stamp - a).toNat :: r.history).take 8,
        if r.history = [] then none
        else some ((2 * (2880000000 * (((stamp - a).toNat :: r.history).take 8).length) +
          (((stamp - a).toNat :: r.history).take 8).sum) / (2 * (((stamp - a).toNat :: r.history).take 8).sum)),
        r.phaseError⟩ := by
  by_cases hh : r.history = []
  · rw [followerAfter_accepted_first h hh, if_pos hh, hh]
    rfl
  · rw [followerAfter_accepted h hh, if_neg hh]

/-- Settles O27: the record takes the mark by the outcome of its interval tests, and nothing is handed on. -/
theorem markUpdatesTheRecord : Obligations.MarkUpdatesTheRecord := by
  intro s st tag back down hb hc ends r stamp mean taken more
  refine ⟨fun hp => ?_, fun hp hno => ?_⟩
  · have hp' : ((afterTaking st s).link st).present = false := by simpa using hp
    have hsame : (afterTaking st s).setFollower st r = afterTaking st s := setFollower_self (afterTaking st s) st
    refine (exec_mark hc).trans ?_
    rw [markOwner_absent hp', hsame]
  have hends : ∀ {o code}, markOutcome stamp r = o → markResult o (decide (4800 < back)) = code →
      ends (followerAfter o stamp r) code (outcomeByte o) := fun {o _} ho hcode =>
    (mark_ends hc hp hb ho).trans (by
      rw [beatMark_outside (s := afterTaking st s) hno, afterTaking_follower,
        show markOutcome _ (s.follower st) = o from ho, hcode])
  refine ⟨fun hn => ?_, fun a ha => ⟨fun hi => ?_, fun hi hu => ?_, fun hi => ?_, fun hl hu hne hfar => ?_,
    fun hl hu hnear => ?_⟩⟩
  · exact hends (markOutcome_first hn) (markResult_role rfl back)
  · exact hends (markOutcome_outOfOrder ha hi) rfl
  · exact hends (markOutcome_restart ha hi hu) (markResult_role rfl back)
  · exact hends (markOutcome_bounce ha hi) (markResult_bounce back)
  · have hx := hends (markOutcome_outlier ha hl hu hne hfar) (markResult_role rfl back)
    rwa [followerAfter_outlier ha] at hx
  · have hx := hends (markOutcome_accepted ha hl hu hnear) (markResult_role rfl back)
    rwa [followerAfter_accepted_record ha] at hx

/-! ### Input Set (R45) -/

theorem readInputStation_stationOpt (o : Option Station) : readInputStation (stationOpt o).toNat = some o := by
  cases o with
  | none => rfl
  | some st => fin_cases st <;> rfl

theorem readInputStation_outside {b : Byte} (h : ¬ (b = 0xFF ∨ b.toNat < 4)) : readInputStation b.toNat = none := by
  obtain ⟨hnone, hstation⟩ := not_or.1 h
  have hne : b.toNat ≠ 255 := fun e => hnone (BitVec.eq_of_toNat_eq e)
  simp [readInputStation, hne, hstation]

theorem readEdge_edgeByte (e : EdgeKind) : readEdge (edgeByte e).toNat = some e := by cases e <;> rfl

theorem readEdge_outside {n : Nat} (h : 3 ≤ n) : readEdge n = none := by
  obtain ⟨k, rfl⟩ := Nat.exists_eq_add_of_le' h
  rfl

section
variable {i b c hi lo fl : Byte}

theorem readInputSetting_outside (h : ¬ (b = 0xFF ∨ b.toNat < 4) ∨ 3 ≤ c.toNat) :
    readInputSetting [i, b, c, hi, lo, fl] = none := by
  rcases h with h | h
  · have hs : readInputStation (f1 [i, b, c, hi, lo, fl] 1) = none := readInputStation_outside h
    simp [readInputSetting, hs]
  · have he : readEdge (f1 [i, b, c, hi, lo, fl] 2) = none := readEdge_outside h
    simp [readInputSetting, he]

theorem readInputSetting_sent {o : Option Station} {e : EdgeKind} (hb : b = stationOpt o) (hc : c = edgeByte e) :
    readInputSetting [i, b, c, hi, lo, fl] =
      some ⟨o, e, min 12000 (max 480 (hi.toNat * 256 + lo.toNat)), fl.getLsbD 0⟩ := by
  subst hb hc
  have hs : readInputStation (f1 [i, stationOpt o, edgeByte e, hi, lo, fl] 1) = some o := readInputStation_stationOpt o
  have he : readEdge (f1 [i, stationOpt o, edgeByte e, hi, lo, fl] 2) = some e := readEdge_edgeByte e
  simp only [readInputSetting, hs, he]
  rw [clampNat_eq _ (by decide)]
  rfl

/-- The input that the first field names. -/
theorem inputField (n : InputId) (hn : n.val = i.toNat) : fFin 2 [i, b, c, hi, lo, fl] 0 = some n := by
  have hlt : f1 [i, b, c, hi, lo, fl] 0 < 2 := hn.symm.trans_lt n.isLt
  exact (dif_pos hlt).trans (congrArg some (Fin.ext hn.symm))

theorem inputField_outside (h : 2 ≤ i.toNat) : fFin 2 [i, b, c, hi, lo, fl] 0 = none := dif_neg (Nat.not_lt.2 h)

end

theorem exec_inputSet {s : State} {st : Station} {tag : Byte} {i b c hi lo fl : Byte}
    (hc : canTake st 0x0B tag [i, b, c, hi, lo, fl] s) :
    exec (.inputSet st tag [i, b, c, hi, lo, fl]) s =
      .next (placeReply st 0x0B tag (inputSetOwner st [i, b, c, hi, lo, fl] (afterTaking st s)).2
        (inputSetOwner st [i, b, c, hi, lo, fl] (afterTaking st s)).1) :=
  congrArg Host.Outcome.next (takeRequest_taken hc (by simp))

section
variable {s : State} {st : Station} {f : List Byte} {n : InputId} (hp : (s.link st).present = true)
  (hn : fFin 2 f 0 = some n) (hfree : (s.input n).setting.station = none ∨ (s.input n).setting.station = some st)
include hfree

theorem input_free : ¬ ((s.input n).setting.station.isSome ∧ (s.input n).setting.station ≠ some st) := by
  rintro ⟨hsome, hne⟩
  rcases hfree with h | h
  · simp [h] at hsome
  · exact hne h

include hp hn

theorem inputSetOwner_refuses (hr : readInputSetting f = none) : inputSetOwner st f s = (s, .answer .badField 0) := by
  simp [inputSetOwner, hp, hn, input_free hfree, hr, answered]

theorem inputSetOwner_writes {new : InputSetting} (hr : readInputSetting f = some new) :
    inputSetOwner st f s = (s.setInput n { s.input n with setting := new },
      .answer (clampedOr (decide (new.holdOff ≠ f2 f 3)) (if new = (s.input n).setting then .noChange else .ok)) 0) := by
  simp only [inputSetOwner, hp, hn, input_free hfree, hr, Bool.not_true, Bool.false_eq_true, if_false]

end

/-- A hold-off is told as clamped exactly where it lay outside its range (R45). -/
theorem clampedOr_holdOff (n : Nat) (r : ResultCode) :
    clampedOr (decide (min 12000 (max 480 n) ≠ n)) r = if n < 480 ∨ 12000 < n then .clamped else r := by
  have hrange : min 12000 (max 480 n) ≠ n ↔ n < 480 ∨ 12000 < n := by omega
  simp only [clampedOr, hrange, decide_eq_true_eq]

/-- Settles O30: the checks of R45 in their order, then the setting. -/
theorem inputSetWritesTheSetting : Obligations.InputSetWritesTheSetting := by
  intro s st tag i b c hi lo fl hc ends s1
  have hends : ∀ {u code}, inputSetOwner st [i, b, c, hi, lo, fl] s1 = (u, .answer code 0) → ends u code :=
    fun h => (exec_inputSet hc).trans (by rw [h])
  refine ⟨fun hp => ?_, fun hp hbad => ?_, fun hp n hn => ⟨fun o ho hne => ?_, fun hfree => ?_⟩⟩
  · have hp' : (s1.link st).present = false := by simpa [s1] using hp
    exact hends (by simp [inputSetOwner, hp', answered])
  · have hp' : (s1.link st).present = true := by simpa [s1] using hp
    exact hends (by simp [inputSetOwner, hp', inputField_outside hbad, answered])
  · have hp' : (s1.link st).present = true := by simpa [s1] using hp
    have hheld : (s1.input n).setting.station = some o := ho
    exact hends (by simp [inputSetOwner, hp', inputField n hn, hheld, hne, answered])
  · have hp' : (s1.link st).present = true := by simpa [s1] using hp
    have hfield := inputField (b := b) (c := c) (hi := hi) (lo := lo) (fl := fl) n hn
    refine ⟨fun hbad => ?_, fun o e hb he => ?_⟩
    · exact hends (inputSetOwner_refuses hp' hfield hfree (readInputSetting_outside hbad))
    · intro sent new
      refine hends ((inputSetOwner_writes hp' hfield hfree (readInputSetting_sent hb he)).trans ?_)
      exact congrArg (fun code => (_, Reply.answer code 0)) (clampedOr_holdOff sent _)

end Sys2Proof.Machine
end

section
/-! PROOF. Stamps, edge frames, timers and emission frames run out at their frames (R43, R50, R60, R145, R155; O32). -/

namespace Sys2Proof.Machine

theorem lastEmissionExpire_eq {now : Frame} {ln : Lane} {a : Frame} (ha : ln.lastEmission = some a) :
    lastEmissionExpire now ln = if 2147483648 ≤ (now - a).toNat then { ln with lastEmission := none } else ln := by
  simp only [lastEmissionExpire, ha]
  exact if_congr decide_eq_true_iff rfl rfl

theorem activeUntilExpire_eq {now : Frame} {p : Pin} {a : Frame} (ha : p.activeUntil = some a) :
    activeUntilExpire now p =
      if p.timing = false ∧ 1073741824 ≤ (now - a).toNat ∧ (now - a).toNat < 2147483648 then
        { p with activeUntil := none }
      else p := by
  simp only [activeUntilExpire, ha, Bool.and_eq_true, Bool.not_eq_true', reached30_iff]

theorem dueReached_iff (d now : Frame) : dueReached d now = true ↔ (now - d).toNat < 2147483648 := decide_eq_true_iff

theorem timerEnd_eq {now : Frame} {p : Pin} {a : Frame} (ha : p.activeUntil = some a) :
    timerEnd now p =
      if p.timing = true ∧ (now - a).toNat < 2147483648 then { p with level := false, timing := false } else p := by
  simp only [timerEnd, ha, Bool.and_eq_true, dueReached_iff]

/-- Settles O32: each item against its own test, at its own command. -/
theorem itemsExpireAtTheirFrames : Obligations.ItemsExpireAtTheirFrames := by
  intro s hp past
  have hmoment : ∀ f : State → State, Host.Outcome.next (φ := Fault) (ρ := Refusal) (whenRunning f s) = .next (f s) :=
    fun f => congrArg Host.Outcome.next (whenRunning_running hp)
  refine ⟨fun st => hmoment _, fun st a ha => (hmoment _).trans ?_, fun i a ha => (hmoment _).trans ?_,
    fun l a ha => (hmoment _).trans ?_, fun p a ha => (hmoment _).trans ?_, fun p a ha => (hmoment _).trans ?_⟩
  · rw [followerExpire_eq, ha]
  · rw [edgeExpire_eq, ha]
  · rw [lastEmissionExpire_eq ha]
  · rw [activeUntilExpire_eq ha]
  · rw [timerEnd_eq ha]

end Sys2Proof.Machine
end

section
/-! PROOF. The edges of the mark inputs, and why a mark does the same whatever the inputs, the links and the rotation
pointer hold (R42 to R44; O31). -/

namespace Sys2Proof.Machine

/-! ### What a mark reads (R48 to R58) -/

/-- The mark inputs, the links and the rotation pointer given anew. -/
def State.withLines (s : State) (i : Vector MarkInput 2) (l : Vector Link 4) (r : Station) : State :=
  { s with inputs := i, links := l, rotation := r }

/-- An operation that reads neither the mark inputs nor the links nor the rotation pointer, and of these may write the
links alone. -/
def LineBlind (f : State → State) : Prop := ∀ (s : State) (i : Vector MarkInput 2) (l : Vector Link 4) (r : Station),
  ∃ l', f (s.withLines i l r) = (f s).withLines i l' r

namespace LineBlind

theorem refl : LineBlind fun s => s := fun _ _ l _ => ⟨l, rfl⟩

theorem comp {f g : State → State} (hf : LineBlind f) (hg : LineBlind g) : LineBlind fun s => f (g s) := by
  intro s i l r
  obtain ⟨l', hl⟩ := hg s i l r
  obtain ⟨l'', hl'⟩ := hf (g s) i l' r
  exact ⟨l'', (congrArg f hl).trans hl'⟩

/-- A test that does not read these items chooses between two such operations. -/
theorem ite {c : State → Prop} [DecidablePred c] {f g : State → State} (hc : ∀ s i l r, c (s.withLines i l r) ↔ c s)
    (hf : LineBlind f) (hg : LineBlind g) : LineBlind fun s => if c s then f s else g s := by
  intro s i l r
  by_cases h : c s
  · simpa only [if_pos h, if_pos ((hc s i l r).2 h)] using hf s i l r
  · simpa only [if_neg h, if_neg (mt (hc s i l r).1 h)] using hg s i l r

theorem showSource (x : Source) : LineBlind (showSource x) := fun _ _ l _ => ⟨l, by cases x <;> rfl⟩

theorem pulseSource (x : Source) : LineBlind (pulseSource x) := fun _ _ l _ => ⟨l, rfl⟩

theorem raiseHouse (x : Reason) : LineBlind (raiseHouse x) := fun _ _ _ _ => ⟨_, rfl⟩

/-! ### The grid start (R8 to R10) -/

theorem handoverTakes : LineBlind handoverTakes := fun s i l r => ⟨l, by
  rw [handoverTakes_eq, handoverTakes_eq]
  rfl⟩

theorem transportReached : LineBlind transportReached := fun s i l r => by
  obtain hp | ⟨p, hp⟩ := Option.eq_none_or_eq_some s.tc.pending
  · rw [transportReached_none hp, transportReached_none (s := s.withLines i l r) hp]
    exact ⟨l, rfl⟩
  · by_cases hb : s.grid.pos.beat = p.boundary
    · rw [transportReached_met hp hb, transportReached_met (s := s.withLines i l r) hp hb]
      exact ((raiseHouse .transport).comp (showSource .playing)) { s with tc := transportAfter p.kind s.tc.songBar } i l r
    · rw [transportReached_waits hp hb, transportReached_waits (s := s.withLines i l r) hp hb]
      exact ⟨l, rfl⟩

theorem countSongBar : LineBlind countSongBar :=
  ite (c := fun s => s.grid.crossing = .bar ∧ (s.tc.state = .playing ∨ s.tc.state = .stopping)) (fun _ _ _ _ => Iff.rfl)
    (fun _ _ l _ => ⟨l, rfl⟩) refl

theorem pdCrossing : LineBlind pdCrossing :=
  ite (c := fun s => s.grid.crossing = .bar) (fun _ _ _ _ => Iff.rfl) ((pulseSource .bar).comp (pulseSource .beat))
    (pulseSource .beat)

theorem startGrid (t elapsed : Nat) : LineBlind (startGrid t elapsed) := by
  have hgrid : LineBlind fun s => { s with grid := startedGrid t elapsed s.grid } := fun _ _ l _ => ⟨l, rfl⟩
  have hlanes : LineBlind fun s => { s with lanes := mapEach s.lanes fun _ ln => startLane ln } := fun _ _ l _ => ⟨l, rfl⟩
  exact pdCrossing.comp (transportReached.comp (countSongBar.comp (hlanes.comp (handoverTakes.comp hgrid))))

/-! ### The mark (R48 to R58) -/

section
variable (st : Station) (t : Terms) (o : MarkOutcome) (stamp : Frame) (down : Bool)

theorem followHandOff : LineBlind (followHandOff st t o) := fun s i l r => by
  have hrecord : (s.withLines i l r).follower st = s.follower st := rfl
  unfold Machine.followHandOff
  rw [hrecord]
  cases (s.follower st).estimate with
  | none => exact ⟨l, rfl⟩
  | some e =>
    exact ite (c := fun _ => t.mode = .mark ∧ o = .accepted) (fun _ _ _ _ => Iff.rfl)
      (f := fun s => { s with grid := followTarget e t s.grid }) (fun _ _ l _ => ⟨l, rfl⟩) refl s i l r

theorem startHandOff : LineBlind (startHandOff st t o stamp) := fun s i l r => by
  have hrecord : (s.withLines i l r).follower st = s.follower st := rfl
  unfold Machine.startHandOff
  rw [hrecord]
  cases (s.follower st).estimate with
  | none => exact ⟨l, rfl⟩
  | some e =>
    exact ite (c := fun _ => t.mode = .mark ∧ o = .accepted) (fun _ _ _ _ => Iff.rfl)
      (startGrid e (interval stamp s.fru.count)) refl s i l r

theorem markHandOffs : LineBlind (markHandOffs st o stamp down) := fun s i l r => by
  have hterms : holderTerms (s.withLines i l r) st = holderTerms s st := rfl
  have hgrid : (s.withLines i l r).grid = s.grid := rfl
  unfold Machine.markHandOffs
  rw [hterms, hgrid]
  cases holderTerms s st with
  | none => exact ⟨l, rfl⟩
  | some t =>
    cases s.grid.state with
    | running =>
      have hphase : LineBlind (phaseHandOffs st t stamp down) := fun _ _ l _ => ⟨l, rfl⟩
      exact ite (c := fun _ => hasPhaseRole o = true) (fun _ _ _ _ => Iff.rfl) ((followHandOff st t o).comp hphase) refl
        s i l r
    | unset => exact startHandOff st t o stamp s i l r
    | holdover => exact ⟨l, rfl⟩

theorem beatMark : LineBlind (beatMark st stamp down) := fun s i l r =>
  markHandOffs st (markOutcome stamp (s.follower st)) stamp down
    (s.setFollower st (followerAfter (markOutcome stamp (s.follower st)) stamp (s.follower st))) i l r

end

end LineBlind

/-! ### The edge (R42, R43) -/

theorem edgeSelected_iff (e : EdgeKind) (c : LevelChange) :
    edgeSelected e c = true ↔ ¬ (e = .rising ∧ c = .highToLow ∨ e = .falling ∧ c = .lowToHigh) := by
  cases e <;> cases c <;> simp [edgeSelected]

theorem holdOffOver_iff (m : MarkInput) (now : Frame) :
    holdOffOver m now = true ↔ ¬ ∃ a, m.lastEdge = some a ∧ (now - a).toNat < m.setting.holdOff := by
  unfold holdOffOver
  cases m.lastEdge with
  | none => simp
  | some a =>
    rw [decide_eq_true_iff]
    simp [interval]

section
variable {s : State} {i : InputId} {change : LevelChange}

theorem exec_markInputEdge (hp : s.phase = .running) :
    exec (.markInputEdge i change) s = .next (inputEdge i change s) :=
  congrArg Host.Outcome.next (whenRunning_running hp)

/-- An edge that is not detected, or that falls within the hold-off, is discarded (R42, R43). -/
theorem inputEdge_discarded (h : (s.input i).setting.station = none ∨
    ¬ (edgeSelected (s.input i).setting.edge change && holdOffOver (s.input i) s.fru.count) = true) :
    inputEdge i change s = s := by
  unfold inputEdge
  dsimp only
  split
  · rfl
  · next st hst => exact if_neg (h.resolve_left (by simp [hst]))

theorem inputEdge_delivered {st : Station} (hst : (s.input i).setting.station = some st)
    (h : (edgeSelected (s.input i).setting.edge change && holdOffOver (s.input i) s.fru.count) = true) :
    inputEdge i change s = deliveredMark st (s.input i) (s.setInput i { s.input i with
      lastEdge := some s.fru.count, lastOutcome := some (deliveredOutcome st (s.input i) s) }) := by
  simp only [inputEdge, hst, h, if_true]

end

/-! ### The delivery (R44) -/

section
variable {s : State} {st : Station} {m : MarkInput}

theorem deliveredOutcome_ignored (h : (s.link st).present = false ∨ m.setting.downbeat = true ∧
    ((∀ h, s.lead.holder = some h → h.station ≠ st) ∨ s.grid.state ≠ .running)) :
    deliveredOutcome st m s = .ignored := by
  rcases h with hp | ⟨hd, hno | hs⟩
  · simp [deliveredOutcome, hp]
  · simp [deliveredOutcome, hd, holds_false hno]
  · simp [deliveredOutcome, hd, hs]

theorem deliveredMark_ignored (h : (s.link st).present = false ∨ m.setting.downbeat = true ∧
    ((∀ h, s.lead.holder = some h → h.station ≠ st) ∨ s.grid.state ≠ .running)) : deliveredMark st m s = s := by
  rcases h with hp | ⟨hd, hno | hs⟩
  · simp [deliveredMark, hp]
  · simp [deliveredMark, hd, holderTerms_outside hno]
  · simp only [deliveredMark, hd, hs, if_true, if_false]
    split
    · rfl
    · split <;> rfl

theorem deliveredOutcome_mark (hp : (s.link st).present = true) (hd : m.setting.downbeat = false) :
    deliveredOutcome st m s = markOutcome s.fru.count (s.follower st) := by
  simp [deliveredOutcome, hp, hd]

theorem deliveredMark_mark (hp : (s.link st).present = true) (hd : m.setting.downbeat = false) :
    deliveredMark st m s = beatMark st s.fru.count false s := by
  simp [deliveredMark, hp, hd]

theorem deliveredOutcome_bar {t : Terms} (hp : (s.link st).present = true) (hd : m.setting.downbeat = true)
    (hh : s.lead.holder = some ⟨st, t⟩) (hs : s.grid.state = .running) : deliveredOutcome st m s = .bar := by
  simp [deliveredOutcome, hp, hd, holds_of_holder hh, hs]

theorem deliveredMark_bar {t : Terms} (hp : (s.link st).present = true) (hd : m.setting.downbeat = true)
    (hh : s.lead.holder = some ⟨st, t⟩) (hs : s.grid.state = .running) :
    deliveredMark st m s = phaseHandOffs st t s.fru.count true s := by
  simp [deliveredMark, hp, hd, holderTerms_of_holder hh, hs]

end

/-! ### The downbeat at the position itself (R14, R52) -/

theorem Pos.sub_zero (p : Pos) : p.sub 0 = p := by
  have hbeat : (p.sub 0).beat = p.beat := by
    apply BitVec.eq_of_toNat_eq
    have := p.beat.isLt
    have := p.frac.isLt
    simp only [Pos.sub, Pos.ofU, Pos.toU, Config.beatU, BitVec.toNat_ofNat]
    omega
  have hfrac : (p.sub 0).frac = p.frac := by
    apply BitVec.eq_of_toNat_eq
    have := p.frac.isLt
    simp only [Pos.sub, Pos.ofU, Pos.toU, Config.beatU, BitVec.toNat_ofNat]
    omega
  exact congrArg₂ Pos.mk hbeat hfrac

theorem positionAtStamp_now (count : Frame) (g : Grid) : positionAtStamp count count g = g.pos := by
  have hnow : interval count count = 0 := by simp [interval]
  rw [positionAtStamp, hnow, Nat.zero_mul, Pos.sub_zero]

/-- The correction of a BAR edge: the bar start is the beat of the position, or the beat after it where the edge is early
(log entry 31). -/
theorem phaseCorrected_now {t : Terms} {count : Frame} {g : Grid} {e : Int} (hl : -2147483648 ≤ e) (hu : e ≤ 2147483647)
    (hf : g.pos.frac = BitVec.ofInt 32 e) : phaseCorrected t count count true g = { g with
      trim := trimArmed (roundInt (e * t.gain * g.baseInc) (8 * 4294967296)) g.trim
      barStart := if 0 ≤ e then g.pos.beat else g.pos.beat + 1
      beatInBar := if 0 ≤ e then 0 else g.meter - 1 } := by
  have hpos : positionAtStamp count count g = ⟨g.pos.beat, BitVec.ofInt 32 e⟩ := by
    rw [positionAtStamp_now, ← hf]
  rw [phaseCorrected_eq hpos hl hu]
  by_cases he : 0 ≤ e
  · simp [he]
  · simp [he]

/-- The edge is detected and does not fall within the hold-off. -/
theorem edge_taken_iff (m : MarkInput) (change : LevelChange) (now : Frame) :
    (edgeSelected m.setting.edge change && holdOffOver m now) = true ↔
      ¬ (m.setting.edge = .rising ∧ change = .highToLow ∨ m.setting.edge = .falling ∧ change = .lowToHigh) ∧
      ¬ ∃ a, m.lastEdge = some a ∧ (now - a).toNat < m.setting.holdOff := by
  rw [Bool.and_eq_true, edgeSelected_iff, holdOffOver_iff]

/-- Settles O31: an edge that is taken writes its input and is delivered as R44 says, and a mark that reads neither the
inputs nor the links is the Mark of the station. -/
theorem edgesBecomeMarks : Obligations.EdgesBecomeMarks := by
  intro s i change hp m wrongWay tooSoon tested
  refine ⟨fun hno => ?_, fun st hst hway hsoon => ?_⟩
  · refine (exec_markInputEdge hp).trans (congrArg Host.Outcome.next (inputEdge_discarded ?_))
    refine hno.imp_right fun h htaken => ?_
    obtain ⟨hway, hsoon⟩ := (edge_taken_iff m change s.fru.count).1 htaken
    exact h.elim hway hsoon
  have hends : ∀ {o u}, deliveredOutcome st m s = o → deliveredMark st m (tested o) = u →
      exec (.markInputEdge i change) s = .next u := by
    rintro _ _ rfl rfl
    exact (exec_markInputEdge hp).trans (congrArg Host.Outcome.next
      (inputEdge_delivered hst ((edge_taken_iff m change s.fru.count).2 ⟨hway, hsoon⟩)))
  have hmarks : ∀ {o}, (s.link st).present = true → m.setting.downbeat = false →
      markOutcome s.fru.count (s.follower st) = o →
      exec (.markInputEdge i change) s = .next (beatMark st s.fru.count false (tested o)) := fun hpres hd ho =>
    hends ((deliveredOutcome_mark hpres hd).trans ho) (deliveredMark_mark (s := tested _) hpres hd)
  refine ⟨fun h => ?_, fun hpres hd hout hn => ?_, fun t e hpres hd hh hs hl hu hf => ?_, fun hpres hd tag hc => ?_⟩
  · exact hends (deliveredOutcome_ignored h) (deliveredMark_ignored (s := tested .ignored) h)
  · have ho := markOutcome_first (stamp := s.fru.count) hn
    rw [hmarks hpres hd ho, beatMark_outside (s := tested .first) hout]
    show Host.Outcome.next ((tested .first).setFollower st
      (followerAfter (markOutcome s.fru.count (s.follower st)) s.fru.count (s.follower st))) = _
    rw [ho]
    rfl
  · intro d
    refine hends (deliveredOutcome_bar hpres hd hh hs) ((deliveredMark_bar (s := tested .bar) hpres hd hh hs).trans ?_)
    have herr : phaseError (positionAtStamp s.fru.count s.fru.count s.grid) = e := by
      rw [positionAtStamp_now, ← phaseError_ofInt s.grid.pos.beat hl hu, ← hf]
    have hcorr := phaseCorrected_now (t := t) (count := s.fru.count) hl hu hf
    rw [phaseHandOffs_eq]
    show ({ (tested .bar).setFollower st { s.follower st with
        phaseError := some (phaseError (positionAtStamp s.fru.count s.fru.count s.grid)) } with
      grid := phaseCorrected t s.fru.count s.fru.count true s.grid } : State) = _
    rw [herr, hcorr]
    cases htrim : s.grid.trim <;> rfl
  · obtain ⟨o, ho⟩ : ∃ o, markOutcome s.fru.count (s.follower st) = o := ⟨_, rfl⟩
    have hstamp : s.fru.count - BitVec.ofNat 32 (min 4800 0) = s.fru.count := by simp
    have hmark := mark_ends (back := 0) (down := false) hc hpres (by decide) (hstamp.symm ▸ ho)
    rw [hstamp] at hmark
    obtain ⟨lt, ht⟩ : ∃ lt, beatMark st s.fru.count false (tested o) =
        (beatMark st s.fru.count false s).withLines (tested o).inputs lt s.rotation :=
      LineBlind.beatMark st s.fru.count false s (tested o).inputs s.links s.rotation
    obtain ⟨lu, hu⟩ : ∃ lu, beatMark st s.fru.count false (afterTaking st s) =
        (beatMark st s.fru.count false s).withLines s.inputs lu (st + 1) :=
      LineBlind.beatMark st s.fru.count false s s.inputs (afterTaking st s).links (st + 1)
    refine ⟨_, _, o, _, _, hmarks hpres hd ho, hmark, rfl, ?_⟩
    rw [ht, hu]
    exact ⟨setInput_input_same s i _, fun j hj => setInput_input_ne s i j _ hj, rfl, rfl, rfl, rfl, rfl, rfl, rfl, rfl,
      rfl, rfl⟩

end Sys2Proof.Machine
end

section
/-! PROOF. The characters of a link: the receiver state by state, and the frame that ends, with the departure before it
acted on (R60, R84, R177 to R179, R181 to R183; O57). -/

namespace Sys2Proof.Machine

/-! ### What a departure acted on leaves of an ABSENT link (R60, R84) -/

/-- The phase and the ABSENT links stay: a House Notice is placed for PRESENT links alone (R187). -/
def AbsentStays (s t : State) : Prop :=
  t.phase = s.phase ∧ ∀ i, (s.link i).present = false → t.link i = s.link i

namespace AbsentStays

theorem phase {s t : State} (h : AbsentStays s t) : t.phase = s.phase := h.1

theorem link {s t : State} (h : AbsentStays s t) (i : Station) (hi : (s.link i).present = false) :
    t.link i = s.link i := h.2 i hi

theorem of_links {s t : State} (hp : t.phase = s.phase) (hl : t.links = s.links) : AbsentStays s t :=
  ⟨hp, fun i _ => congrArg (fun v : Vector Link 4 => v[i]) hl⟩

theorem refl (s : State) : AbsentStays s s := of_links rfl rfl

theorem trans {s t u : State} (h : AbsentStays s t) (h' : AbsentStays t u) : AbsentStays s u :=
  ⟨h'.phase.trans h.phase, fun i hi =>
    (h'.link i (by rw [h.link i hi]; exact hi)).trans (h.link i hi)⟩

theorem raiseHouse (r : Reason) (s : State) : AbsentStays s (raiseHouse r s) :=
  ⟨rfl, fun i hi => by simp [hi]⟩

theorem transportReached (s : State) : AbsentStays s (transportReached s) := by
  unfold Machine.transportReached
  split
  · exact refl s
  · split
    · exact (of_links (by simp) (by simp)).trans (raiseHouse _ _)
    · exact refl s

theorem startGrid (t elapsed : Nat) (s : State) : AbsentStays s (startGrid t elapsed s) := by
  have hpulsed : ∀ u, AbsentStays u (pdCrossing u) := fun u => of_links (by simp) (by simp)
  unfold Machine.startGrid tcCrossing
  exact ((of_links (by simp) (by simp)).trans (transportReached _)).trans (hpulsed _)

theorem gridHandOff (s : State) : AbsentStays s (gridHandOff s) := by
  unfold Machine.gridHandOff
  split
  · split <;> exact of_links rfl rfl
  · split
    · split
      exacts [startGrid _ _ _, refl s]
    · dsimp only
      split <;> exact of_links (by simp) (by simp)

theorem changeHolder (new : Option LeadEntry) (q : List LeadEntry) (r : Reason) (s : State) :
    AbsentStays s (changeHolder new q r s) := by
  have htold : ∀ u, AbsentStays u (Machine.raiseHouse r (showSource .holdover (showSource .leadHeld u))) := fun u =>
    (of_links (by simp) (by simp)).trans (raiseHouse _ _)
  unfold Machine.changeHolder
  exact ((of_links (by simp) (by simp)).trans (gridHandOff _)).trans (htold _)

theorem lapseStation (st : Station) (s : State) : AbsentStays s (lapseStation st s) := by
  have hqueue : AbsentStays s { s with lead := { s.lead with queue := withoutEntry st s.lead.queue } } := of_links rfl rfl
  unfold Machine.lapseStation leaveLead
  split
  · split <;> exact changeHolder _ _ _ _
  · split
    · exact hqueue.trans (raiseHouse _ _)
    · exact refl s

end AbsentStays

theorem leadLapse_phase (st : Station) (s : State) : (leadLapse st s).phase = s.phase := by
  unfold leadLapse
  split
  · exact (AbsentStays.lapseStation _ _).phase
  · rfl

theorem leadLapse_absent {s : State} {st : Station} (hp : (s.link st).present = false) :
    (leadLapse st s).link st = { s.link st with lapseReported := false } := by
  unfold leadLapse
  split
  · rw [(AbsentStays.lapseStation _ _).link st (by simpa using hp), setLink_link_same]
  · next hn => rw [← Bool.eq_false_iff.2 hn]

theorem emptyFollower_link (st : Station) (s : State) :
    (emptyFollower st s).link st = { s.link st with emptyReported := false } := by
  unfold emptyFollower
  split
  · rw [setFollower_link, setLink_link_same]
  · next hn => rw [← Bool.eq_false_iff.2 hn]

/-- A departure acted on takes its reports back, and the ABSENT link keeps the rest (R60, R84). -/
theorem settleDeparture_absent {s : State} {st : Station} (hp : (s.link st).present = false) :
    (settleDeparture st s).link st = { s.link st with lapseReported := false, emptyReported := false } := by
  rw [settleDeparture, emptyFollower_link, leadLapse_absent hp]

theorem settleDeparture_count (st : Station) (s : State) : (settleDeparture st s).fru.count = s.fru.count :=
  ((GridStands.leadLapse st s).trans (GridStands.emptyFollower st _)).count

/-- The departure acted on by its two commands (log entry 16). -/
theorem settleDeparture_commands {s u v : State} {st : Station} (hp : s.phase = .running)
    (hu : exec (.leadLapse st) s = .next u) (hv : exec (.followerEmptied st) u = .next v) : v = settleDeparture st s := by
  have hlapse : exec (.leadLapse st) s = .next (leadLapse st s) := congrArg Host.Outcome.next (whenRunning_running hp)
  obtain rfl : leadLapse st s = u := Host.Outcome.next.inj (hlapse.symm.trans hu)
  have hempty : exec (.followerEmptied st) (leadLapse st s) = .next (emptyFollower st (leadLapse st s)) :=
    congrArg Host.Outcome.next (whenRunning_running ((leadLapse_phase st s).trans hp))
  exact (Host.Outcome.next.inj (hempty.symm.trans hv)).symm

/-! ### The receiver (R178, R179, R182) -/

section
variable {k : Link} {b : Byte}

theorem byteTaken_hunt (hr : k.receiver = .hunt) :
    byteTaken b k = (if b = 0xD5 then { k with receiver := .length } else k, false) := by
  simp only [byteTaken, hr]
  split <;> rfl

theorem byteTaken_length (hr : k.receiver = .length) :
    byteTaken b k = (if 2 ≤ b.toNat ∧ b.toNat ≤ 40 then { k with receiver := .body b.toNat [] } else framingError k,
      false) := by
  simp only [byteTaken, hr]
  split <;> rfl

theorem byteTaken_body {n : Nat} {bytes : List Byte} (hr : k.receiver = .body n bytes) :
    byteTaken b k = ({ k with receiver :=
      if bytes.length + 1 < n then .body n (bytes ++ [b]) else .check n (bytes ++ [b]) none }, false) := by
  simp only [byteTaken, hr, List.length_append, List.length_singleton]
  split <;> rfl

theorem byteTaken_high {n : Nat} {bytes : List Byte} (hr : k.receiver = .check n bytes none) :
    byteTaken b k = ({ k with receiver := .check n bytes (some b) }, false) := by
  simp only [byteTaken, hr]

theorem byteTaken_corrupt {n : Nat} {bytes : List Byte} {h : Byte} (hr : k.receiver = .check n bytes (some h))
    (hc : crc16 (BitVec.ofNat 8 n :: bytes) ≠ h ++ b) :
    byteTaken b k = ({ k with receiver := .hunt, crc := if k.crc < 255 then k.crc + 1 else 255 }, false) := by
  simp only [byteTaken, hr, if_neg hc]
  rfl

/-- The link after a frame that passed the CRC gate (R182, R183). -/
def linkReturned (bytes : List Byte) (k : Link) : Link := { k with
  receiver := .hunt
  rxQueue := if k.rxQueue.length < 4 then k.rxQueue ++ [bytes] else k.rxQueue
  overrun := if k.rxQueue.length < 4 then k.overrun else if k.overrun < 255 then k.overrun + 1 else 255
  present := true
  countdown := some (48 * k.windowMs) }

theorem frameReceived_eq (bytes : List Byte) (k : Link) :
    frameReceived bytes { k with receiver := .hunt } = linkReturned bytes k := by
  unfold frameReceived linkReturned
  by_cases hroom : k.rxQueue.length < 4
  · rw [if_pos hroom, if_pos hroom]
    exact congrArg (fun x : Link => { x with present := true, countdown := some (windowFrames x.windowMs) }) (if_pos hroom)
  · rw [if_neg hroom, if_neg hroom]
    exact congrArg (fun x : Link => { x with present := true, countdown := some (windowFrames x.windowMs) }) (if_neg hroom)

theorem byteTaken_frame {n : Nat} {bytes : List Byte} {h : Byte} (hr : k.receiver = .check n bytes (some h))
    (hc : crc16 (BitVec.ofNat 8 n :: bytes) = h ++ b) : byteTaken b k = (linkReturned bytes k, true) := by
  simp only [byteTaken, hr, if_pos hc]
  rw [← frameReceived_eq]

end

/-! ### The character (R177, R181) -/

section
variable {s : State} {st : Station} {b : Byte}

theorem exec_characterReceived (hp : s.phase = .running) (c : LineChar) :
    exec (.characterReceived st c) s = .next (characterTaken st c s) :=
  congrArg Host.Outcome.next (whenRunning_running hp)

/-- What a byte does once the departure before it was acted on, where it ends a frame. -/
def byteLands (st : Station) (b : Byte) (s : State) : State :=
  let r := byteTaken b { s.link st with lastByte := s.fru.count }
  if r.2 then pulseSource (.linkActivity st) (s.setLink st r.1) else s.setLink st r.1

theorem byteLands_within {x : Link} (hr : byteTaken b { s.link st with lastByte := s.fru.count } = (x, false)) :
    byteLands st b s = s.setLink st x := by
  unfold byteLands
  rw [hr]
  rfl

theorem byteLands_ends {x : Link} (hr : byteTaken b { s.link st with lastByte := s.fru.count } = (x, true)) :
    byteLands st b s = pulseSource (.linkActivity st) (s.setLink st x) := by
  unfold byteLands
  rw [hr]
  rfl

variable (hp : s.phase = .running) (hs : (s.link st).heldAtSpace = false)
include hp hs

theorem exec_byte : exec (.characterReceived st (.byte b)) s =
    .next (byteLands st b (if (byteTaken b (s.link st)).2 then settleDeparture st s else s)) :=
  (exec_characterReceived hp _).trans (congrArg Host.Outcome.next (if_neg (by simp [hs])))

/-- A byte that ends no frame changes its link alone. -/
theorem exec_byte_within {x : Link} (hr : byteTaken b { s.link st with lastByte := s.fru.count } = (x, false)) :
    exec (.characterReceived st (.byte b)) s = .next (s.setLink st x) := by
  have hframe := byteTaken_frame_congr (k := s.link st) (k' := { s.link st with lastByte := s.fru.count }) b rfl
  have hno : ¬ (byteTaken b (s.link st)).2 = true := by
    rw [← hframe, hr]
    exact Bool.false_ne_true
  rw [exec_byte hp hs, if_neg hno, byteLands_within hr]

/-- A byte that ends a frame, the departure before it acted on (log entry 16). -/
theorem exec_byte_ends {x : Link} (he : (byteTaken b (s.link st)).2 = true)
    (hr : byteTaken b { (settleDeparture st s).link st with lastByte := s.fru.count } = (x, true)) :
    exec (.characterReceived st (.byte b)) s =
      .next (pulseSource (.linkActivity st) ((settleDeparture st s).setLink st x)) := by
  rw [← settleDeparture_count st s] at hr
  rw [exec_byte hp hs, if_pos he, byteLands_ends hr]

/-- A frame that passes the CRC gate at an ABSENT link (R182, R183). -/
theorem exec_frame_absent {n : Nat} {bytes : List Byte} {h : Byte} (hk : (s.link st).receiver = .check n bytes (some h))
    (hc : crc16 (BitVec.ofNat 8 n :: bytes) = h ++ b) (ha : (s.link st).present = false) :
    exec (.characterReceived st (.byte b)) s = .next (pulseSource (.linkActivity st) ((settleDeparture st s).setLink st
      (linkReturned bytes { s.link st with
        lastByte := s.fru.count, lapseReported := false, emptyReported := false }))) := by
  refine exec_byte_ends hp hs (congrArg Prod.snd (byteTaken_frame hk hc)) ?_
  rw [settleDeparture_absent ha]
  exact byteTaken_frame hk hc

end

/-- A station that returns holds no lead, no queue entry and an empty record (R60, R84). -/
theorem returned_empty {s : State} {st : Station} (hsafe : Safe s) (hp : s.phase = .running)
    (ha : (s.link st).present = false) :
    (∀ e ∈ (settleDeparture st s).lead.holder.toList ++ (settleDeparture st s).lead.queue, e.station ≠ st) ∧
      (settleDeparture st s).follower st = Follower.empty := by
  have hsettled := hsafe.settleDeparture hp st
  obtain ⟨hlapse, hempty⟩ := settleDeparture_told st s
  have habsent : ((settleDeparture st s).link st).present = false := by rw [settleDeparture_absent ha]; exact ha
  exact ⟨hsettled.house.absent st habsent hlapse, hsettled.followers.absent st habsent hempty⟩

/-- Settles O57: a character by the receiver state, and a frame with the departure before it acted on. -/
theorem charactersMakeFrames : Obligations.CharactersMakeFrames := by
  refine ⟨fun s st c hp hs => (exec_characterReceived hp c).trans (congrArg Host.Outcome.next (if_pos hs)),
    fun s st hp hs => ?_⟩
  intro k k1 ends broken
  have hends : ∀ {b x}, byteTaken b k1 = (x, false) → ends b x := fun hr => exec_byte_within hp hs hr
  refine ⟨?_, fun b hr => hends (byteTaken_hunt (k := k1) hr), fun b hr => hends (byteTaken_length (k := k1) hr),
    fun b n bytes hr => hends (byteTaken_body (k := k1) hr), fun b n bytes hr => hends (byteTaken_high (k := k1) hr),
    fun b h n bytes hr => ⟨fun hc => hends (byteTaken_corrupt (k := k1) hr hc), fun hc => ?_⟩⟩
  · refine (exec_characterReceived hp _).trans (congrArg Host.Outcome.next ?_)
    simp only [characterTaken, hs, Bool.false_eq_true, if_false]
    rfl
  intro taken
  refine ⟨fun hlapse hempty => ?_, fun u v ha hu hv => ?_, fun t hsafe ht ha => ?_⟩
  · have hsettled := settleDeparture_settled (s := s) hlapse hempty
    have h := exec_byte_ends (x := taken) (b := b) hp hs (congrArg Prod.snd (byteTaken_frame hr hc))
      (by rw [hsettled]; exact byteTaken_frame (k := k1) hr hc)
    rwa [hsettled] at h
  · rw [settleDeparture_commands hp hu hv]
    exact exec_frame_absent hp hs hr hc ha
  · obtain rfl := Host.Outcome.next.inj ((exec_frame_absent hp hs hr hc ha).symm.trans ht)
    obtain ⟨hlead, hrecord⟩ := returned_empty hsafe hp ha
    exact ⟨hlead, (pulseSource_follower _ _ _).trans hrecord⟩

end Sys2Proof.Machine
end

section
/-! PROOF. Requests refused at their taking: those that only the holder may make, wrong lengths, unknown kinds and frames
that are not next (R85, R191, R193; O21). -/

namespace Sys2Proof.Machine

/-! ### A taking and its end -/

/-- A request that passes the common checks ends as its owner's part ends (R196). -/
theorem exec_request_ends {c : Instr} {st : Station} {kind tag : Byte} {f : List Byte} {lengths : List Nat}
    {owner : State → State × Reply} {s u : State} {r : Reply}
    (hexec : exec c s = .next (takeRequest st kind tag f lengths owner s)) (hc : canTake st kind tag f s)
    (hl : f.length + 2 ∈ lengths) (ho : owner (afterTaking st s) = (u, r)) :
    exec c s = .next (placeReply st kind tag r u) := by
  rw [hexec, takeRequest_taken hc hl, ho]

/-- A frame handed over while another is next is not taken (R191; log entry 7). -/
theorem takeFrame_other {st : Station} {body : List Byte} {s : State} {x : Station × List Byte}
    (hn : nextFrame s = some x) (hx : x ≠ (st, body)) : takeFrame st body s = none := by
  simp [takeFrame, hn, hx]

theorem takeFrame_canTake {st : Station} {kind tag : Byte} {f : List Byte} {s : State} (hc : canTake st kind tag f s) :
    takeFrame st (kind :: tag :: f) s = some (afterTaking st s) := by
  obtain ⟨-, hn | hn⟩ := hc <;> simp [takeFrame, hn]

/-! ### The requests of the holder (R85) -/

section NotHolder

variable {s : State} {st : Station} {f : List Byte} (hno : ∀ h, s.lead.holder = some h → h.station ≠ st)
include hno

theorem tempoOwner_notLead : tempoOwner st f s = answered .notLead 0 s := by
  simp [tempoOwner, holderTerms_outside hno]

theorem nudgeOwner_notLead : nudgeOwner st f s = answered .notLead 0 s := if_pos (holds_false hno)

theorem setMeterOwner_notLead : setMeterOwner st f s = answered .notLead 0 s := if_pos (holds_false hno)

theorem transportOwner_notLead (b : TransportBody) : transportOwner st b s = answered .notLead 0 s :=
  if_pos (holds_false hno)

theorem referenceSetOwner_notLead : referenceSetOwner st f s = answered .notLead 0 s := if_pos (holds_false hno)

end NotHolder

/-! ### The commands that take a frame (R191, R193) -/

/-- A command that takes a frame is an Unknown Kind or a request of a station-to-part kind, held to the lengths of that
kind. -/
theorem exec_frame {c : Instr} {st : Station} {kind tag : Byte} {f : List Byte}
    (hf : frameOf c = some (st, kind, tag, f)) :
    c = .unknownKind st kind tag f ∨ stationKind kind = true ∧
      ∃ owner, ∀ s, exec c s = .next (takeRequest st kind tag f (bodyLengths kind) owner s) := by
  cases c <;> cases hf
  case unknownKind => exact .inl rfl
  all_goals exact .inr ⟨by decide, _, fun _ => rfl⟩

theorem stationKind_outside {kind : Byte} (h : kind = 0 ∨ 0x15 < kind.toNat) : stationKind kind = false := by
  have hk : ¬ (1 ≤ kind.toNat ∧ kind.toNat ≤ 21) := by
    rcases h with rfl | h
    · decide
    · omega
  exact decide_eq_false hk

theorem takeUnknown_refused {st : Station} {kind tag : Byte} {f : List Byte} {s : State}
    (hk : stationKind kind = false) (hc : canTake st kind tag f s) :
    takeUnknown st kind tag f s = placeReply st kind tag (.answer .unknownKind 0) (afterTaking st s) := by
  simp [takeUnknown, hk, takeFrame_canTake hc]

/-- No command takes a frame that is not next. -/
theorem exec_frame_other {c : Instr} {s : State} {st : Station} {kind tag : Byte} {f : List Byte}
    {x : Station × List Byte} (hf : frameOf c = some (st, kind, tag, f)) (hp : s.phase = .running)
    (hn : nextFrame s = some x) (hx : x ≠ (st, kind :: tag :: f)) : exec c s = .next s := by
  have hnone := takeFrame_other hn hx
  obtain rfl | ⟨-, owner, hexec⟩ := exec_frame hf
  · show Host.Outcome.next (whenRunning (takeUnknown st kind tag f) s) = .next s
    rw [whenRunning_running hp]
    simp [takeUnknown, hnone]
  · rw [hexec, takeRequest, whenRunning_running hp, hnone]

/-- Settles O21: a sender outside the lead fails its owner's first check, and every other frame fails the check of its
kind, of its length or of its turn. -/
theorem refusedRequestsChangeNothing : Obligations.RefusedRequestsChangeNothing := by
  refine ⟨fun s st tag f m hno => ?_, fun c s st kind tag f hf => ⟨fun n more hc hb hl hk => ?_, fun hc hk => ?_,
    fun x hp hn hx => exec_frame_other hf hp hn hx⟩⟩
  · have hno' : ∀ h, (afterTaking st s).lead.holder = some h → h.station ≠ st := hno
    exact ⟨fun hc hl => exec_request_ends rfl hc (by simp [hl]) (tempoOwner_notLead hno'),
      fun hc hl => exec_request_ends rfl hc (by simp [hl]) (nudgeOwner_notLead hno'),
      fun hc hl => exec_request_ends rfl hc (by simp [hl]) (setMeterOwner_notLead hno'),
      fun hc hl => exec_request_ends rfl hc (by simp [hl]) (transportOwner_notLead hno' ⟨f, m⟩),
      fun hc hl => exec_request_ends rfl hc (by simp [hl]) (referenceSetOwner_notLead hno')⟩
  · obtain rfl | ⟨-, owner, hexec⟩ := exec_frame hf
    · exact absurd rfl (hk kind)
    · rw [hexec, hb, takeRequest_length hc hl]
      rfl
  · obtain rfl | ⟨hstation, -⟩ := exec_frame hf
    · refine congrArg Host.Outcome.next ?_
      rw [whenRunning_running hc.1, takeUnknown_refused (stationKind_outside hk) hc]
    · rw [stationKind_outside hk] at hstation
      contradiction

end Sys2Proof.Machine
end

section
/-! PROOF. The authority of the seize code: Seize Code Set, and the guards of a lane's ownership with Lane Release (R75,
R76, R113, R115, R123; O37, O39). -/

namespace Sys2Proof.Machine

/-! ### Seize Code Set (R75) -/

theorem oldCode_sent (old new : BitVec 16) : oldCode (be2 old.toNat ++ be2 new.toNat) = old := fCode_be2 old _

theorem newCode_sent (old new : BitVec 16) : newCode (be2 old.toNat ++ be2 new.toNat) = new := by
  simpa [be2, newCode, fCode_cons_succ] using fCode_be2 new []

section CodeSet

variable {s : State} {st : Station} {f : List Byte}

theorem seizeCodeSetOwner_absent (hp : (s.link st).present = false) :
    seizeCodeSetOwner st f s = answered .noChange 0 s := by
  simp [seizeCodeSetOwner, hp]

theorem seizeCodeSetOwner_badCode (hp : (s.link st).present = true) (hold : oldCode f ≠ s.lead.code) :
    seizeCodeSetOwner st f s = answered .badCode 0 (setLatch st 0x06 s) := by
  simp [seizeCodeSetOwner, hp, hold]

theorem seizeCodeSetOwner_held (hp : (s.link st).present = true) (hold : oldCode f = s.lead.code)
    (hnew : newCode f = s.lead.code) : seizeCodeSetOwner st f s = answered .noChange 0 s := by
  simp [seizeCodeSetOwner, hp, hold, hnew]

theorem seizeCodeSetOwner_written (hp : (s.link st).present = true) (hold : oldCode f = s.lead.code)
    (hnew : newCode f ≠ s.lead.code) :
    seizeCodeSetOwner st f s = ({ s with lead := { s.lead with code := newCode f } }, .answer .ok 0) := by
  simp [seizeCodeSetOwner, hp, hold, hnew]

end CodeSet

/-- Settles O37: the sender's presence, then the old code, then whether the new one differs. -/
theorem seizeCodeSetChangesTheCode : Obligations.SeizeCodeSetChangesTheCode := by
  intro s st tag old new hc ends s1
  have hends : ∀ {u r}, seizeCodeSetOwner st (be2 old.toNat ++ be2 new.toNat) s1 = (u, .answer r 0) → ends u r :=
    exec_request_ends rfl hc (by simp)
  have hpres : (s1.link st).present = (s.link st).present := afterTaking_present st s st
  have hread := oldCode_sent old new
  have hsent := newCode_sent old new
  refine ⟨fun hp => hends (seizeCodeSetOwner_absent (hpres.trans hp)), fun hp hold => hends ?_,
    fun hp hold hnew => hends (seizeCodeSetOwner_held (hpres.trans hp) (hread.trans hold) (hsent.trans hnew)),
    fun hp hold hnew => hends ?_⟩
  · rw [seizeCodeSetOwner_badCode (s := s1) (hpres.trans hp) (hread.trans_ne hold), setLatch_eq]
    rfl
  · rw [seizeCodeSetOwner_written (s := s1) (hpres.trans hp) (hread.trans hold) (hsent.trans_ne hnew), hsent]
    rfl

/-! ### The lane a request names (R115) -/

/-- A 16-bit code is its two bytes, the most significant first (R194). -/
theorem fCode_eq_append (f : List Byte) (i : Nat) : fCode f i = f.getD i 0 ++ f.getD (i + 1) 0 := by
  apply BitVec.eq_of_toNat_eq
  rw [BitVec.toNat_append, ← Nat.shiftLeft_add_eq_or_of_lt (f.getD (i + 1) 0).isLt, Nat.shiftLeft_eq]
  have hhigh := (f.getD i 0).isLt
  have hlow := (f.getD (i + 1) 0).isLt
  simp only [fCode, f2, f1, fByte, BitVec.toNat_ofNat]
  omega

theorem laneField_index {f : List Byte} {l : LaneId} (h : (f.getD 0 0).toNat = l.val) : laneField f = some l := by
  have hf : f1 f 0 = l.val := h
  simp [laneField, fFin, hf]

theorem laneField_outside {f : List Byte} (h : 16 ≤ (f.getD 0 0).toNat) : laneField f = none :=
  dif_neg (Nat.not_lt.2 h)

section CommonChecks

variable {s : State} {st : Station} {f : List Byte} {act : LaneId → State → State × Reply}

theorem withLane_absent (hp : (s.link st).present = false) : withLane st f act s = answered .noChange 0 s := by
  simp [withLane, hp]

theorem withLane_outside (hp : (s.link st).present = true) (hl : laneField f = none) :
    withLane st f act s = answered .badField 0 s := by
  simp [withLane, hp, hl]

theorem withLane_lane {l : LaneId} (hp : (s.link st).present = true) (hl : laneField f = some l) :
    withLane st f act s = act l s := by
  simp [withLane, hp, hl]

end CommonChecks

/-! ### A lane of another station (R113) -/

section Guards

variable {s : State} {st o : Station} {l : LaneId} (ho : (s.lane l).owner = some o) (hne : o ≠ st)
include ho hne

theorem owned_held {kind : Byte} {force : Bool} {code : BitVec 16} {act : State → State × Reply}
    (hforce : force = false) : owned st l kind force code act s = answered .held (stationByte o) s := by
  simp [owned, ownerRefusal, ho, hne, hforce]

theorem owned_seizeOff {kind : Byte} {force : Bool} {code : BitVec 16} {act : State → State × Reply}
    (hforce : force = true) (hoff : s.lead.code = 0) :
    owned st l kind force code act s = answered .seizeOff (laneDetail l) s := by
  simp [owned, ownerRefusal, ho, hne, hforce, hoff]

theorem owned_badCode {kind : Byte} {force : Bool} {code : BitVec 16} {act : State → State × Reply}
    (hforce : force = true) (hon : s.lead.code ≠ 0) (hcode : code ≠ s.lead.code) :
    owned st l kind force code act s = answered .badCode (laneDetail l) (setLatch st kind s) := by
  have hon : ¬ s.lead.code = 0#16 := hon
  simp [owned, ownerRefusal, ho, hne, hforce, hon, hcode]

end Guards

/-- What the three guards of R113 answer to a request of a kind, its flags at a byte of its fields and the code after
them. -/
def Guarded (c : Instr) (s : State) (st o : Station) (l : LaneId) (kind tag : Byte) (f : List Byte) (flags : Nat) : Prop :=
  let ends := fun (u : State) (r : ResultCode) (detail : Byte) =>
    exec c s = .next (placeReply st kind tag (.answer r detail) u)
  let s1 := afterTaking st s
  (fFlag f flags 1 = false → ends s1 .held (stationByte o)) ∧
  (fFlag f flags 1 = true → s.lead.code = 0 → ends s1 .seizeOff (laneDetail l)) ∧
  (fFlag f flags 1 = true → s.lead.code ≠ 0 → fCode f (flags + 1) ≠ s.lead.code →
    ends (setLatch st kind s1) .badCode (laneDetail l))

/-- A request on another station's lane, whatever it would do there, meets the guards. -/
theorem guarded_of_owned {c : Instr} {s : State} {st o : Station} {l : LaneId} {kind tag : Byte} {f : List Byte}
    {flags : Nat} {lengths : List Nat} {act : LaneId → State → State × Reply}
    (hexec : exec c s = .next (takeRequest st kind tag f lengths
      (withLane st f fun l => owned st l kind (fFlag f flags 1) (fCode f (flags + 1)) (act l)) s))
    (hp : (s.link st).present = true) (ho : (s.lane l).owner = some o) (hne : o ≠ st)
    (hc : canTake st kind tag f s) (hlen : f.length + 2 ∈ lengths) (hl : laneField f = some l) :
    Guarded c s st o l kind tag f flags := by
  have hp' : ((afterTaking st s).link st).present = true := (afterTaking_present st s st).trans hp
  have ho' : ((afterTaking st s).lane l).owner = some o := (congrArg Lane.owner (afterTaking_lane st s l)).trans ho
  have hends : ∀ {u r d}, owned st l kind (fFlag f flags 1) (fCode f (flags + 1)) (act l) (afterTaking st s) =
      (u, .answer r d) → exec c s = .next (placeReply st kind tag (.answer r d) u) := fun h =>
    exec_request_ends hexec hc hlen ((withLane_lane hp' hl).trans h)
  exact ⟨fun hforce => hends (owned_held ho' hne hforce), fun hforce hoff => hends (owned_seizeOff ho' hne hforce hoff),
    fun hforce hon hcode => hends (owned_badCode ho' hne hforce hon hcode)⟩

/-! ### Lane Release (R123) -/

section Release

variable {s : State} {st : Station} {l : LaneId}

theorem laneReleaseWith_none (h : (s.lane l).owner = none) :
    laneReleaseWith st l s = answered .noChange (laneDetail l) s := by
  simp [laneReleaseWith, h]

theorem laneReleaseWith_some {o : Station} (h : (s.lane l).owner = some o) : laneReleaseWith st l s =
    if o = st then (s.setLane l { s.lane l with owner := none }, .answer .ok (laneDetail l))
    else answered .held (stationByte o) s := by
  simp [laneReleaseWith, h]

end Release

/-- The detail of a lane answer is the lane's byte as it was sent. -/
theorem laneDetail_byte {l : LaneId} {b : Byte} (h : l.val = b.toNat) : laneDetail l = b := by
  rw [laneDetail, h, BitVec.ofNat_toNat, BitVec.setWidth_eq]

/-- Settles O39: the guards for each of the three requests, then a Lane Release by the lane's owner. -/
theorem ownershipGuardsALane : Obligations.OwnershipGuardsALane := by
  refine ⟨fun s st o tag l hp ho hne => ?_, fun s st tag b hc => ?_⟩
  · intro s1 guards
    have hguards : ∀ {f flags kind c},
        (canTake st kind tag f s → laneField f = some l → Guarded c s st o l kind tag f flags) →
        guards f flags kind c := by
      intro f flags kind c hg hlane hc
      obtain ⟨hheld, hoff, hbad⟩ := hg hc (laneField_index hlane)
      rw [fCode_eq_append, setLatch_eq] at hbad
      exact ⟨hheld, hoff, hbad⟩
    exact ⟨fun f hf => hguards fun hc hl => guarded_of_owned rfl hp ho hne hc (by simp [hf]) hl,
      fun f hf => hguards fun hc hl => guarded_of_owned rfl hp ho hne hc (by simp [hf]) hl,
      fun f hf => hguards fun hc hl => guarded_of_owned rfl hp ho hne hc (by simp [hf]) hl⟩
  · intro ends s1
    have hends : ∀ {u r d}, laneReleaseOwner st [b] s1 = (u, .answer r d) → ends u r d :=
      exec_request_ends rfl hc (by simp)
    have hpres : (s1.link st).present = (s.link st).present := afterTaking_present st s st
    refine ⟨fun hp => hends (withLane_absent (hpres.trans hp)),
      fun hp hb => hends (withLane_outside (hpres.trans hp) (laneField_outside hb)), fun hp l hl => ?_⟩
    have howner : laneReleaseOwner st [b] s1 = laneReleaseWith st l s1 :=
      withLane_lane (hpres.trans hp) (laneField_index hl.symm)
    have hlane : s1.lane l = s.lane l := afterTaking_lane st s l
    rw [← laneDetail_byte hl, ← hlane]
    cases hown : (s1.lane l).owner with
    | none => exact hends (howner.trans (laneReleaseWith_none hown))
    | some o =>
      by_cases ho : o = st
      · exact (if_pos ho).mpr (hends (howner.trans ((laneReleaseWith_some hown).trans (if_pos ho))))
      · exact (if_neg ho).mpr (hends (howner.trans ((laneReleaseWith_some hown).trans (if_neg ho))))

end Sys2Proof.Machine
end

section
/-! PROOF. What a Scene Save stores comes back through a hardware reset and a start with a load (R126, R203 to R207;
O10). -/

namespace Sys2Proof.Machine

/-! The theorems of this section, and of those behind it, are elaborated in turn. Side by side, the threads that wait for
one another's proofs can pass the memory limit of the check; this option is the one that has a theorem elaborated in turn. -/

set_option deprecated.oldSectionVars true

/-! ### What a snapshot holds (R204) -/

section Snapshot

variable (s : State)

theorem snapshot_lane (l : LaneId) :
    (snapshot s).lanes[l] = ⟨(s.lane l).settings, decide ((s.lane l).state = .off)⟩ := by
  simp only [snapshot, mapEach_get]
  rfl

theorem snapshot_pin (p : PinId) : (snapshot s).pins[p] = scenePin (s.pin p) := mapEach_get _ _ _

theorem snapshot_input (i : InputId) : (snapshot s).inputs[i] = (s.input i).setting := mapEach_get _ _ _

theorem snapshot_rate (p : PortId) : (snapshot s).rates[p] = (s.port p).rate := mapEach_get _ _ _

end Snapshot

theorem scenePin_polarity (p : Pin) : (scenePin p).polarity = p.polarity := by
  unfold scenePin
  split <;> rfl

theorem scenePin_free {p : Pin} (h : p.function ≠ .lane) : scenePin p = ⟨p.function, p.polarity, p.source⟩ := if_neg h

/-- The snapshot stores a lane not OFF on each pin of function LANE, and on no other (R153, R204). -/
theorem snapshot_holds {s : State} (h : PinsOk s) (p : PinId) :
    (∃ l : LaneId, (snapshot s).lanes[l].off = false ∧ (snapshot s).lanes[l].settings.kind = .pin ∧
      (snapshot s).lanes[l].settings.target = .pin p) ↔ (s.pin p).function = .lane := by
  simp only [snapshot_lane, decide_eq_false_iff_not]
  exact (h.lane p).symm

/-! ### From the save to the start (R203, R205, R206) -/

section Journey

variable {s : State} {st : Station} {tag : Byte} {sc : Scene}

/-- The state once a Scene Save was accepted (R205). -/
def saveBegun (st : Station) (tag : Byte) (s : State) : State :=
  { s with store := { s.store with saving := some (snapshot s), valid := false, answer := some ⟨tag, some st⟩ } }

theorem sceneSaveOwner_begins (hp : (s.link st).present = true) (hs : s.store.saving = none) :
    sceneSaveOwner st tag s = (saveBegun st tag s, .deferred) := by
  simp [sceneSaveOwner, saveBegun, hp, hs]

theorem saveAnswer_store (ok : Bool) (a : Option PendingAnswer) : (saveAnswer ok a s).store = s.store := by
  unfold saveAnswer
  split <;> rfl

theorem saveEnd_store (hs : s.store.saving = some sc) : (saveEnd true s).store.saving = none ∧
    (saveEnd true s).store.stored = some sc ∧ (saveEnd true s).store.valid = true := by
  simp [saveEnd, hs, saveAnswer_store, storeWritten]

/-- A store that is not SAVING keeps its scene and its mark through a hardware reset (R210). -/
theorem resetStore_keeps {x : Store} (hs : x.saving = none) :
    resetStore x = { Store.reset with stored := x.stored, valid := x.valid } := by
  simp [resetStore, hs]

end Journey

/-- Settles O10: the store carries the snapshot through the reset, and the start gives each block its part of it (O8). -/
theorem savedSceneComesBack : Obligations.SavedSceneComesBack := by
  intro s st tag x hsafe hc hp hsaving hload
  have hp1 : ((afterTaking st s).link st).present = true := (afterTaking_present st s st).trans hp
  have hsave : exec (.sceneSave st tag []) s = .next (saveBegun st tag (afterTaking st s)) :=
    exec_request_ends rfl hc (by simp) (sceneSaveOwner_begins hp1 hsaving)
  have hend : exec (.sceneSaveComplete true) (saveBegun st tag (afterTaking st s)) =
      .next (saveEnd true (saveBegun st tag (afterTaking st s))) :=
    congrArg Host.Outcome.next (whenRunning_running hc.1)
  obtain ⟨sc, hsc⟩ : ∃ sc, sc = snapshot s := ⟨_, rfl⟩
  obtain ⟨hidle, hstored, hvalid⟩ := saveEnd_store (s := saveBegun st tag (afterTaking st s)) (sc := sc) (hsc ▸ rfl)
  generalize saveEnd true (saveBegun st tag (afterTaking st s)) = b at hend hidle hstored hvalid
  have hstore : (releasePart x (resetPart b)).store = { Store.reset with stored := some sc, valid := true } := by
    refine (resetStore_keeps hidle).trans ?_
    rw [hstored, hvalid]
  obtain ⟨e, he, -, -, hloaded, hgrid, hlead, -, hlane, hinput, hport, hpin, -⟩ :=
    (startUpBeginsFrames.2 (releasePart x (resetPart b)) rfl).2.2 sc hload (by rw [hstore]) (by rw [hstore])
      (hsc ▸ sceneOk_snapshot hsafe)
  refine ⟨_, b, _, _, e, hsave, hend, rfl, rfl, he, fun l => ?_, fun p => ?_, fun i => ?_, fun p => ?_, ?_, ?_, ?_, ?_⟩
  · rw [hlane, hsc, snapshot_lane]
    exact ⟨rfl, by simp⟩
  · obtain ⟨hpol, -, -, hrest⟩ := hpin p
    have hstoredPin : sc.pins[p] = scenePin (s.pin p) := hsc ▸ snapshot_pin s p
    refine ⟨by rw [hpol, hstoredPin, scenePin_polarity], ?_⟩
    have hheld := snapshot_holds hsafe.pins p
    rw [← hsc] at hheld
    by_cases hf : (s.pin p).function = .lane
    · rw [if_pos (hheld.2 hf)] at hrest
      exact ⟨iff_of_true hrest.1 hf, fun hn => absurd hf hn⟩
    · rw [if_neg fun hl => hf (hheld.1 hl), hstoredPin, scenePin_free hf] at hrest
      obtain ⟨hfun, hsrc, -⟩ := hrest
      exact ⟨by rw [hfun], fun _ => ⟨hfun, hsrc⟩⟩
  · rw [hinput, hsc, snapshot_input]
  · rw [hport, hsc]
    exact snapshot_rate s p
  · rw [hgrid, hsc]; rfl
  · rw [hlead, hsc]; rfl
  · rw [hloaded]
  · rw [hloaded, hstore]

end Sys2Proof.Machine
end

section
/-! PROOF. Where the points of a rate fall: the points, the anchors and the activation points that the model computes are
those of the statements' words (R107, R110, R128 to R132). -/

namespace Sys2Proof.Machine

-- Elaborated in turn, as the section on what comes back through a reset says.
set_option deprecated.oldSectionVars true

/-! ### Anchors and rates within their limits (R106, R107) -/

theorem anchorAt_eq (r : Rate) (b : Beat) : anchorAt r b = anchorFrom r b := by cases r <;> rfl

theorem rateOk_perBeat_iff {k : LaneKind} {p : Nat} :
    RateOk k (.perBeat p) ↔ 1 ≤ p ∧ p ≤ if k = .notice then 4 else 96 := by
  have hlimit : RateOk k (.perBeat p) ↔ clampNat 1 (if k = .notice then 4 else 96) p = p := by
    simp only [RateOk, limitRate, Rate.perBeat.injEq]
  rw [hlimit, clampNat_eq p (by split <;> decide)]
  split <;> omega

theorem rateOk_every_iff {k : LaneKind} {q : Nat} : RateOk k (.every q) ↔ 1 ≤ q ∧ q ≤ 64 := by
  simp only [RateOk, limitRate, Rate.every.injEq]
  rw [clampNat_eq q (by decide)]
  omega

/-! ### Points of rate PER_BEAT (R128, R129) -/

section PerBeat

variable {x : Settings} {p : Nat}

theorem pointFrac_perBeat (hr : x.rate = .perBeat p) (hp : 0 < p) (k : Nat) : pointFrac x k = fractionOf x p k := by
  simp [pointFrac, fractionOf, hr, swingApplies, hp, Config.beatU, and_assoc]

/-- The lowest point of the rate from a position on is the one that the search of the beat finds (R132). -/
theorem firstPoint_perBeat (hr : x.rate = .perBeat p) (hp : 0 < p) (anchor : Option Beat) (strict : Bool) (at' : Pos) :
    PointFrom strict x p at' (firstPoint x anchor strict at') := by
  have htest : ∀ k, (if strict then decide (at'.frac.toNat < (pointFrac x k).toNat)
      else decide (at'.frac.toNat ≤ (pointFrac x k).toNat)) = true ↔
      if strict then at'.frac < fractionOf x p k else at'.frac ≤ fractionOf x p k := by
    intro k
    rw [pointFrac_perBeat hr hp]
    cases strict
    · simp [BitVec.le_def]
    · simp [BitVec.lt_def]
  unfold firstPoint
  rw [hr]
  dsimp only
  split
  · next k hfound =>
    obtain ⟨hk, hmem, hleast⟩ := List.find?_range_eq_some.1 hfound
    refine ⟨List.mem_range.1 hmem, pointFrac_perBeat hr hp k, .inl ⟨rfl, (htest k).1 hk, fun j hj hb => ?_⟩⟩
    simpa [(htest j).2 hb] using hleast j hj
  · next hnone =>
    refine ⟨hp, pointFrac_perBeat hr hp 0, .inr ⟨rfl, rfl, fun k hk hb => ?_⟩⟩
    simpa [(htest k).2 hb] using List.find?_range_eq_none.1 hnone k hk

/-- There is one lowest point of the rate from a position on. -/
theorem PointFrom.unique {strict : Bool} {at' : Pos} {m n : NextPoint} (hm : PointFrom strict x p at' m)
    (hn : PointFrom strict x p at' n) : m = n := by
  obtain ⟨b, i, f⟩ := m
  obtain ⟨c, j, g⟩ := n
  obtain ⟨hi, hf, hbeatm⟩ := hm
  obtain ⟨hj, hg, hbeatn⟩ := hn
  dsimp only at *
  have hsame : b = c ∧ i = j := by
    rcases hbeatm with ⟨hb, hbi, hmin⟩ | ⟨hb, hzero, hnot⟩ <;> rcases hbeatn with ⟨hc, hcj, hmin'⟩ | ⟨hc, hzero', hnot'⟩
    · refine ⟨hb.trans hc.symm, ?_⟩
      by_contra hne
      rcases Nat.lt_or_gt_of_ne hne with hlt | hlt
      · exact hmin' i hlt hbi
      · exact hmin j hlt hcj
    · exact absurd hbi (hnot' i hi)
    · exact absurd hcj (hnot j hj)
    · exact ⟨hb.trans hc.symm, hzero.trans hzero'.symm⟩
  obtain ⟨rfl, rfl⟩ := hsame
  rw [hf, hg]

end PerBeat

/-! ### Points of the other rates (R130, R131) -/

theorem firstBeat_strict (at' : Pos) : firstBeat true at' = at'.beat + 1 := by simp [firstBeat]

theorem firstBeat_beatStart (b : Beat) : firstBeat false (Pos.beatStart b) = b := by simp [firstBeat, Pos.beatStart]

section Every

variable {x : Settings} {q : Nat}

theorem firstPoint_every_anchored (hr : x.rate = .every q) (hq : 0 < q) (a : Beat) (strict : Bool) (at' : Pos) :
    EveryFrom q a (firstBeat strict at') (firstPoint x (some a) strict at') := by
  have hq' : (0 : Int) < q := Int.natCast_pos.2 hq
  refine ⟨-((-(firstBeat strict at' - a).toInt) / (q : Int)), ?_, ?_, ?_⟩
  · have h := Int.ediv_mul_le (-(firstBeat strict at' - a).toInt) hq'.ne'
    rw [Int.neg_mul]
    omega
  · have h := Int.lt_ediv_add_one_mul_self (-(firstBeat strict at' - a).toInt) hq'
    rw [Int.add_mul, Int.one_mul] at h
    rw [Int.neg_mul]
    omega
  · simp [firstPoint, hr, pointAt, pointFrac_zero]

theorem firstPoint_every_free (hr : x.rate = .every q) (strict : Bool) (at' : Pos) :
    firstPoint x none strict at' = ⟨firstBeat strict at', 0, 0⟩ := by
  simp [firstPoint, hr, pointAt, pointFrac_zero]

theorem firstPoint_every_here (hr : x.rate = .every q) (strict : Bool) (at' : Pos) :
    firstPoint x (some (firstBeat strict at')) strict at' = ⟨firstBeat strict at', 0, 0⟩ := by
  simp [firstPoint, hr, pointAt, pointFrac_zero]

end Every

theorem firstPoint_perBar {x : Settings} (hr : x.rate = .perBar) (anchor : Option Beat) (strict : Bool) (at' : Pos) :
    firstPoint x anchor strict at' = ⟨firstBeat strict at', 0, 0⟩ := by
  simp [firstPoint, hr, pointAt, pointFrac_zero]

/-! ### The first point beyond a position, and from a beat start on (R132) -/

theorem firstBeyond_firstPoint (x : Settings) (anchor : Option Beat) (at' : Pos) :
    FirstBeyond x anchor at' (firstPoint x anchor true at') := by
  unfold FirstBeyond
  rcases hr : x.rate with p | q | _
  · exact fun hp => firstPoint_perBeat hr hp anchor true at'
  · rcases anchor with _ | a
    · rw [firstPoint_every_free hr, firstBeat_strict]
    · intro hq
      rw [← firstBeat_strict]
      exact firstPoint_every_anchored hr hq a true at'
  · rw [firstPoint_perBar hr, firstBeat_strict]

/-- A beat start is the first point from it on, unless an EVERY lane has its anchor at another beat. -/
theorem firstPoint_beatStart {x : Settings} {anchor : Option Beat} {b : Beat} (hx : RateOk x.kind x.rate)
    (ha : ∀ q, x.rate = .every q → anchor = none ∨ anchor = some b) :
    firstPoint x anchor false (Pos.beatStart b) = ⟨b, 0, 0⟩ := by
  rcases hr : x.rate with p | q | _
  · rw [hr, rateOk_perBeat_iff] at hx
    refine (firstPoint_perBeat hr hx.1 anchor false (Pos.beatStart b)).unique ⟨hx.1, ?_, .inl ⟨rfl, ?_, fun k hk => ?_⟩⟩
    · rw [← pointFrac_perBeat hr hx.1, pointFrac_zero]
    · simp [Pos.beatStart, BitVec.le_def]
    · exact absurd hk (Nat.not_lt_zero k)
  · rcases ha q hr with rfl | rfl
    · rw [firstPoint_every_free hr, firstBeat_beatStart]
    · simpa [firstBeat_beatStart] using firstPoint_every_here hr false (Pos.beatStart b)
  · rw [firstPoint_perBar hr, firstBeat_beatStart]

/-- The point that an activation at a beat start makes next (R111). -/
theorem firstPoint_activated {x : Settings} (hx : RateOk x.kind x.rate) (b : Beat) :
    firstPoint x (anchorAt x.rate b) false (Pos.beatStart b) = ⟨b, 0, 0⟩ :=
  firstPoint_beatStart hx fun q hq => .inr (by rw [hq]; rfl)

/-! ### Activation points (R110) -/

theorem armedAt_activationFor (g : Grid) (x : Settings) : ArmedAt g x (activationFor g x) := by
  unfold ArmedAt activationFor
  by_cases hg : g.state = .unset
  · simp [hg]
  · rw [if_neg hg, if_neg hg]
    rcases ha : x.align with _ | _ | _ <;> rcases hr : x.rate with p | q | _ <;> dsimp only
    exact fun hp => ⟨_, firstPoint_perBeat hr hp none true _, rfl⟩

end Sys2Proof.Machine
end

section
/-! PROOF. The items a lane's reference has reached: which is taken next, and what taking it leaves; as commands of their own
and as a step of the walk (R108, R110 to R112, R120, R132, R136, R137; O46, O48). -/

namespace Sys2Proof.Machine

-- Elaborated in turn, as the section on what comes back through a reset says.
set_option deprecated.oldSectionVars true

/-! ### Positions in order (R132) -/

theorem Pos.strictlyBeyond_eq_false {x y : Pos} : x.strictlyBeyond y = false ↔ y.atOrBeyond x = true := by
  simp [Pos.strictlyBeyond]

theorem Pos.atOrBeyond_beatStart (x : Pos) (b : Beat) : x.atOrBeyond (Pos.beatStart b) = true ↔ 0 ≤ (x.beat - b).toInt := by
  simp [Pos.atOrBeyond, Pos.beatStart]
  omega

theorem liesBeyond_iff (d b : Beat) : liesBeyond d b ↔ (b - d).toInt < 0 := by
  rw [liesBeyond, Pos.strictlyBeyond, Bool.not_eq_true', ← Bool.not_eq_true, Pos.atOrBeyond_beatStart]
  exact not_le

theorem not_liesBeyond_self (b : Beat) : ¬ liesBeyond b b := by simp [liesBeyond_iff]

/-- Of two beats a position has reached, the one that lies beyond the other is at or beyond it. -/
theorem liesBeyond.reached {d b : Beat} (h : liesBeyond d b) {x : Pos} (hd : x.atOrBeyond (Pos.beatStart d) = true)
    (hb : x.atOrBeyond (Pos.beatStart b) = true) : (Pos.beatStart d).atOrBeyond (Pos.beatStart b) = true := by
  rw [liesBeyond_iff] at h
  rw [Pos.atOrBeyond_beatStart] at hd hb ⊢
  show 0 ≤ (d - b).toInt
  rw [BitVec.toInt_eq_toNat_cond] at *
  rw [BitVec.toNat_sub] at *
  have hx := x.beat.isLt
  have hd' := d.isLt
  have hb' := b.isLt
  split at h <;> split at hd <;> split at hb <;> split <;> omega

/-! ### The least item (R137) -/

theorem leastItem_first {i : WalkItem} {rest : List WalkItem}
    (h : ∀ j ∈ rest, (itemPos j).atOrBeyond (itemPos i) = true) : leastItem (i :: rest) = some i := by
  unfold leastItem
  cases hr : leastItem rest with
  | none => rfl
  | some j => exact if_neg (by rw [Pos.strictlyBeyond_eq_false.2 (h j (leastItem_mem hr))]; decide)

theorem leastItem_later {i j : WalkItem} {rest : List WalkItem} (hr : leastItem rest = some j)
    (h : (itemPos i).strictlyBeyond (itemPos j) = true) : leastItem (i :: rest) = some j := by
  rw [leastItem, hr]
  exact if_pos h

section NextItem

variable {ref : Pos} {ln : Lane}

theorem nextItem_activation {a : Activation} (hs : ln.state = .arming) (ha : ln.activation = some a)
    (href : ref.atOrBeyond (itemPos (.activation a)) = true) : nextItem ref ln = some (.activation a) := by
  simp [nextItem, laneItems, hs, ha, href, leastItem]

/-- The items of an ACTIVE lane that the reference has reached. -/
theorem nextItem_active (hs : ln.state = .active) : nextItem ref ln = leastItem
    ((ln.staged.map WalkItem.staged).toList.filter (fun i => ref.atOrBeyond (itemPos i)) ++
      ((ln.disable.map WalkItem.disable).toList ++ (ln.nextPoint.map WalkItem.point).toList).filter
        fun i => ref.atOrBeyond (itemPos i)) := by
  simp [nextItem, laneItems, hs]

/-- The staged part comes first of one beat, and of the items beyond it (R120). -/
theorem nextItem_staged {sp : Staged} (hs : ln.state = .active) (hsp : ln.staged = some sp)
    (href : ref.atOrBeyond (Pos.beatStart sp.boundary.beat) = true) (hn : nextPointFrom ln sp.boundary.beat)
    (hd : ∀ d, ln.disable = some d → liesBeyond d.beat sp.boundary.beat ∨ d.beat = sp.boundary.beat) :
    nextItem ref ln = some (.staged sp) := by
  have hreached : ref.atOrBeyond (itemPos (.staged sp)) = true := href
  rw [nextItem_active hs, hsp]
  simp only [Option.map_some, Option.toList_some, List.filter_cons, hreached, if_true, List.filter_nil, List.cons_append,
    List.nil_append]
  refine leastItem_first fun j hj => ?_
  obtain ⟨hj, hrefj⟩ := List.mem_filter.1 hj
  rcases List.mem_append.1 hj with hj | hj
  · obtain ⟨d, hdis, rfl⟩ : ∃ d, ln.disable = some d ∧ .disable d = j := by simpa using hj
    rcases hd d hdis with hb | hb
    · exact hb.reached hrefj href
    · show (Pos.beatStart d.beat).atOrBeyond (Pos.beatStart sp.boundary.beat) = true
      rw [hb, Pos.atOrBeyond_beatStart]
      simp [Pos.beatStart]
  · obtain ⟨n, hnext, rfl⟩ : ∃ n, ln.nextPoint = some n ∧ .point n = j := by simpa using hj
    exact hn n hnext

/-- A pending disable comes before the items beyond its beat (R112). -/
theorem nextItem_disable {d : LaneBoundary} (hs : ln.state = .active) (hd : ln.disable = some d)
    (href : ref.atOrBeyond (Pos.beatStart d.beat) = true) (hn : nextPointFrom ln d.beat)
    (hsp : ∀ sp, ln.staged = some sp → liesBeyond sp.boundary.beat d.beat) : nextItem ref ln = some (.disable d) := by
  have hreached : ref.atOrBeyond (itemPos (.disable d)) = true := href
  have hrest : leastItem (((ln.disable.map WalkItem.disable).toList ++ (ln.nextPoint.map WalkItem.point).toList).filter
      fun i => ref.atOrBeyond (itemPos i)) = some (.disable d) := by
    rw [hd]
    simp only [Option.map_some, Option.toList_some, List.cons_append, List.nil_append, List.filter_cons, hreached, if_true]
    refine leastItem_first fun j hj => ?_
    obtain ⟨n, hnext, rfl⟩ : ∃ n, ln.nextPoint = some n ∧ .point n = j := by simpa using (List.mem_filter.1 hj).1
    exact hn n hnext
  rw [nextItem_active hs]
  cases hst : ln.staged with
  | none => exact hrest
  | some sp =>
    simp only [Option.map_some, Option.toList_some, List.filter_cons, List.filter_nil]
    split
    · exact leastItem_later hrest (hsp sp hst)
    · exact hrest

end NextItem

end Sys2Proof.Machine
end

section
/-! PROOF. What a Lane Set reads of its fields (R108, R116, R195). -/

namespace Sys2Proof.Machine

-- Elaborated in turn, as the section on what comes back through a reset says.
set_option deprecated.oldSectionVars true

/-- The fields of a Lane Set on a lane of these settings are in their lists and apply to the kind the lane will have. -/
def LaneSetReads (f : List Byte) (x : Settings) (k : LaneKind) (a : ApplyAt) (p : Patch) : Prop :=
  kindAfter f x = some k ∧ readApplyAt (f1 f 3) = some a ∧ readPatch f k = some p ∧ fitsKind k p = true

theorem laneSetChecked_reads {s : State} {st : Station} {f : List Byte} {l : LaneId} {k : LaneKind} {a : ApplyAt} {p : Patch}
    (hr : LaneSetReads f (s.lane l).settings k a p)
    (hopen : (s.lane l).state = .off ∨ carries f 0 = false ∧ carries f 1 = false ∧ carries f 9 = false) :
    laneSetChecked st f l s = laneSetWith st l k a (fFlag f 4 0) p s := by
  have hfree : ((carries f 0 || carries f 1 || carries f 9) && decide ((s.lane l).state ≠ .off)) = false := by
    rcases hopen with h | ⟨h0, h1, h9⟩
    · simp [h]
    · simp [h0, h1, h9]
  obtain ⟨hkind, happly, hpatch, hfits⟩ := hr
  simp only [laneSetChecked, hfree, hkind, happly, hpatch, hfits, Bool.false_eq_true, if_false, if_true]

theorem readApplyAt_outside {n : Nat} (h : 2 < n) : readApplyAt n = none := by
  rcases n with _ | _ | _ | n
  · omega
  · omega
  · omega
  · rfl

theorem readApplyAt_inside {n : Nat} (h : n ≤ 2) : ∃ a, readApplyAt n = some a := by
  rcases n with _ | _ | _ | n
  · exact ⟨_, rfl⟩
  · exact ⟨_, rfl⟩
  · exact ⟨_, rfl⟩
  · omega

end Sys2Proof.Machine
end

section
/-! PROOF. A Lane Set that passes its checks: what it reads, what it writes in each state of the lane, and its Answer (R113,
R116 to R119); the offset alone (O40). -/

namespace Sys2Proof.Machine

-- Elaborated in turn, as the section on what comes back through a reset says.
set_option deprecated.oldSectionVars true

/-! ### The check of ownership passes (R113) -/

section Passes

variable {s : State} {st : Station} {l : LaneId} {kind : Byte} {force : Bool} {code : BitVec 16}

theorem ownerRefusal_own (ho : (s.lane l).owner = none ∨ (s.lane l).owner = some st) :
    ownerRefusal st l kind force code s = none := by
  rcases ho with ho | ho <;> simp [ownerRefusal, ho]

theorem ownerRefusal_forced (hf : force = true) (hon : s.lead.code ≠ 0) (hcode : code = s.lead.code) :
    ownerRefusal st l kind force code s = none := by
  have hon : ¬ s.lead.code = 0#16 := hon
  unfold ownerRefusal
  split
  · rfl
  · simp [hf, hon, hcode]

theorem ownerRefusal_afterTaking_own (ho : (s.lane l).owner = none ∨ (s.lane l).owner = some st) :
    ownerRefusal st l kind force code (afterTaking st s) = none :=
  ownerRefusal_own (by simpa using ho)

end Passes

theorem owned_passes {s : State} {st : Station} {l : LaneId} {kind : Byte} {force : Bool} {code : BitVec 16}
    {act : State → State × Reply} (h : ownerRefusal st l kind force code s = none) :
    owned st l kind force code act s = act s := by
  simp [owned, h]

/-! ### What it writes, and its Answer (R114, R117 to R119) -/

theorem setPatch_owner (g : Grid) (a : ApplyAt) (p : Patch) (ln : Lane) : (setPatch g a p ln).owner = ln.owner := by
  unfold setPatch
  split
  · rfl
  · rfl
  · split
    · rfl
    · cases a <;> rfl

/-- The owner after a request with this KEEP (R114). -/
def ownerAfter (keep : Bool) (st : Station) (old : Option Station) : Option Station := if keep then some st else old

/-- The Answer of a Lane Set that carries a patch as sent, clamped to p. -/
def laneSetCode (keep : Bool) (st : Station) (sent p : Patch) (ln : Lane) : ResultCode :=
  if p ≠ sent then .clamped else patchAnswer p (keep && decide (ln.owner ≠ some st)) ln

theorem laneSetWith_eq (st : Station) (l : LaneId) (k : LaneKind) (a : ApplyAt) (keep : Bool) (sent : Patch) (s : State) :
    laneSetWith st l k a keep sent s =
      (s.setLane l { setPatch s.grid a (clampPatch k (s.lane l).settings.rate sent) (s.lane l) with
          owner := ownerAfter keep st (s.lane l).owner },
        .answer (laneSetCode keep st sent (clampPatch k (s.lane l).settings.rate sent) (s.lane l)) (laneDetail l)) := by
  unfold laneSetWith laneSetCode ownerAfter
  dsimp only
  rw [clampedOr_decide]
  cases keep
  · rw [← setPatch_owner s.grid a (clampPatch k (s.lane l).settings.rate sent) (s.lane l)]
    rfl
  · rfl

section Accepted

variable {s : State} {st : Station} {tag : Byte} {f : List Byte} {l : LaneId}

theorem exec_laneSet (hc : canTake st 0x0D tag f s) (hlen : f.length = 29) (hp : (s.link st).present = true)
    (hl : laneField f = some l)
    (hpass : ownerRefusal st l 0x0D (fFlag f 4 1) (fCode f 5) (afterTaking st s) = none) {u : State} {r : Reply}
    (h : laneSetChecked st f l (afterTaking st s) = (u, r)) :
    exec (.laneSet st tag f) s = .next (placeReply st 0x0D tag r u) :=
  exec_request_ends rfl hc (by simp [hlen])
    ((withLane_lane ((afterTaking_present st s st).trans hp) hl).trans ((owned_passes hpass).trans h))

/-- A Lane Set that passes its checks ends so. -/
theorem exec_laneSet_accepted {k : LaneKind} {a : ApplyAt} {sent : Patch} (hc : canTake st 0x0D tag f s)
    (hlen : f.length = 29) (hp : (s.link st).present = true) (hl : laneField f = some l)
    (hpass : ownerRefusal st l 0x0D (fFlag f 4 1) (fCode f 5) (afterTaking st s) = none)
    (hr : LaneSetReads f (s.lane l).settings k a sent)
    (hopen : (s.lane l).state = .off ∨ carries f 0 = false ∧ carries f 1 = false ∧ carries f 9 = false)
    {keep : Bool} (hkeep : fFlag f 4 0 = keep) {p : Patch} (hclamp : clampPatch k (s.lane l).settings.rate sent = p) :
    exec (.laneSet st tag f) s = .next (placeReply st 0x0D tag
      (.answer (laneSetCode keep st sent p (s.lane l)) (BitVec.ofNat 8 l.val))
      ((afterTaking st s).setLane l { setPatch s.grid a p (s.lane l) with
        owner := ownerAfter keep st (s.lane l).owner })) := by
  have hlane := afterTaking_lane st s l
  refine exec_laneSet hc hlen hp hl hpass ?_
  rw [laneSetChecked_reads (by rw [hlane]; exact hr) (by rw [hlane]; exact hopen), laneSetWith_eq, hlane, hclamp, hkeep]
  rfl

end Accepted

/-- The owner is the one held exactly where KEEP changes nothing. -/
theorem ownerAfter_held (keep : Bool) (st : Station) (old : Option Station) :
    (!(keep && decide (old ≠ some st))) = decide (ownerAfter keep st old = old) := by
  cases keep
  · simp [ownerAfter]
  · simp [ownerAfter, eq_comm]

section Answer

variable {keep : Bool} {st : Station} {p : Patch} {ln : Lane}

theorem laneSetCode_clamped {sent : Patch} (h : p ≠ sent) : laneSetCode keep st sent p ln = .clamped := if_pos h

theorem laneSetCode_exact {sent : Patch} (h : p = sent) : laneSetCode keep st sent p ln =
    patchAnswer p (keep && decide (ln.owner ≠ some st)) ln := if_neg (not_not_intro h)

/-- The Answer on a lane whose record was written (R117, R118). -/
theorem patchAnswer_record (hs : ln.state ≠ .active) :
    patchAnswer p (keep && decide (ln.owner ≠ some st)) ln =
      if applyPatch p ln.settings = ln.settings ∧ ownerAfter keep st ln.owner = ln.owner then .noChange else .ok := by
  have h := ownerAfter_held keep st ln.owner
  cases hst : ln.state with
  | active => exact absurd hst hs
  | off => simp only [patchAnswer, hst, h, patchHeld, Bool.and_eq_true, decide_eq_true_eq]
  | arming => simp only [patchAnswer, hst, h, patchHeld, Bool.and_eq_true, decide_eq_true_eq]

/-- The Answer on an ACTIVE lane, where a stageable setting is carried (R119). -/
theorem patchAnswer_stages {changed : Bool} (hs : ln.state = .active) (hne : patchEmpty (stageablePart p) = false) :
    patchAnswer p changed ln = if ln.staged.isSome then .replaced else .ok := by
  simp [patchAnswer, hs, hne]

/-- The Answer on an ACTIVE lane, where none is. -/
theorem patchAnswer_atOnce (hs : ln.state = .active) (he : patchEmpty (stageablePart p) = true) :
    patchAnswer p (keep && decide (ln.owner ≠ some st)) ln =
      if applyPatch (immediatePart p) ln.settings = ln.settings ∧ ownerAfter keep st ln.owner = ln.owner then .noChange
      else .ok := by
  have h := ownerAfter_held keep st ln.owner
  simp only [patchAnswer, hs, he, h, patchHeld, if_true, Bool.and_eq_true, decide_eq_true_eq]

end Answer

section Written

variable {g : Grid} {a : ApplyAt} {p : Patch} {ln : Lane}

theorem setPatch_on_off (hs : ln.state = .off) :
    setPatch g a p ln = { ln with settings := writePatch p ln.settings } := by
  simp [setPatch, hs]

theorem setPatch_on_arming (hs : ln.state = .arming) : setPatch g a p ln = { ln with
    settings := writePatch p ln.settings
    activation := if (writePatch p ln.settings).rate = ln.settings.rate ∧
        (writePatch p ln.settings).align = ln.settings.align ∧ (writePatch p ln.settings).offset = ln.settings.offset then
      ln.activation else activationFor g (writePatch p ln.settings) } := by
  simp [setPatch, hs]

theorem setPatch_active (hs : ln.state = .active) : setPatch g a p ln =
    if patchEmpty (stageablePart p) then { ln with settings := applyPatch (immediatePart p) ln.settings }
    else stagePatch g a (stageablePart p) { ln with settings := applyPatch (immediatePart p) ln.settings } := by
  unfold setPatch
  split
  · next h => exact absurd (h.symm.trans hs) (by decide)
  · next h => exact absurd (h.symm.trans hs) (by decide)
  · rfl

/-- A patch of stageable settings alone on an ACTIVE lane (R119). -/
theorem setPatch_on_active (hs : ln.state = .active) (hp : stageablePart p = p) (hne : patchMask p ≠ 0) :
    setPatch g a p ln = stagePatch g a p ln := by
  have halign : p.align = none := by rw [← hp]; rfl
  have hspacing : p.spacing = none := by rw [← hp]; rfl
  have himm : applyPatch (immediatePart p) ln.settings = ln.settings := by
    simp [immediatePart, applyPatch, halign, hspacing]
  have hempty : ¬ patchEmpty (stageablePart p) = true := by rw [hp]; simpa [patchEmpty] using hne
  rw [setPatch_active hs, if_neg hempty, himm, hp]

/-- A written patch that carries no kind (R117). -/
theorem writePatch_sameKind (hk : p.kind = none) (x : Settings) : writePatch p x = settledSwing (applyPatch p x) := by
  simp [writePatch, hk]

end Written

theorem settledSwing_settled {x : Settings} (h : swingApplies x.rate = false → x.swing = 50) : settledSwing x = x := by
  unfold settledSwing
  split
  · rfl
  · next hn => rw [← h (by simpa using hn)]

theorem patchRate_held {k : LaneKind} {r : Rate} {p : Patch} (hp : p.rate = none) (hr : RateOk k r) :
    patchRate k r p = none := by
  have h : limitRate k r = r := hr
  simp [patchRate, hp, h]

/-! ### The offset alone (R116, R195) -/

section Offset

variable (l : LaneId) (ap flags : Byte) (code : BitVec 16) (v : Int)

theorem carries_offsetBytes (b : Nat) : carries (offsetBytes l ap flags code v) b = (0x0010#16).getLsbD b := by
  simp [carries, fCode, f2, f1, fByte, offsetBytes]

theorem fCode_offsetBytes : fCode (offsetBytes l ap flags code v) 5 = code :=
  fCode_be2 code (List.replicate 5 0 ++ (beSigned2 v ++ List.replicate 15 0))

theorem offset_offsetBytes {v : Int} (hl : -32768 ≤ v) (hu : v ≤ 32767) : fSigned2 (offsetBytes l ap flags code v) 12 = v :=
  fSigned2_beSigned2 v hl (by omega) (List.replicate 15 0)

theorem laneField_offsetBytes : laneField (offsetBytes l ap flags code v) = some l :=
  laneField_index (by simpa [offsetBytes] using l.isLt.trans (by decide))

theorem readPatch_offsetBytes {v : Int} (hl : -32768 ≤ v) (hu : v ≤ 32767) (k : LaneKind) :
    readPatch (offsetBytes l ap flags code v) k = some (offsetPatch v) := by
  simp [readPatch, carriedField, carriedValue, carries_offsetBytes, offset_offsetBytes l ap flags code hl hu, offsetPatch]

theorem reads_offsetBytes {v : Int} (hl : -32768 ≤ v) (hu : v ≤ 32767) {a : ApplyAt} (ha : readApplyAt ap.toNat = some a)
    (x : Settings) : LaneSetReads (offsetBytes l ap flags code v) x x.kind a (offsetPatch v) :=
  ⟨by simp [kindAfter, carries_offsetBytes], ha, readPatch_offsetBytes l ap flags code hl hu x.kind,
    by simp [fitsKind, offsetPatch]⟩

end Offset

theorem clampPatch_offset {k : LaneKind} {r : Rate} (hr : RateOk k r) (v : Int) :
    clampPatch k r (offsetPatch v) = offsetPatch (min 4800 (max (-4800) v)) := by
  have hrate : patchRate k r (offsetPatch v) = none := patchRate_held rfl hr
  rw [clampPatch, hrate]
  simp [offsetPatch, clampInt_eq]

theorem stageablePart_offset (v : Int) : stageablePart (offsetPatch v) = offsetPatch v := rfl

theorem patchMask_offset (v : Int) : patchMask (offsetPatch v) = 16 := by simp [patchMask, offsetPatch]

theorem offsetPatch_inj (v w : Int) : offsetPatch w = offsetPatch v ↔ w = v := by simp [offsetPatch]

theorem applyPatch_offset (v : Int) (x : Settings) : applyPatch (offsetPatch v) x = { x with offset := v } := rfl

theorem offset_held (v : Int) (x : Settings) : ({ x with offset := v } : Settings) = x ↔ v = x.offset :=
  ⟨fun h => (congrArg Settings.offset h :), fun h => by rw [h]⟩

theorem writePatch_offset {x : Settings} (h : swingApplies x.rate = false → x.swing = 50) (v : Int) :
    writePatch (offsetPatch v) x = { x with offset := v } :=
  (writePatch_sameKind rfl x).trans (settledSwing_settled h)

theorem flagByte_keep (keep : Bool) : (flagByte keep).getLsbD 0 = keep := by cases keep <;> rfl

/-- A Lane Set of the offset alone passes its checks on a lane of the sender's or of no station (R116). -/
theorem exec_laneSet_offset {s : State} {st : Station} {tag ap flags : Byte} {l : LaneId} {code : BitVec 16} {v : Int}
    {a : ApplyAt} (hl : -32768 ≤ v) (hu : v ≤ 32767) (hp : (s.link st).present = true)
    (hpass : ownerRefusal st l 0x0D (flags.getLsbD 1) code (afterTaking st s) = none)
    (hc : canTake st 0x0D tag (offsetBytes l ap flags code v) s) (ha : readApplyAt ap.toNat = some a)
    (hr : RateOk (s.lane l).settings.kind (s.lane l).settings.rate) :
    exec (.laneSet st tag (offsetBytes l ap flags code v)) s = .next (placeReply st 0x0D tag
      (.answer (laneSetCode (flags.getLsbD 0) st (offsetPatch v) (offsetPatch (min 4800 (max (-4800) v))) (s.lane l))
        (BitVec.ofNat 8 l.val))
      ((afterTaking st s).setLane l { setPatch s.grid a (offsetPatch (min 4800 (max (-4800) v))) (s.lane l) with
        owner := ownerAfter (flags.getLsbD 0) st (s.lane l).owner })) :=
  exec_laneSet_accepted hc (by simp [offsetBytes]) hp (laneField_offsetBytes l ap flags code v)
    (by rw [fCode_offsetBytes]; exact hpass) (reads_offsetBytes l ap flags code hl hu ha _)
    (.inr (by simp [carries_offsetBytes])) rfl (clampPatch_offset hr v)

/-- The reply of a Lane Set of the offset alone. -/
theorem laneSetCode_offset {keep : Bool} {st : Station} {v w : Int} {ln : Lane} {r : ResultCode}
    (h : patchAnswer (offsetPatch w) (keep && decide (ln.owner ≠ some st)) ln = r) :
    laneSetCode keep st (offsetPatch v) (offsetPatch w) ln = if w ≠ v then .clamped else r := by
  simp only [laneSetCode, ne_eq, offsetPatch_inj, ← h]

/-- The anchor where no rate was carried: an EVERY lane keeps the one it has (R120). -/
def anchorKept (r : Rate) (old : Option Beat) : Option Beat :=
  match r with
  | .every _ => old
  | _ => none

theorem anchorAfter_kept (r : Rate) (b : Beat) (old : Option Beat) : anchorAfter false r b old = anchorKept r old := by
  cases r <;> rfl

/-- What a patch without a rate does at NOW (R119). -/
theorem applyNow_uncarried {p : Patch} {ln : Lane} (hp : p.rate = none) (ref : Pos) : applyNow ref p ln = { ln with
    settings := settledSwing (applyPatch p ln.settings)
    staged := none
    anchor := anchorKept (settledSwing (applyPatch p ln.settings)).rate ln.anchor } := by
  simp only [applyNow, hp, Option.isSome_none, Bool.false_eq_true, if_false, anchorAfter_kept]

theorem stagePatch_offset_now {ln : Lane} (h : swingApplies ln.settings.rate = false → ln.settings.swing = 50) (g : Grid)
    (v : Int) : stagePatch g .now (offsetPatch v) ln = { ln with
      settings := { ln.settings with offset := v }
      staged := none
      anchor := anchorKept ln.settings.rate ln.anchor } := by
  rw [stagePatch, applyNow_uncarried rfl, applyPatch_offset, settledSwing_settled (by exact h)]

/-- Settles O40: the request reads as the offset alone, clamped, and each state of the lane takes it in its way. -/
theorem laneSetWritesOrStages : Obligations.LaneSetWritesOrStages := by
  intro s st tag ap l keep v hl hu hp ho hc ln w owner ends
  have hexec : ∀ a y r, readApplyAt ap.toNat = some a → RateOk ln.settings.kind ln.settings.rate →
      setPatch s.grid a (offsetPatch w) ln = y →
      patchAnswer (offsetPatch w) (keep && decide (ln.owner ≠ some st)) ln = r → ends { y with owner := owner } r := by
    intro a y r ha hr hy hcode
    have h := exec_laneSet_offset hl hu hp (ownerRefusal_afterTaking_own ho) hc ha hr
    rw [flagByte_keep, laneSetCode_offset hcode] at h
    rw [← hy]
    exact h
  have hactive : ∀ a y, readApplyAt ap.toNat = some a → RateOk ln.settings.kind ln.settings.rate → ln.state = .active →
      stagePatch s.grid a (offsetPatch w) ln = y →
      ends { y with owner := owner } (if ln.staged.isSome then .replaced else .ok) :=
    fun a y ha hr hs hy => hexec a y _ ha hr
      ((setPatch_on_active hs (stageablePart_offset w) (by simp [patchMask_offset])).trans hy)
      (patchAnswer_stages hs (by simp [patchEmpty, stageablePart_offset, patchMask_offset]))
  refine ⟨fun hr hsw hs hap => ?_, fun hr hs hap => ?_, fun hr hsw hs hap => ?_⟩
  · obtain ⟨a, ha⟩ := readApplyAt_inside hap
    refine hexec a { ln with settings := { ln.settings with offset := w } } _ ha hr ?_ ?_
    · rw [setPatch_on_off hs, writePatch_offset hsw]
    · rw [patchAnswer_record (by simp [hs]), applyPatch_offset]
      simp only [offset_held]
      rfl
  · rcases hap with rfl | rfl
    · exact hactive .nextBeat _ (by decide) hr hs rfl
    · exact hactive .nextBar _ (by decide) hr hs rfl
  · subst hap
    exact hactive .now _ (by decide) hr hs (stagePatch_offset_now hsw s.grid w)

end Sys2Proof.Machine
end

section
/-! PROOF. A Lane Set of the rate alone, of the offset in ARMING, and of the kind of an OFF lane (R107, R110, R117 to R120;
O41). -/

namespace Sys2Proof.Machine

-- Elaborated in turn, as the section on what comes back through a reset says.
set_option deprecated.oldSectionVars true

/-! ### One or two single-byte settings (R195) -/

section FirstBytes

variable (l : LaneId) (mask ap flags : Byte) (code : BitVec 16) (kind target form value : Byte)

theorem carries_firstBytes (b : Nat) :
    carries (firstBytes l mask ap flags code kind target form value) b = (BitVec.ofNat 16 mask.toNat).getLsbD b := by
  simp [carries, fCode, f2, f1, fByte, firstBytes]

theorem laneField_firstBytes : laneField (firstBytes l mask ap flags code kind target form value) = some l :=
  laneField_index (by simpa [firstBytes] using l.isLt.trans (by decide))

theorem firstBytes_length : (firstBytes l mask ap flags code kind target form value).length = 29 := by simp [firstBytes]

theorem f1_firstBytes_kind : f1 (firstBytes l mask ap flags code kind target form value) 7 = kind.toNat := rfl
theorem f1_firstBytes_form : f1 (firstBytes l mask ap flags code kind target form value) 9 = form.toNat := rfl
theorem f1_firstBytes_value : f1 (firstBytes l mask ap flags code kind target form value) 10 = value.toNat := rfl

end FirstBytes

/-! ### The rate alone (R107, R118 to R120) -/

/-- The two bytes of a rate read back as that rate (R195). -/
theorem readRate_sent {r : Rate} {form value : Byte}
    (h : match r with
      | .perBeat p => form = 0 ∧ value.toNat = p ∧ p ≠ 0
      | .every q => form = 1 ∧ value.toNat = q ∧ q ≠ 0
      | .perBar => form = 2) : readRate form.toNat value.toNat = some r := by
  rcases r with p | q | _
  · obtain ⟨rfl, hp, hne⟩ := h
    simp [readRate, hp, hne]
  · obtain ⟨rfl, hq, hne⟩ := h
    simp [readRate, hq, hne]
  · subst h
    rfl

theorem reads_rate {l : LaneId} {ap flags form value : Byte} {r : Rate} {a : ApplyAt}
    (hr : readRate form.toNat value.toNat = some r) (ha : readApplyAt ap.toNat = some a) (x : Settings) :
    LaneSetReads (firstBytes l 0x04 ap flags 0 0 0 form value) x x.kind a (ratePatch r) := by
  refine ⟨by simp [kindAfter, carries_firstBytes], ha, ?_, by simp [fitsKind, ratePatch]⟩
  simp [readPatch, carriedField, carriedValue, carries_firstBytes, f1_firstBytes_form, f1_firstBytes_value, hr, ratePatch]

theorem clampPatch_rate {k : LaneKind} {r : Rate} (hr : RateOk k r) (old : Rate) :
    clampPatch k old (ratePatch r) = ratePatch r := by
  have h : limitRate k r = r := hr
  simp [clampPatch, patchRate, ratePatch, h]

theorem applyPatch_rate (r : Rate) (x : Settings) : applyPatch (ratePatch r) x = { x with rate := r } := rfl

theorem rate_held (r : Rate) (x : Settings) : ({ x with rate := r } : Settings) = x ↔ r = x.rate :=
  ⟨fun h => (congrArg Settings.rate h :), fun h => by rw [h]⟩

theorem settledSwing_withRate (r : Rate) (x : Settings) : settledSwing { x with rate := r } = withRate r x := by
  cases h : swingApplies r <;> simp [settledSwing, withRate, h]

theorem writePatch_rate (r : Rate) (x : Settings) : writePatch (ratePatch r) x = withRate r x :=
  (writePatch_sameKind rfl x).trans (settledSwing_withRate r x)

theorem stageablePart_rate (r : Rate) : stageablePart (ratePatch r) = ratePatch r := rfl

theorem patchMask_rate (r : Rate) : patchMask (ratePatch r) = 4 := by simp [patchMask, ratePatch]

theorem applyAt_byte {ap : Byte} (h : ap.toNat ≤ 2) : ap = 0 ∨ ap = 1 ∨ ap = 2 := by
  simp only [← BitVec.toNat_inj]
  simp
  omega

/-- What waits for a boundary, of bar or beat by the apply-at (R108, R119). -/
theorem stagePatch_later {ap : Byte} {a : ApplyAt} (hap : ap.toNat ≤ 2) (ha : readApplyAt ap.toNat = some a) (hne : ap ≠ 0)
    (g : Grid) (p : Patch) (ln : Lane) : stagePatch g a p ln = { ln with
      staged := some ⟨p, decide (ap = 2), (reference g ln.settings.offset).beat + 1⟩ } := by
  rcases applyAt_byte hap with rfl | rfl | rfl
  · exact absurd rfl hne
  · obtain rfl : a = .nextBeat := Option.some.inj (ha.symm.trans (by decide))
    rfl
  · obtain rfl : a = .nextBar := Option.some.inj (ha.symm.trans (by decide))
    rfl

/-- What a patch with a rate does at NOW (R119, R120). -/
theorem applyNow_carried {p : Patch} {ln : Lane} (hp : p.rate.isSome) (ref : Pos) : applyNow ref p ln = { ln with
    settings := settledSwing (applyPatch p ln.settings)
    staged := none
    anchor := anchorFrom (settledSwing (applyPatch p ln.settings)).rate (ref.beat + 1)
    nextPoint := some (firstPoint (settledSwing (applyPatch p ln.settings))
      (anchorFrom (settledSwing (applyPatch p ln.settings)).rate (ref.beat + 1)) true ref) } := by
  simp only [applyNow, hp, if_true, anchorAfter, firstBeat_strict, anchorAt_eq]

theorem stagePatch_rate_now (g : Grid) (r : Rate) (ln : Lane) : stagePatch g .now (ratePatch r) ln =
    let ref := reference g ln.settings.offset
    { ln with
      settings := withRate r ln.settings
      staged := none
      anchor := anchorFrom r (ref.beat + 1)
      nextPoint := some (firstPoint (withRate r ln.settings) (anchorFrom r (ref.beat + 1)) true ref) } := by
  rw [stagePatch, applyNow_carried rfl, applyPatch_rate, settledSwing_withRate]
  rfl

theorem setPatch_rate_active {ln : Lane} (hs : ln.state = .active) (g : Grid) (a : ApplyAt) (r : Rate) :
    setPatch g a (ratePatch r) ln = stagePatch g a (ratePatch r) ln :=
  setPatch_on_active hs (stageablePart_rate r) (by simp [patchMask_rate])

theorem setPatch_rate_arming {ln : Lane} (hs : ln.state = .arming) (g : Grid) (a : ApplyAt) (r : Rate) :
    setPatch g a (ratePatch r) ln = { ln with
      settings := withRate r ln.settings
      activation := if r = ln.settings.rate then ln.activation else activationFor g (withRate r ln.settings) } := by
  rw [setPatch_on_arming hs, writePatch_rate]
  simp [withRate]

theorem setPatch_offset_arming {ln : Lane} (hs : ln.state = .arming)
    (hsw : swingApplies ln.settings.rate = false → ln.settings.swing = 50) (g : Grid) (a : ApplyAt) (v : Int) :
    setPatch g a (offsetPatch v) ln = { ln with
      settings := { ln.settings with offset := v }
      activation := if v = ln.settings.offset then ln.activation
        else activationFor g { ln.settings with offset := v } } := by
  rw [setPatch_on_arming hs, writePatch_offset hsw]
  simp

/-! ### The kind of an OFF lane (R107) -/

/-- A patch of the kind, with a rate that the kind limits. -/
def kindPatch (k : LaneKind) (r : Option Rate) : Patch :=
  ⟨some k, none, r, none, none, none, none, none, none, none, none, none, none, none⟩

theorem readLaneKind_laneKindByte (k : LaneKind) : readLaneKind (laneKindByte k).toNat = some k := by cases k <;> rfl

theorem reads_kind {l : LaneId} {ap flags : Byte} {k : LaneKind} {a : ApplyAt} (ha : readApplyAt ap.toNat = some a)
    (x : Settings) :
    LaneSetReads (firstBytes l 0x01 ap flags 0 (laneKindByte k) 0 0 0) x k a (kindPatch k none) := by
  refine ⟨?_, ha, ?_, by simp [fitsKind, kindPatch]⟩
  · simp [kindAfter, carries_firstBytes, f1_firstBytes_kind, readLaneKind_laneKindByte]
  · simp [readPatch, carriedField, carriedValue, carries_firstBytes, kindPatch]

theorem clampPatch_kind (k : LaneKind) (old : Rate) :
    clampPatch k old (kindPatch k none) = kindPatch k (if limitRate k old = old then none else some (limitRate k old)) := rfl

/-- A rate within the limits of one kind is left by another, but for the four points of a NOTICE lane (R107). -/
theorem limitRate_of_ok {k' : LaneKind} (k : LaneKind) (r : Rate) : RateOk k' r → limitRate k r =
    match k, r with
    | .notice, .perBeat p => .perBeat (min 4 p)
    | _, r => r := by
  intro h
  rcases r with p | q | _
  · obtain ⟨hl, hu⟩ := rateOk_perBeat_iff.1 h
    have hu : p ≤ 96 := hu.trans (by split <;> decide)
    cases k <;> simp [limitRate, clampNat_eq] <;> omega
  · obtain ⟨hl, hu⟩ := rateOk_every_iff.1 h
    have hlimit : limitRate k (.every q) = .every q := congrArg Rate.every (by rw [clampNat_eq q (by decide)]; omega)
    cases k <;> exact hlimit
  · cases k <;> rfl

/-- The settings a change of kind leaves: no target, and the defaults of the settings that do not apply (R107). -/
theorem settingsOfKind_new {k : LaneKind} {x : Settings} (hx : SettingsOk x) (hk : k ≠ x.kind) :
    settingsOfKind k x = { x with
      kind := k, target := .none, waveform := .pulse, width := 480, accent := none, polarity := .normal,
      codes := ⟨0, 0, 0, 0⟩, barCode := none } := by
  have hpin : k = .pin → x.waveform = .pulse ∧ x.width = 480 ∧ x.accent = none ∧ x.polarity = .normal :=
    fun h => hx.notPin fun hxk => hk (h.trans hxk.symm)
  have hstream : k = .stream → x.codes = ⟨0, 0, 0, 0⟩ ∧ x.barCode = none :=
    fun h => hx.notStream fun hxk => hk (h.trans hxk.symm)
  rw [settingsOfKind, if_neg hk]
  cases k with
  | pin =>
    obtain ⟨hw, hwidth, ha, hp⟩ := hpin rfl
    simp [hw, hwidth, ha, hp]
  | stream =>
    obtain ⟨hc, hb⟩ := hstream rfl
    simp [hc, hb]
  | notice => simp

theorem writePatch_kind {k : LaneKind} {x : Settings} (hx : SettingsOk x) (hk : k ≠ x.kind) (o : Option Rate) :
    writePatch (kindPatch k o) x = { withRate (o.getD x.rate) x with
      kind := k, target := .none, waveform := .pulse, width := 480, accent := none, polarity := .normal,
      codes := ⟨0, 0, 0, 0⟩, barCode := none } := by
  have happly : applyPatch (kindPatch k o) (settingsOfKind k x) = { settingsOfKind k x with rate := o.getD x.rate } := by
    rw [settingsOfKind_new hx hk]
    rfl
  refine (congrArg settledSwing happly).trans ?_
  rw [settledSwing_withRate, settingsOfKind_new hx hk]
  rfl

/-- Settles O41: the request reads as the one setting it carries, which its limits leave as it is; the rate a new kind
limits is carried with it. -/
theorem laneSetChangesTheRateOrTheKind : Obligations.LaneSetChangesTheRateOrTheKind := by
  intro s st tag ap l keep hp ho hap ln x owner ref ends hx
  obtain ⟨a, ha⟩ := readApplyAt_inside hap
  have hpass : ∀ {force code}, ownerRefusal st l 0x0D force code (afterTaking st s) = none :=
    ownerRefusal_afterTaking_own ho
  refine ⟨?_, ?_, ?_⟩
  · intro r form value f hc hr hsent
    have hexec : ∀ y code, setPatch s.grid a (ratePatch r) ln = y →
        patchAnswer (ratePatch r) (keep && decide (ln.owner ≠ some st)) ln = code → ends f y code := by
      intro y code hy hcode
      have h := exec_laneSet_accepted hc (firstBytes_length _ _ _ _ _ _ _ _ _) hp (laneField_firstBytes _ _ _ _ _ _ _ _ _)
        hpass (reads_rate (readRate_sent hsent) ha _) (.inr (by simp [f, carries_firstBytes])) (flagByte_keep keep)
        (clampPatch_rate hr _)
      rw [laneSetCode_exact rfl, hcode, hy] at h
      exact h
    have hrecord : ln.state ≠ .active → patchAnswer (ratePatch r) (keep && decide (ln.owner ≠ some st)) ln =
        if r = x.rate ∧ owner = ln.owner then .noChange else .ok := by
      intro hs
      rw [patchAnswer_record hs, applyPatch_rate]
      simp only [rate_held]
      rfl
    have hactive : ∀ y, ln.state = .active → stagePatch s.grid a (ratePatch r) ln = y →
        ends f y (if ln.staged.isSome then .replaced else .ok) :=
      fun y hs hy => hexec y _ ((setPatch_rate_active hs s.grid a r).trans hy)
        (patchAnswer_stages hs (by simp [patchEmpty, stageablePart_rate, patchMask_rate]))
    refine ⟨fun hs => hexec { ln with settings := withRate r x } _ ?_ (hrecord (by simp [hs])),
      fun hs => ⟨_, armedAt_activationFor _ _, hexec _ _ (setPatch_rate_arming hs _ _ _) (hrecord (by simp [hs]))⟩,
      fun hs hnow => ⟨_, firstBeyond_firstPoint _ _ _, ?_⟩,
      fun hs hlater => hactive _ hs (stagePatch_later hap ha hlater _ _ _)⟩
    · rw [setPatch_on_off hs, writePatch_rate]
    · subst hnow
      obtain rfl : a = .now := Option.some.inj (ha.symm.trans (by decide))
      exact hactive _ hs (stagePatch_rate_now s.grid r ln)
  · intro v hvl hvu hs hc
    have hv : min 4800 (max (-4800) v) = v := by omega
    have h := exec_laneSet_offset (by omega) (by omega) hp hpass hc ha hx.rate
    rw [hv, laneSetCode_exact rfl, patchAnswer_record (by simp [ln, hs]), applyPatch_offset, flagByte_keep,
      setPatch_offset_arming hs hx.noSwing] at h
    simp only [offset_held] at h
    exact ⟨_, armedAt_activationFor _ _, h⟩
  · intro k hk hs hc r
    have hr : r = limitRate k x.rate := (limitRate_of_ok k x.rate hx.rate).symm
    have h := exec_laneSet_accepted hc (firstBytes_length _ _ _ _ _ _ _ _ _) hp (laneField_firstBytes _ _ _ _ _ _ _ _ _)
      hpass (reads_kind ha _) (.inl hs) (flagByte_keep keep) (clampPatch_kind k x.rate)
    rw [← hr, setPatch_on_off hs, writePatch_kind hx hk] at h
    by_cases hsame : r = x.rate
    · rw [if_pos hsame] at h ⊢
      rw [laneSetCode_exact rfl, patchAnswer_record fun h => absurd (hs.symm.trans h) (by decide), if_neg] at h
      · rw [hsame]
        exact h
      · exact fun hheld => hk (congrArg Settings.kind hheld.1)
    · rw [if_neg hsame] at h ⊢
      rw [laneSetCode_clamped (by simp [kindPatch])] at h
      exact h

end Sys2Proof.Machine
end

section
/-! PROOF. The checks of a Lane Set's fields, and the code that passes the check of another station's lane (R113 to R116;
O42). -/

namespace Sys2Proof.Machine

-- Elaborated in turn, as the section on what comes back through a reset says.
set_option deprecated.oldSectionVars true

/-! ### The mask (R195) -/

section Mask

variable {f : List Byte}

theorem carries_iff {n : Nat} (hn : n < 16) :
    carries f n = true ↔ ((f.getD 1 0).toNat * 256 + (f.getD 2 0).toNat).testBit n = true := by
  simp only [carries, fCode, BitVec.getLsbD_ofNat, hn, decide_true, Bool.true_and]
  rfl

/-- A carried field is in the patch, its value in its list. -/
theorem carriedField_some {α : Type} {n : Nat} {v : Option α} {o : Option α} (h : carriedField f n v = some o)
    (hc : carries f n = true) : v ≠ none ∧ o ≠ none := by
  obtain ⟨y, rfl, rfl⟩ : ∃ y, v = some y ∧ some y = o := by simpa [carriedField, hc] using h
  exact ⟨nofun, nofun⟩

theorem carriedValue_ne_none {α : Type} {n : Nat} (v : α) (hc : carries f n = true) : carriedValue f n v ≠ none := by
  simp [carriedValue, hc]

end Mask

/-! ### Values outside their lists (R194, R195) -/

theorem readLaneKind_outside {n : Nat} (h : 2 < n) : readLaneKind n = none := by
  rcases n with _ | _ | _ | n
  · omega
  · omega
  · omega
  · rfl

theorem readLaneKind_inside {n : Nat} {k : LaneKind} (h : readLaneKind n = some k) :
    k = if n = 0 then .pin else if n = 1 then .stream else .notice := by
  rcases n with _ | _ | _ | n
  · exact (Option.some.inj h).symm
  · exact (Option.some.inj h).symm
  · exact (Option.some.inj h).symm
  · exact absurd h (by simp [readLaneKind])

theorem readAlign_outside {n : Nat} (h : 2 < n) : readAlign n = none := by
  rcases n with _ | _ | _ | n
  · omega
  · omega
  · omega
  · rfl

theorem readWaveform_outside {n : Nat} (h : 3 < n) : readWaveform n = none := by
  rcases n with _ | _ | _ | _ | n
  · omega
  · omega
  · omega
  · omega
  · rfl

theorem readPolarity_outside {n : Nat} (h : 1 < n) : readPolarity n = none := by
  rcases n with _ | _ | n
  · omega
  · omega
  · rfl

theorem readBarCode_outside {n : Nat} (h : 1 < n) (c : Byte) : readBarCode n c = none := by
  rcases n with _ | _ | n
  · omega
  · omega
  · rfl

theorem readRate_outside {form value : Nat} (h : 2 < form ∨ form ≠ 2 ∧ value = 0) : readRate form value = none := by
  rcases form with _ | _ | _ | form
  · simp [readRate]; omega
  · simp [readRate]; omega
  · omega
  · rfl

theorem readTarget_outside {k : LaneKind} {n : Nat} (hn : n ≠ 255) (h : if k = .pin then 7 < n else 3 < n) :
    readTarget k n = none := by
  cases k with
  | pin =>
    have h8 : ¬ n < 8 := Nat.not_lt.2 h
    simp [readTarget, hn, h8]
  | stream =>
    have h4 : ¬ n < 4 := Nat.not_lt.2 h
    simp [readTarget, hn, h4]
  | notice =>
    have h4 : ¬ n < 4 := Nat.not_lt.2 h
    simp [readTarget, hn, h4]

/-! ### The fields read, and refused (R107, R116) -/

section Fields

variable {f : List Byte} {x : Settings} {k : LaneKind} {a : ApplyAt} {p : Patch}

/-- The kind the lane will have is the carried one or the one held (R116). -/
theorem kindAfter_some (h : kindAfter f x = some k) : k =
    if carries f 0 = true then (if f1 f 7 = 0 then .pin else if f1 f 7 = 1 then .stream else .notice) else x.kind := by
  unfold kindAfter at h
  split at h
  · next hc => rw [if_pos hc]; exact readLaneKind_inside h
  · next hc => rw [if_neg hc]; exact (Option.some.inj h).symm

/-- The fields that may hold a bad value. -/
theorem readPatch_listed (h : readPatch f k = some p) : carriedField f 1 (readTarget k (f1 f 8)) = some p.target ∧
    carriedField f 2 (readRate (f1 f 9) (f1 f 10)) = some p.rate ∧ carriedField f 5 (readAlign (f1 f 14)) = some p.align ∧
    carriedField f 6 (readWaveform (f1 f 15)) = some p.waveform ∧
    carriedField f 9 (readPolarity (f1 f 20)) = some p.polarity ∧
    carriedField f 13 (readBarCode (f1 f 27) (fByte f 28)) = some p.barCode := by
  unfold readPatch at h
  split at h
  · next htarget hrate halign hwaveform hpolarity hbar =>
    cases h
    exact ⟨htarget, hrate, halign, hwaveform, hpolarity, hbar⟩
  · cases h

/-- The carried fields that not every kind has. -/
theorem readPatch_ofKind (h : readPatch f k = some p) : p.width = carriedValue f 7 (f2 f 16) ∧
    p.accent = carriedValue f 8 (accentField f) ∧
    p.codes = carriedValue f 12 ⟨fByte f 23, fByte f 24, fByte f 25, fByte f 26⟩ := by
  unfold readPatch at h
  split at h
  · cases h
    exact ⟨rfl, rfl, rfl⟩
  · cases h

/-- No field of a Lane Set that reads is outside its list, or of another kind. -/
theorem LaneSetReads.fields (hr : LaneSetReads f x k a p) : ¬ (2 < f1 f 3 ∨ carries f 0 = true ∧ 2 < f1 f 7 ∨
    carries f 1 = true ∧ f1 f 8 ≠ 255 ∧ (if k = .pin then 7 < f1 f 8 else 3 < f1 f 8) ∨
    carries f 2 = true ∧ (2 < f1 f 9 ∨ f1 f 9 ≠ 2 ∧ f1 f 10 = 0) ∨ carries f 5 = true ∧ 2 < f1 f 14 ∨
    carries f 6 = true ∧ 3 < f1 f 15 ∨ carries f 9 = true ∧ 1 < f1 f 20 ∨ carries f 13 = true ∧ 1 < f1 f 27 ∨
    k ≠ .pin ∧ (carries f 6 = true ∨ carries f 7 = true ∨ carries f 8 = true ∨ carries f 9 = true) ∨
    k ≠ .stream ∧ (carries f 12 = true ∨ carries f 13 = true)) := by
  obtain ⟨hkind, happly, hpatch, hfits⟩ := hr
  obtain ⟨htarget, hrate, halign, hwaveform, hpolarity, hbar⟩ := readPatch_listed hpatch
  obtain ⟨hwidth, haccent, hcodes⟩ := readPatch_ofKind hpatch
  rintro (hv | ⟨hc, hv⟩ | ⟨hc, hn, hv⟩ | ⟨hc, hv⟩ | ⟨hc, hv⟩ | ⟨hc, hv⟩ | ⟨hc, hv⟩ | ⟨hc, hv⟩ | ⟨hk, hc⟩ | ⟨hk, hc⟩)
  · exact nomatch (readApplyAt_outside hv).symm.trans happly
  · rw [kindAfter, if_pos hc, readLaneKind_outside hv] at hkind
    exact nomatch hkind
  · exact (carriedField_some htarget hc).1 (readTarget_outside hn hv)
  · exact (carriedField_some hrate hc).1 (readRate_outside hv)
  · exact (carriedField_some halign hc).1 (readAlign_outside hv)
  · exact (carriedField_some hwaveform hc).1 (readWaveform_outside hv)
  · exact (carriedField_some hpolarity hc).1 (readPolarity_outside hv)
  · exact (carriedField_some hbar hc).1 (readBarCode_outside hv _)
  · obtain ⟨hw, hwd, hac, hpol⟩ := fitsKind_notPin hfits hk
    rcases hc with hc | hc | hc | hc
    · exact (carriedField_some hwaveform hc).2 hw
    · exact carriedValue_ne_none _ hc (hwidth.symm.trans hwd)
    · exact carriedValue_ne_none _ hc (haccent.symm.trans hac)
    · exact (carriedField_some hpolarity hc).2 hpol
  · obtain ⟨hcd, hbc⟩ := fitsKind_notStream hfits hk
    rcases hc with hc | hc
    · exact carriedValue_ne_none _ hc (hcodes.symm.trans hcd)
    · exact (carriedField_some hbar hc).2 hbc

end Fields

section Refused

variable {s : State} {st : Station} {f : List Byte} {l : LaneId}

theorem laneSetChecked_laneActive (hs : (s.lane l).state ≠ .off)
    (hc : carries f 0 = true ∨ carries f 1 = true ∨ carries f 9 = true) :
    laneSetChecked st f l s = answered .laneActive (laneDetail l) s := by
  have hfixed : (carries f 0 || carries f 1 || carries f 9) = true := by simpa [or_assoc] using hc
  simp [laneSetChecked, hfixed, hs]

/-- A request that does not read is refused BAD_FIELD. -/
theorem laneSetChecked_badField
    (hopen : (s.lane l).state = .off ∨ ¬ carries f 0 = true ∧ ¬ carries f 1 = true ∧ ¬ carries f 9 = true)
    (h : ∀ k a p, ¬ LaneSetReads f (s.lane l).settings k a p) :
    laneSetChecked st f l s = answered .badField (laneDetail l) s := by
  have hfree : ¬ ((carries f 0 || carries f 1 || carries f 9) && decide ((s.lane l).state ≠ .off)) = true := by
    rcases hopen with hs | ⟨h0, h1, h9⟩
    · simp [hs]
    · simp [h0, h1, h9]
  unfold laneSetChecked
  dsimp only
  rw [if_neg hfree]
  split
  · next k a hk ha =>
    split
    · next p hp => exact if_neg fun hfit => h k a p ⟨hk, ha, hp, hfit⟩
    · rfl
  · rfl

end Refused

theorem flagBits_forced (keep : Bool) : ((if keep then 3 else 2 : Byte).getLsbD 1) = true ∧
    (if keep then 3 else 2 : Byte).getLsbD 0 = keep := by
  cases keep <;> decide

/-- Settles O42: the common checks, the settings fixed on a lane that is not OFF, then the fields; and the code that passes
the check of ownership. -/
theorem laneSetChecksItsFields : Obligations.LaneSetChecksItsFields := by
  intro s st tag l ln s1 ends index
  have hpres : (s1.link st).present = (s.link st).present := afterTaking_present st s st
  have hends : ∀ {f u r d}, f.length = 29 → canTake st 0x0D tag f s → laneSetOwner st f s1 = (u, .answer r d) →
      ends f u r d := fun hlen hc h => exec_request_ends rfl hc (by simp [hlen]) h
  refine ⟨fun f hlen hc hp => hends hlen hc (withLane_absent (hpres.trans hp)),
    fun f hlen hc hp hl => hends hlen hc (withLane_outside (hpres.trans hp) (laneField_outside hl)),
    fun hp ho f hlen hl hc => ?_, fun o ap keep v hp ho hne hcode hs hap hvl hvu hok hc => ?_⟩
  · intro byte has k
    have hhas : ∀ n, n < 16 → (has n ↔ carries f n = true) := fun n hn => (carries_iff hn).symm
    have h0 := hhas 0 (by decide)
    have h1 := hhas 1 (by decide)
    have h9 := hhas 9 (by decide)
    have hlane : s1.lane l = ln := afterTaking_lane st s l
    have hchecked : ∀ {u r}, laneSetChecked st f l s1 = (u, .answer r (laneDetail l)) → ends f u r index :=
      exec_laneSet hc hlen hp (laneField_index hl) (ownerRefusal_afterTaking_own ho)
    refine ⟨fun hs hfixed => hchecked (laneSetChecked_laneActive (by rwa [hlane]) ?_),
      fun hopen hbad => hchecked (laneSetChecked_badField ?_ fun k' a p hr => ?_)⟩
    · simpa only [h0, h1, h9] using hfixed
    · simpa only [h0, h1, h9, hlane] using hopen
    · rw [hlane] at hr
      obtain rfl : k' = k := by
        rw [kindAfter_some hr.1]
        simp only [k, h0]
        rfl
      simp only [h0, h1, h9, hhas 2 (by decide), hhas 5 (by decide), hhas 6 (by decide), hhas 7 (by decide),
        hhas 8 (by decide), hhas 12 (by decide), hhas 13 (by decide)] at hbad
      exact hr.fields hbad
  · have hv : min 4800 (max (-4800) v) = v := by omega
    obtain ⟨a, ha⟩ := readApplyAt_inside hap
    obtain ⟨hforce, hkeep⟩ := flagBits_forced keep
    have howner : ownerAfter keep st ln.owner = ln.owner ↔ keep = false := by
      rw [ho]
      cases keep <;> simp [ownerAfter, hne.symm]
    have h := exec_laneSet_offset (by omega) (by omega) hp (ownerRefusal_forced hforce hcode rfl) hc ha hok.rate
    rw [hkeep, hv, laneSetCode_exact rfl, patchAnswer_record (fun h => absurd (hs.symm.trans h) (by decide)),
      applyPatch_offset, setPatch_on_off hs, writePatch_offset hok.noSwing] at h
    simp only [offset_held, howner] at h
    rw [ho] at h
    exact h

end Sys2Proof.Machine
end

section
/-! PROOF. A Lane Set of any of its settings: its bytes read as the settings sent, the patch as it is taken, and the record
or the staged part it leaves (R107, R114, R116 to R119; O43). -/

namespace Sys2Proof.Machine

-- Elaborated in turn, as the section on what comes back through a reset says.
set_option deprecated.oldSectionVars true

/-! ### Enumerated values read back (R194, R195) -/

theorem readWaveform_waveformByte (w : Waveform) : readWaveform (waveformByte w).toNat = some w := by cases w <;> rfl

theorem readPolarity_polarityByte (p : Polarity) : readPolarity (polarityByte p).toNat = some p := by cases p <;> rfl

theorem readTarget_targetByte {k : LaneKind} {t : Target} (h : targetFits k t = true) :
    readTarget k (targetByte t).toNat = some t := by
  have hpin : ∀ p, readTarget .pin (targetByte (.pin p)).toNat = some (.pin p) := by decide
  have hport : ∀ p, readTarget .stream (targetByte (.port p)).toNat = some (.port p) := by decide
  have hstation : ∀ p, readTarget .notice (targetByte (.station p)).toNat = some (.station p) := by decide
  exact match k, t, h with
    | k, .none, _ => rfl
    | .pin, .pin p, _ => hpin p
    | .stream, .port p, _ => hport p
    | .notice, .station p, _ => hstation p

theorem flagByte_ne_zero (b : Bool) : decide ((flagByte b).toNat ≠ 0) = b := by cases b <;> rfl

/-! ### Two-byte fields, from their bytes (R194) -/

theorem f2_of_bytes {f : List Byte} {i n : Nat} (hn : n < 65536) (hhigh : fByte f i = BitVec.ofNat 8 (n / 256))
    (hlow : fByte f (i + 1) = BitVec.ofNat 8 n) : f2 f i = n := by
  simp [f2, f1, hhigh, hlow]
  omega

theorem fSigned2_of_bytes {f : List Byte} {i : Nat} {v : Int} (hl : -32768 ≤ v) (hu : v ≤ 32767)
    (hhigh : fByte f i = BitVec.ofNat 8 ((BitVec.ofInt 16 v).toNat / 256))
    (hlow : fByte f (i + 1) = BitVec.ofNat 8 (BitVec.ofInt 16 v).toNat) : fSigned2 f i = v := by
  have h : f2 f i = f2 (beSigned2 v ++ []) 0 :=
    (f2_of_bytes (BitVec.isLt _) hhigh hlow).trans (f2_be2 _ (BitVec.isLt _) []).symm
  exact (congrArg (fun n => (BitVec.ofNat 16 n).toInt) h).trans (fSigned2_beSigned2 v hl (by omega) [])

/-! ### The bytes of the request (R195) -/

namespace SentSettings

variable (x : SentSettings) (l : LaneId)

theorem carries_bytes (b : Nat) : carries (x.bytes l) b = x.has b := by
  have hmask : fCode (x.bytes l) 1 = x.mask := by
    unfold bytes
    dsimp only
    rw [fCode_cons_succ, fCode_be2]
  rw [carries, hmask]
  rfl

theorem laneField_bytes : laneField (x.bytes l) = some l :=
  laneField_index (by simpa [bytes] using l.isLt.trans (by decide))

theorem applyAt_bytes : readApplyAt (f1 (x.bytes l) 3) = some x.applyAt := by
  have h : f1 (x.bytes l) 3 = (match x.applyAt with
    | .now => (0 : Byte)
    | .nextBeat => 1
    | .nextBar => 2).toNat := rfl
  rw [h]
  cases x.applyAt <;> rfl

theorem keep_bytes : fFlag (x.bytes l) 4 0 = x.keep := flagByte_keep x.keep

theorem bytes_length : (x.bytes l).length = 29 := by
  have hbar : (optional 1 (fun c => [c]) x.barCode).length = 2 := optional_length 1 _ _ fun _ => rfl
  rcases hr : x.rate with p | q | _ <;> simp [bytes, hr, hbar]

/-- The bytes from the kind on, with the two that carry the rate. -/
def settingBytes (form value : Byte) : List Byte :=
  laneKindByte x.kind :: targetByte x.target :: form :: value :: BitVec.ofNat 8 x.swing ::
    (beSigned2 x.offset ++ (alignByte x.align :: waveformByte x.waveform :: (be2 x.width ++ (be2 x.accent ++
      (polarityByte x.polarity :: flagByte x.playOnly :: BitVec.ofNat 8 x.spacing :: x.codes.tick :: x.codes.start ::
        x.codes.stop :: x.codes.cont :: optional 1 (fun c => [c]) x.barCode)))))

/-- The fields from the kind on are read from those bytes. -/
theorem bytes_settings {old : Settings} (hx : x.Fits old) : ∃ form value : Byte,
    readRate form.toNat value.toNat = some x.rate ∧ ∀ i, fByte (x.bytes l) (i + 7) = fByte (x.settingBytes form value) i := by
  obtain ⟨hr, -⟩ := hx
  unfold bytes
  rcases hrate : x.rate with p | q | _ <;> rw [hrate] at hr
  · exact ⟨0, BitVec.ofNat 8 p, by simp [readRate]; omega, fun i => rfl⟩
  · exact ⟨1, BitVec.ofNat 8 q, by simp [readRate]; omega, fun i => rfl⟩
  · exact ⟨2, 0, rfl, fun i => rfl⟩

/-- A value where the mask names its setting. -/
def carried {α : Type} (b : Nat) (v : α) : Option α := if x.has b then some v else none

/-- The patch of the settings sent. -/
def patch (k : LaneKind) : Patch where
  kind := x.carried 0 k
  target := x.carried 1 x.target
  rate := x.carried 2 x.rate
  swing := x.carried 3 x.swing
  offset := x.carried 4 x.offset
  align := x.carried 5 x.align
  waveform := x.carried 6 x.waveform
  width := x.carried 7 x.width
  accent := x.carried 8 (if x.accent = 0 then none else some x.accent)
  polarity := x.carried 9 x.polarity
  playOnly := x.carried 10 x.playOnly
  spacing := x.carried 11 x.spacing
  codes := x.carried 12 x.codes
  barCode := x.carried 13 x.barCode

section Read

variable {x l} {old : Settings}

theorem carriedField_bytes {α : Type} {b : Nat} {v : Option α} {y : α} (h : x.has b = true → v = some y) :
    carriedField (x.bytes l) b v = some (x.carried b y) := by
  rw [carriedField, carries_bytes, carried]
  split
  · next hb => rw [h hb]; rfl
  · rfl

theorem carriedValue_bytes {α : Type} (b : Nat) (v : α) : carriedValue (x.bytes l) b v = x.carried b v := by
  rw [carriedValue, carries_bytes, carried]

/-- The request reads as the settings sent (R116). -/
theorem reads_bytes (hx : x.Fits old) :
    LaneSetReads (x.bytes l) old (x.newKind old) x.applyAt (x.patch (x.newKind old)) := by
  obtain ⟨form, value, hrate, hbyte⟩ := x.bytes_settings l hx
  obtain ⟨-, hswing, hol, hou, hwidth, haccent, hspacing, htarget, hpin, hstream⟩ := hx
  have h1 : ∀ i, f1 (x.bytes l) (i + 7) = f1 (x.settingBytes form value) i := fun i => congrArg BitVec.toNat (hbyte i)
  have ftarget : carriedField (x.bytes l) 1 (readTarget (x.newKind old) (f1 (x.bytes l) 8)) = some (x.carried 1 x.target) :=
    carriedField_bytes fun hb => (congrArg _ (h1 1)).trans (readTarget_targetByte (htarget hb))
  have frate : carriedField (x.bytes l) 2 (readRate (f1 (x.bytes l) 9) (f1 (x.bytes l) 10)) = some (x.carried 2 x.rate) :=
    carriedField_bytes fun _ => (congrArg₂ _ (h1 2) (h1 3)).trans hrate
  have falign : carriedField (x.bytes l) 5 (readAlign (f1 (x.bytes l) 14)) = some (x.carried 5 x.align) :=
    carriedField_bytes fun _ => (congrArg _ (h1 7)).trans (readAlign_alignByte x.align)
  have fwaveform : carriedField (x.bytes l) 6 (readWaveform (f1 (x.bytes l) 15)) = some (x.carried 6 x.waveform) :=
    carriedField_bytes fun _ => (congrArg _ (h1 8)).trans (readWaveform_waveformByte x.waveform)
  have fpolarity : carriedField (x.bytes l) 9 (readPolarity (f1 (x.bytes l) 20)) = some (x.carried 9 x.polarity) :=
    carriedField_bytes fun _ => (congrArg _ (h1 13)).trans (readPolarity_polarityByte x.polarity)
  have fbar : carriedField (x.bytes l) 13 (readBarCode (f1 (x.bytes l) 27) (fByte (x.bytes l) 28)) =
      some (x.carried 13 x.barCode) := carriedField_bytes fun _ => by
    rw [h1 20, hbyte 21]
    cases hb : x.barCode <;> simp [settingBytes, hb, optional, f1, fByte, be2, beSigned2, readBarCode]
  have vswing : f1 (x.bytes l) 11 = x.swing := (h1 4).trans (Nat.mod_eq_of_lt hswing)
  have voffset : fSigned2 (x.bytes l) 12 = x.offset :=
    fSigned2_of_bytes hol hou (hbyte 5) (hbyte 6)
  have vwidth : f2 (x.bytes l) 16 = x.width := f2_of_bytes hwidth (hbyte 9) (hbyte 10)
  have vaccent : f2 (x.bytes l) 18 = x.accent := f2_of_bytes haccent (hbyte 11) (hbyte 12)
  have vplay : f1 (x.bytes l) 21 = (flagByte x.playOnly).toNat := h1 14
  have vspacing : f1 (x.bytes l) 22 = x.spacing := (h1 15).trans (Nat.mod_eq_of_lt hspacing)
  have vcodes : (⟨fByte (x.bytes l) 23, fByte (x.bytes l) 24, fByte (x.bytes l) 25, fByte (x.bytes l) 26⟩ : Codes) =
      x.codes := by rw [hbyte 16, hbyte 17, hbyte 18, hbyte 19]; rfl
  refine ⟨?_, applyAt_bytes x l, ?_, ?_⟩
  · have hkind : readLaneKind (f1 (x.bytes l) 7) = some x.kind := (congrArg _ (h1 0)).trans (readLaneKind_laneKindByte x.kind)
    rw [kindAfter, carries_bytes, hkind, newKind]
    split <;> rfl
  · simp only [readPatch, ftarget, frate, falign, fwaveform, fpolarity, fbar, carriedValue_bytes, vswing, voffset, vwidth,
      accentField, vaccent, vplay, flagByte_ne_zero, vspacing, vcodes]
    rfl
  · have hp : x.newKind old ≠ .pin → ∀ {α : Type} (v : α),
        x.carried 6 v = none ∧ x.carried 7 v = none ∧ x.carried 8 v = none ∧ x.carried 9 v = none := by
      intro hk α v
      simp [carried, hpin hk 6 (by decide) (by decide), hpin hk 7 (by decide) (by decide), hpin hk 8 (by decide) (by decide),
        hpin hk 9 (by decide) (by decide)]
    have hs : x.newKind old ≠ .stream → ∀ {α : Type} (v : α), x.carried 12 v = none ∧ x.carried 13 v = none := by
      intro hk α v
      simp [carried, hstream hk]
    by_cases hkp : x.newKind old = .pin
    · simp [fitsKind, patch, hkp, hs (by simp [hkp])]
    · by_cases hks : x.newKind old = .stream
      · simp [fitsKind, patch, hks, hp hkp]
      · simp [fitsKind, patch, hp hkp, hs hks]

end Read

end SentSettings

end Sys2Proof.Machine
end

section
/-! PROOF. The patch that a Lane Set's settings form once they are clamped, the record and the staged part it leaves, and its
Answer (R107, R116 to R119; O43). -/

namespace Sys2Proof.Machine

-- Elaborated in turn, as the section on what comes back through a reset says.
set_option deprecated.oldSectionVars true

/-! ### Settings, field by field (R107) -/

/-- Settings after a change of kind: each field is kept where it applies (R107). -/
theorem settingsOfKind_eq (k : LaneKind) (x : Settings) : settingsOfKind k x = { x with
    kind := k
    target := if k = x.kind then x.target else .none
    waveform := if k = x.kind ∨ k = .pin then x.waveform else .pulse
    width := if k = x.kind ∨ k = .pin then x.width else 480
    accent := if k = x.kind ∨ k = .pin then x.accent else none
    polarity := if k = x.kind ∨ k = .pin then x.polarity else .normal
    codes := if k = x.kind ∨ k = .stream then x.codes else ⟨0, 0, 0, 0⟩
    barCode := if k = x.kind ∨ k = .stream then x.barCode else none } := by
  by_cases hk : k = x.kind
  · subst hk
    simp
  · cases k <;> simp [settingsOfKind, hk]

theorem settledSwing_eq (x : Settings) : settledSwing x = { x with
    swing := if swingApplies x.rate then x.swing else 50 } := by
  unfold settledSwing
  split <;> rfl

/-- A patch that changes neither the kind, the target nor the polarity is written in its two parts (R107, R119). -/
theorem applyPatch_parts {p : Patch} (hk : p.kind = none) (ht : p.target = none) (hp : p.polarity = none) (x : Settings) :
    applyPatch (stageablePart p) (applyPatch (immediatePart p) x) = applyPatch p x := by
  simp [applyPatch, stageablePart, immediatePart, hk, ht, hp]

namespace SentSettings

variable {x : SentSettings} {old : Settings}

/-! ### The patch as it is taken (R116) -/

theorem carried_getD {α : Type} (b : Nat) (v d : α) : (x.carried b v).getD d = if x.has b then v else d := by
  rw [carried]
  split <;> rfl

theorem carried_isSome {α : Type} (b : Nat) (v : α) : (x.carried b v).isSome = x.has b := by
  rw [carried]
  cases x.has b <;> rfl

theorem carried_map {α β : Type} (b : Nat) (v : α) (f : α → β) : (x.carried b v).map f = x.carried b (f v) := by
  rw [carried, carried]
  split <;> rfl

theorem carried_inj {α : Type} (b : Nat) (v w : α) : x.carried b v = x.carried b w ↔ (x.has b = true → v = w) := by
  cases hb : x.has b <;> simp [carried, hb]

theorem carried_not {α : Type} {b : Nat} (h : x.has b = false) (v : α) : x.carried b v = none := by simp [carried, h]

/-- The rate sent, or the one held. -/
def sentRate (x : SentSettings) (old : Settings) : Rate := if x.has 2 then x.rate else old.rate

theorem newRate_eq (x : SentSettings) (old : Settings) : x.newRate old = limitRate (x.newKind old) (x.sentRate old) := by
  unfold newRate sentRate
  dsimp only
  split
  · next h => rw [h, limitRate, clampNat_eq _ (by split <;> decide)]
  · next h => rw [h, limitRate, clampNat_eq _ (by decide)]
  · next h => rw [h, limitRate]

/-- The patch with each value clamped (R116). -/
def taken (x : SentSettings) (old : Settings) : Patch where
  kind := x.carried 0 (x.newKind old)
  target := x.carried 1 x.target
  rate := if x.has 2 ∨ x.newRate old ≠ old.rate then some (x.newRate old) else none
  swing := x.carried 3 (x.newSwing old)
  offset := x.carried 4 (min 4800 (max (-4800) x.offset))
  align := x.carried 5 x.align
  waveform := x.carried 6 x.waveform
  width := x.carried 7 (min 2400 (max 24 x.width))
  accent := x.carried 8 x.newAccent
  polarity := x.carried 9 x.polarity
  playOnly := x.carried 10 x.playOnly
  spacing := x.carried 11 (max 1 x.spacing)
  codes := x.carried 12 x.codes
  barCode := x.carried 13 x.barCode

theorem patchRate_sent (x : SentSettings) (old : Settings) :
    patchRate (x.newKind old) old.rate (x.patch (x.newKind old)) = (x.taken old).rate := by
  have hnew := newRate_eq x old
  cases h : x.has 2
  · rw [sentRate, if_neg (by simp [h])] at hnew
    simp [patchRate, patch, taken, carried, h, hnew]
  · rw [sentRate, if_pos h] at hnew
    simp [patchRate, patch, taken, carried, h, hnew]

theorem taken_rate_getD (x : SentSettings) (old : Settings) : (x.taken old).rate.getD old.rate = x.newRate old := by
  by_cases h : x.has 2 = true ∨ x.newRate old ≠ old.rate
  · rw [show (x.taken old).rate = _ from if_pos h, Option.getD_some]
  · rw [show (x.taken old).rate = _ from if_neg h, Option.getD_none]
    exact (not_not.1 (not_or.1 h).2).symm

theorem clampPatch_sent (hx : x.Fits old) :
    clampPatch (x.newKind old) old.rate (x.patch (x.newKind old)) = x.taken old := by
  obtain ⟨-, -, -, -, -, -, hspacing, -⟩ := hx
  have hspace : clampNat 1 255 x.spacing = max 1 x.spacing := by
    rw [clampNat_eq _ (by decide)]
    omega
  have haccent : Option.map (clampNat 24 2400) (if x.accent = 0 then none else some x.accent) = x.newAccent := by
    rw [newAccent]
    split
    · rfl
    · exact congrArg some (clampNat_eq _ (by decide))
  have hswing : limitSwing (x.newRate old) x.swing = x.newSwing old := by
    rw [limitSwing, newSwing, clampNat_eq _ (by decide)]
  rw [clampPatch, patchRate_sent, taken_rate_getD]
  simp only [patch, carried_map, haccent, hswing, hspace, clampNat_eq x.width (by decide : 24 ≤ 2400),
    clampInt_eq x.offset (by decide : (-4800 : Int) ≤ 4800)]
  rfl

/-- A value was clamped exactly where the patch taken is not the one sent (R116). -/
theorem taken_ne_patch_iff (hx : x.Fits old) : x.taken old ≠ x.patch (x.newKind old) ↔ x.Clamped old := by
  obtain ⟨-, -, -, -, -, -, hspacing, -⟩ := hx
  have hrate : (x.taken old).rate = (x.patch (x.newKind old)).rate ↔ x.newRate old = x.sentRate old := by
    cases h : x.has 2 <;> simp [taken, patch, carried, sentRate, h]
  have hoffset : min 4800 (max (-4800) x.offset) = x.offset ↔ ¬ (x.offset < -4800 ∨ 4800 < x.offset) := by omega
  have hwidth : min 2400 (max 24 x.width) = x.width ↔ ¬ (x.width < 24 ∨ 2400 < x.width) := by omega
  have haccent : x.newAccent = (if x.accent = 0 then none else some x.accent) ↔
      ¬ (x.accent ≠ 0 ∧ (x.accent < 24 ∨ 2400 < x.accent)) := by
    rw [newAccent]
    split
    · next h => simp [h]
    · rw [Option.some.injEq]
      omega
  have hspace : max 1 x.spacing = x.spacing ↔ ¬ x.spacing = 0 := by omega
  have hsame : x.taken old = x.patch (x.newKind old) ↔ x.newRate old = x.sentRate old ∧
      (x.has 3 = true → x.newSwing old = x.swing) ∧ (x.has 4 = true → ¬ (x.offset < -4800 ∨ 4800 < x.offset)) ∧
      (x.has 7 = true → ¬ (x.width < 24 ∨ 2400 < x.width)) ∧
      (x.has 8 = true → ¬ (x.accent ≠ 0 ∧ (x.accent < 24 ∨ 2400 < x.accent))) ∧ (x.has 11 = true → ¬ x.spacing = 0) := by
    rw [← hrate, ← hoffset, ← hwidth, ← haccent, ← hspace]
    simp only [taken, patch, Patch.mk.injEq, carried_inj, true_and, and_true]
  rw [ne_eq, hsame, Clamped, ← sentRate]
  simp only [not_and_or, not_or, Classical.not_imp, not_not, ne_eq]

/-! ### The record (R117, R118) -/

theorem taken_kind_getD (x : SentSettings) (old : Settings) : (x.taken old).kind.getD old.kind = x.newKind old := by
  refine (carried_getD 0 _ _).trans ?_
  rw [newKind]
  split <;> rfl

theorem written_eq (x : SentSettings) (old : Settings) : writePatch (x.taken old) old = x.written old := by
  have hswing : (if swingApplies (x.newRate old) then (if x.has 3 then x.newSwing old else old.swing) else 50) =
      if x.has 3 then x.newSwing old else if swingApplies (x.newRate old) then old.swing else 50 := by
    cases ha : swingApplies (x.newRate old) <;> simp [newSwing, ha]
  rw [writePatch, taken_kind_getD, settledSwing_eq, settingsOfKind_eq]
  unfold applyPatch
  simp only [taken_rate_getD]
  simp only [taken, carried_getD, hswing, ite_self, written, decide_eq_true_eq]

/-- Every carried setting equals the value held exactly where the record stays as it is. -/
theorem taken_held_iff (hold : SettingsOk old) : applyPatch (x.taken old) old = old ↔ x.written old = old := by
  rw [← written_eq]
  by_cases hk : x.newKind old = old.kind
  · have hwrite : writePatch (x.taken old) old = settledSwing (applyPatch (x.taken old) old) := by
      rw [writePatch, taken_kind_getD, hk, settingsOfKind_self]
    rw [hwrite]
    refine ⟨fun h => by rw [h, settledSwing_settled hold.noSwing], fun h => ?_⟩
    have hrate : (applyPatch (x.taken old) old).rate = old.rate := (settledSwing_rate _).symm.trans (congrArg Settings.rate h)
    have hnew : x.newRate old = old.rate := (taken_rate_getD x old).symm.trans hrate
    rwa [settledSwing_settled] at h
    rw [hrate]
    intro hn
    refine (carried_getD 3 _ _).trans ?_
    rw [newSwing, hnew, hn, hold.noSwing hn]
    simp
  · refine iff_of_false (fun h => hk ?_) fun h => hk ?_
    · exact (taken_kind_getD x old).symm.trans (congrArg Settings.kind h)
    · rw [written_eq] at h
      exact congrArg Settings.kind h

/-! ### An ACTIVE lane (R119) -/

section Active

variable (hfixed : x.has 0 = false ∧ x.has 1 = false ∧ x.has 9 = false)
include hfixed

theorem newKind_held : x.newKind old = old.kind := by simp [newKind, hfixed.1]

theorem newRate_held (hold : RateOk old.kind old.rate) (h : x.has 2 = false) : x.newRate old = old.rate := by
  rw [newRate_eq, newKind_held hfixed, sentRate, if_neg (by simp [h])]
  exact hold

theorem taken_rate (hold : RateOk old.kind old.rate) : (x.taken old).rate = x.carried 2 (x.newRate old) := by
  cases h : x.has 2
  · simp [taken, carried, h, newRate_held hfixed hold h]
  · simp [taken, carried, h]

theorem stageablePart_taken (hold : RateOk old.kind old.rate) : stageablePart (x.taken old) = x.staged old := by
  rw [stageablePart, taken_rate hfixed hold]
  rfl

omit hfixed in
theorem immediatePart_taken : applyPatch (immediatePart (x.taken old)) old =
    { old with align := (x.written old).align, spacing := (x.written old).spacing } := by
  simp only [applyPatch, immediatePart, taken, carried_getD, Option.getD_none, written]

theorem applyPatch_staged (hold : RateOk old.kind old.rate) : settledSwing (applyPatch (x.staged old)
    { old with align := (x.written old).align, spacing := (x.written old).spacing }) = x.written old := by
  obtain ⟨h0, h1, h9⟩ := hfixed
  rw [← stageablePart_taken ⟨h0, h1, h9⟩ hold, ← immediatePart_taken,
    applyPatch_parts (carried_not h0 _) (carried_not h1 _) (carried_not h9 _), ← written_eq,
    writePatch_sameKind (carried_not h0 _)]

end Active

/-- No stageable setting is carried (R107). -/
theorem staged_empty_iff : patchEmpty (x.staged old) = true ↔ x.mask &&& 0x35DC = 0 := by
  have hpatch : patchEmpty (x.staged old) = true ↔ x.has 2 = false ∧ x.has 3 = false ∧ x.has 4 = false ∧
      x.has 6 = false ∧ x.has 7 = false ∧ x.has 8 = false ∧ x.has 10 = false ∧ x.has 12 = false ∧ x.has 13 = false := by
    have hsome : ∀ {α : Type} (b : Nat) (v : α), (if x.has b = true then some v else none).isSome = x.has b := carried_isSome
    simp only [patchEmpty, patchMask, staged, hsome, Option.isSome_none, Bool.toNat_false, decide_eq_true_eq]
    simp [and_assoc]
  rw [hpatch]
  constructor
  · rintro ⟨h2, h3, h4, h6, h7, h8, h10, h12, h13⟩
    refine BitVec.eq_of_getLsbD_eq fun i hi => ?_
    rw [BitVec.getLsbD_and]
    interval_cases i <;> simp_all [has]
  · intro h
    have hbit : ∀ b, (0x35DC#16).getLsbD b = true → x.has b = false := fun b hb => by
      simpa [hb, has] using congrArg (fun m => BitVec.getLsbD m b) h
    exact ⟨hbit 2 rfl, hbit 3 rfl, hbit 4 rfl, hbit 6 rfl, hbit 7 rfl, hbit 8 rfl, hbit 10 rfl, hbit 12 rfl, hbit 13 rfl⟩

end SentSettings

/-- The anchor an EVERY lane keeps, and no other lane has (R106, R120). -/
theorem LaneOk.anchorKept {ln : Lane} (h : LaneOk ln) (hs : ln.state = .active) :
    anchorKept ln.settings.rate ln.anchor = ln.anchor := by
  have hiff := h.anchor hs
  cases hr : ln.settings.rate with
  | every q => rfl
  | perBeat p =>
    cases ha : ln.anchor with
    | none => rfl
    | some a => simp [hr, ha] at hiff
  | perBar =>
    cases ha : ln.anchor with
    | none => rfl
    | some a => simp [hr, ha] at hiff

/-- What the staged settings do at NOW (R119, R120). -/
theorem stagePatch_staged_now {x : SentSettings} {g : Grid} {ln : Lane} (h : LaneOk ln) (hs : ln.state = .active)
    (hfixed : x.has 0 = false ∧ x.has 1 = false ∧ x.has 9 = false) :
    let old := ln.settings
    let new := x.written old
    let ref := reference g old.offset
    stagePatch g .now (x.staged old) { ln with settings := { old with align := new.align, spacing := new.spacing } } =
      { ln with
        settings := new
        staged := none
        anchor := if x.has 2 then anchorFrom new.rate (ref.beat + 1) else ln.anchor
        nextPoint := if x.has 2 then some (firstPoint new (anchorFrom new.rate (ref.beat + 1)) true ref)
          else ln.nextPoint } := by
  intro old new ref
  have hsettings := SentSettings.applyPatch_staged hfixed h.settings.rate
  cases hrate : x.has 2
  · have hnone : (x.staged old).rate = none := by simp [SentSettings.staged, hrate]
    have hkept : new.rate = old.rate := SentSettings.newRate_held hfixed h.settings.rate hrate
    rw [stagePatch, applyNow_uncarried hnone, hsettings, hkept, h.anchorKept hs]
    rfl
  · have hsome : (x.staged old).rate.isSome := by simp [SentSettings.staged, hrate]
    rw [stagePatch, applyNow_carried hsome, hsettings]
    rfl

/-- Settles O43: the request reads as the settings sent, they are taken clamped, and each state of the lane takes them in
its way. -/
theorem laneSetWritesEverySetting : Obligations.LaneSetWritesEverySetting := by
  intro s st tag l x hp ho hc hln hx hopen ln old new owner ref stages atOnce
  let code := laneSetCode x.keep st (x.patch (x.newKind old)) (x.taken old) ln
  have hfixed : ln.state = .active → x.has 0 = false ∧ x.has 1 = false ∧ x.has 9 = false :=
    fun hs => hopen.resolve_left fun h => absurd (h.symm.trans hs) (by decide)
  have hstageable : (x.has 0 = false ∧ x.has 1 = false ∧ x.has 9 = false) →
      (patchEmpty (stageablePart (x.taken old)) = true ↔ ¬ stages) := fun h => by
    rw [SentSettings.stageablePart_taken h hln.settings.rate, SentSettings.staged_empty_iff]
    exact not_not.symm
  have hexec := exec_laneSet_accepted hc (x.bytes_length l) hp (x.laneField_bytes l) (ownerRefusal_afterTaking_own ho)
    (SentSettings.reads_bytes hx) (by simpa only [SentSettings.carries_bytes] using hopen) (x.keep_bytes l)
    (SentSettings.clampPatch_sent hx)
  refine ⟨code, activationFor s.grid new, firstPoint new (anchorFrom new.rate (ref.beat + 1)) true ref,
    armedAt_activationFor _ _, firstBeyond_firstPoint _ _ _,
    fun h => laneSetCode_clamped ((SentSettings.taken_ne_patch_iff hx).2 h), fun h => ?_,
    hexec.trans (congrArg (fun y : Lane => Host.Outcome.next (placeReply st 0x0D tag
      (.answer code (BitVec.ofNat 8 l.val)) ((afterTaking st s).setLane l { y with owner := owner }))) ?_)⟩
  · have hsame : x.taken old = x.patch (x.newKind old) := not_not.1 fun hne => h ((SentSettings.taken_ne_patch_iff hx).1 hne)
    refine (laneSetCode_exact hsame).trans ?_
    split
    · next hs =>
      have hempty := hstageable (hfixed hs)
      by_cases hst : stages
      · rw [if_pos hst]
        exact patchAnswer_stages hs (Bool.eq_false_iff.2 fun he => hempty.1 he hst)
      · rw [if_neg hst, patchAnswer_atOnce hs (hempty.2 hst), SentSettings.immediatePart_taken]
        rfl
    · next hs =>
      rw [patchAnswer_record hs]
      simp only [show applyPatch (x.taken old) ln.settings = ln.settings ↔ new = old from
        SentSettings.taken_held_iff hln.settings]
      rfl
  · split
    · next hs => rw [setPatch_on_off hs, SentSettings.written_eq]
    · next hs => rw [setPatch_on_arming hs, SentSettings.written_eq]
    · next hs =>
      have hempty := hstageable (hfixed hs)
      rw [setPatch_active hs, SentSettings.immediatePart_taken]
      by_cases hst : stages
      · rw [if_neg fun he => hempty.1 he hst, if_neg (not_not_intro hst),
          SentSettings.stageablePart_taken (hfixed hs) hln.settings.rate]
        split
        · next ha => rw [ha]; exact stagePatch_staged_now hln hs (hfixed hs)
        · next ha => rw [ha]; rfl
        · next ha => rw [ha]; rfl
      · rw [if_pos (hempty.2 hst), if_pos hst]

end Sys2Proof.Machine
end

section
/-! PROOF. A disable and what it does to the lane's target; the rows of Lane Disable (R112, R122, R151, R160, R170; O45). -/

namespace Sys2Proof.Machine

-- Elaborated in turn, as the section on what comes back through a reset says.
set_option deprecated.oldSectionVars true

/-! ### A disable takes effect (R112, R160, R170) -/

theorem targetAfterDisable_pin {ln : Lane} {p : PinId} (hk : ln.settings.kind = .pin) (ht : ln.settings.target = .pin p)
    (s : State) : targetAfterDisable ln s = s.setPin p
      { s.pin p with function := .level, level := false, timing := false, activeUntil := none } := by
  simp [targetAfterDisable, hk, ht]

theorem targetAfterDisable_stream {ln : Lane} {p : PortId} (hk : ln.settings.kind = .stream)
    (ht : ln.settings.target = .port p) (s : State) : targetAfterDisable ln s =
      if ln.emittedPlaying then s.setPort p (portTransport ln.settings.codes.stop (s.port p)) else s := by
  simp [targetAfterDisable, hk, ht]

theorem targetAfterDisable_notice {ln : Lane} (hk : ln.settings.kind = .notice) (s : State) :
    targetAfterDisable ln s = s := by
  simp [targetAfterDisable, hk]

theorem disableLane_eq (l : LaneId) (s : State) :
    disableLane l s = targetAfterDisable (s.lane l) (s.setLane l (laneAfterDisable (s.lane l))) := rfl

/-! ### Lane Disable (R122) -/

theorem laneByte_toNat (l : LaneId) : (BitVec.ofNat 8 l.val).toNat = l.val :=
  Nat.mod_eq_of_lt (l.isLt.trans (by decide))

section Rows

variable {s : State} {l : LaneId} {f : List Byte} {ap : Byte}

theorem laneDisableChecked_outside (hf : f1 f 1 = ap.toNat) (h : 3 ≤ ap.toNat) :
    laneDisableChecked f l s = answered .badField (laneDetail l) s := by
  rw [laneDisableChecked, hf, readApplyAt_outside h]

theorem laneDisableChecked_inside {a : ApplyAt} (hf : f1 f 1 = ap.toNat) (h : readApplyAt ap.toNat = some a) :
    laneDisableChecked f l s = laneDisableWith l a s := by
  rw [laneDisableChecked, hf, h]

theorem laneDisableWith_off (hs : (s.lane l).state = .off) (a : ApplyAt) :
    laneDisableWith l a s = answered .noChange (laneDetail l) s := by
  simp [laneDisableWith, hs]

theorem laneDisableWith_now {a : ApplyAt} (h : (s.lane l).state = .arming ∨ (s.lane l).state = .active ∧ a = .now) :
    laneDisableWith l a s = (disableLane l s, .answer .ok (laneDetail l)) := by
  rcases h with hs | ⟨hs, rfl⟩ <;> simp [laneDisableWith, hs]

/-- A pending disable waits beyond the lane's reference, for a beat or a bar by the apply-at (R108). -/
theorem laneDisableWith_pending (hs : (s.lane l).state = .active) (hap : ap = 1 ∨ ap = 2) {a : ApplyAt}
    (ha : readApplyAt ap.toNat = some a) : laneDisableWith l a s =
      (s.setLane l { s.lane l with
        disable := some ⟨decide (ap = 2), (reference s.grid (s.lane l).settings.offset).beat + 1⟩ },
        .answer (if (s.lane l).disable.isSome then .replaced else .ok) (laneDetail l)) := by
  rcases hap with rfl | rfl
  · obtain rfl : a = .nextBeat := Option.some.inj (ha.symm.trans (by decide))
    simp [laneDisableWith, hs, pendDisable, boundaryAfter]
  · obtain rfl : a = .nextBar := Option.some.inj (ha.symm.trans (by decide))
    simp [laneDisableWith, hs, pendDisable, boundaryAfter]

end Rows

/-- Settles O45: the apply-at, then the row of the lane's state. -/
theorem laneDisableFollowsItsTable : Obligations.LaneDisableFollowsItsTable := by
  intro s st tag ap flags l code hp ho hc ln s1 ends off
  have hlane : s1.lane l = ln := afterTaking_lane st s l
  have hfield : laneField (BitVec.ofNat 8 l.val :: ap :: flags :: be2 code.toNat) = some l :=
    laneField_index (laneByte_toNat l)
  have hends : ∀ {u r}, laneDisableChecked (BitVec.ofNat 8 l.val :: ap :: flags :: be2 code.toNat) l s1 =
      (u, .answer r (laneDetail l)) → ends u r := fun h =>
    exec_request_ends rfl hc (by simp) ((withLane_lane ((afterTaking_present st s st).trans hp) hfield).trans
      ((owned_passes (ownerRefusal_afterTaking_own ho)).trans h))
  have hrow : ∀ {a u r}, readApplyAt ap.toNat = some a → laneDisableWith l a s1 = (u, .answer r (laneDetail l)) → ends u r :=
    fun ha h => hends ((laneDisableChecked_inside (ap := ap) rfl ha).trans h)
  refine ⟨fun hap => hends (laneDisableChecked_outside rfl hap), fun hap hs => ?_, fun hap hs => ?_, fun hap hs => ?_⟩
  · obtain ⟨a, ha⟩ := readApplyAt_inside hap
    exact hrow ha (laneDisableWith_off (by rwa [hlane]) a)
  · obtain ⟨a, ha⟩ := readApplyAt_inside hap
    have hnow : ends (targetAfterDisable ln off) .ok := by
      refine hrow ha ((laneDisableWith_now ?_).trans ?_)
      · rw [hlane]
        exact hs.imp_right fun ⟨hs, h0⟩ => ⟨hs, by subst h0; exact Option.some.inj (ha.symm.trans (by decide))⟩
      · rw [disableLane_eq, hlane]
    refine ⟨fun p hk ht => ?_, fun p hk ht => ?_, fun hk => ?_⟩
    · rw [targetAfterDisable_pin hk ht] at hnow
      simpa [off, s1] using hnow
    · rw [targetAfterDisable_stream hk ht] at hnow
      simpa [off, s1] using hnow
    · rwa [targetAfterDisable_notice hk] at hnow
  · obtain ⟨a, ha⟩ := readApplyAt_inside (n := ap.toNat) (by rcases hap with rfl | rfl <;> decide)
    have h := laneDisableWith_pending (s := s1) (by rwa [hlane]) hap ha
    rw [hlane] at h
    exact hrow ha h

end Sys2Proof.Machine
end

section
/-! PROOF. What taking an item leaves of a lane, the moments of a lane as commands of their own, and the steps of a walk that
take boundaries (R108, R110 to R112, R120, R136, R137; O46, O48). -/

namespace Sys2Proof.Machine

-- Elaborated in turn, as the section on what comes back through a reset says.
set_option deprecated.oldSectionVars true

/-! ### Activations (R111) -/

section Activate

variable {ln : Lane}

/-- A lane that an activation at a beat start leaves (R111). -/
def activatedAt (b : Beat) (ln : Lane) : Lane :=
  { ln with
    state := .active, activation := none, nextPoint := some ⟨b, 0, 0⟩, anchor := anchorFrom ln.settings.rate b }

theorem activateLane_beatStart (h : RateOk ln.settings.kind ln.settings.rate) (b : Beat) :
    activateLane (Pos.beatStart b) ln = activatedAt b ln := by
  unfold activateLane activatedAt
  rw [show (Pos.beatStart b).beat = b from rfl, firstPoint_activated h, anchorAt_eq]

/-- An activation at a point inside a beat (R110, R111). -/
theorem activateLane_point {p : Nat} {n : NextPoint} (hr : ln.settings.rate = .perBeat p)
    (hn : PointFrom false ln.settings p (pointPos n) n) : activateLane (pointPos n) ln =
      { ln with state := .active, activation := none, nextPoint := some n, anchor := none } := by
  have hp : 0 < p := Nat.zero_lt_of_lt hn.1
  have hanchor : anchorAt ln.settings.rate (pointPos n).beat = none := by rw [hr]; rfl
  unfold activateLane
  rw [hanchor, (firstPoint_perBeat hr hp none false (pointPos n)).unique hn]

theorem takeItem_position (g : Grid) (count : Frame) (p : Pos) :
    takeItem g count (.activation (.position p)) ln = ⟨activateLane p ln, none⟩ := rfl

theorem takeItem_barStart (g : Grid) (count : Frame) (b : Beat) : takeItem g count (.activation (.barStart b)) ln =
    ⟨if isBarStart g b then activateLane (Pos.beatStart b) ln else { ln with activation := some (.barStart (b + 1)) },
      none⟩ := by
  rw [takeItem]
  split <;> rfl

end Activate

/-! ### Staged parts and disables (R108, R112, R120) -/

section Boundaries

variable {g : Grid} {count : Frame} {ln : Lane} {b : Beat} {bar : Bool}

theorem boundaryMet_iff : boundaryMet g ⟨bar, b⟩ = true ↔ bar = false ∨ isBarStart g b = true := by simp [boundaryMet]

/-- The first point that a staged part taken at a beat makes next (R120, R130). -/
def StagedPoint (x : Settings) (carried : Option Rate) (anchor : Option Beat) (b : Beat) (n : NextPoint) : Prop :=
  match x.rate, carried, anchor with
  | .every q, none, some a => EveryFrom q a b n
  | _, _, _ => n = ⟨b, 0, 0⟩

/-- A lane once its staged part was applied at a beat, its next point being n (R120). -/
def stagedAt (p : Patch) (x : Settings) (b : Beat) (n : NextPoint) (ln : Lane) : Lane :=
  { ln with
    settings := x
    staged := none
    anchor := if p.rate.isSome then anchorFrom x.rate b else anchorKept x.rate ln.anchor
    nextPoint := some n }

theorem applyStaged_eq {p : Patch} {x : Settings} (hx : x = settledSwing (applyPatch p ln.settings))
    (hr : RateOk x.kind x.rate) (d : LaneBoundary) :
    ∃ n, StagedPoint x p.rate ln.anchor b n ∧ applyStaged b ⟨p, d⟩ ln = stagedAt p x b n ln := by
  have hanchor : anchorAfter p.rate.isSome x.rate b ln.anchor =
      if p.rate.isSome then anchorFrom x.rate b else anchorKept x.rate ln.anchor := by
    cases p.rate with
    | none => exact anchorAfter_kept x.rate b ln.anchor
    | some r => exact anchorAt_eq x.rate b
  refine ⟨firstPoint x (anchorAfter p.rate.isSome x.rate b ln.anchor) false (Pos.beatStart b), ?_, ?_⟩
  · unfold StagedPoint
    split
    · next q a hq hcarried hkept =>
      have h := firstPoint_every_anchored hq (rateOk_every_iff.1 (hq ▸ hr)).1 a false (Pos.beatStart b)
      rw [firstBeat_beatStart] at h
      rw [hanchor, hq, hkept, hcarried]
      exact h
    · next hnot =>
      refine firstPoint_beatStart hr fun q hq => ?_
      rw [hanchor, hq]
      cases hcarried : p.rate with
      | some r => exact .inr rfl
      | none =>
        cases hkept : ln.anchor with
        | none => exact .inl rfl
        | some a => exact (hnot q a hq hcarried hkept).elim
  · subst hx
    unfold applyStaged stagedAt
    rw [← hanchor]

theorem takeItem_staged_waits (sp : Staged) (h : boundaryMet g sp.boundary = false) :
    takeItem g count (.staged sp) ln = ⟨{ ln with staged := some { sp with boundary := sp.boundary.later } }, none⟩ := by
  simp [takeItem, h]

/-- A staged part taken with no disable of its beat (R120). -/
theorem takeItem_staged_alone {p : Patch} {x : Settings} (hx : x = settledSwing (applyPatch p ln.settings))
    (hr : RateOk x.kind x.rate) (h : boundaryMet g ⟨bar, b⟩ = true)
    (hd : ∀ d, ln.disable = some d → liesBeyond d.beat b ∨ d.beat = b ∧ ¬ (d.bar = false ∨ isBarStart g b = true)) :
    ∃ n, StagedPoint x p.rate ln.anchor b n ∧
      takeItem g count (.staged ⟨p, bar, b⟩) ln = ⟨stagedAt p x b n ln, none⟩ := by
  obtain ⟨n, hn, happly⟩ := applyStaged_eq (b := b) hx hr ⟨bar, b⟩
  have hstays : disableAt g b (stagedAt p x b n ln) = false := by
    show disableAt g b ln = false
    unfold disableAt
    cases hdis : ln.disable with
    | none => rfl
    | some d =>
      rcases hd d hdis with hb | ⟨rfl, hnot⟩
      · have hne : d.beat ≠ b := fun e => not_liesBeyond_self b (e ▸ hb)
        simp [hne]
      · rw [← boundaryMet_iff] at hnot
        simpa using hnot
  refine ⟨n, hn, ?_⟩
  rw [takeItem]
  dsimp only
  rw [if_pos h, happly, if_neg (by rw [hstays]; decide)]

/-- A staged part and a disable of one beat, taken together (R112, R120). -/
theorem takeItem_staged_disable {p : Patch} {x : Settings} {w : Bool} (hx : x = settledSwing (applyPatch p ln.settings))
    (h : boundaryMet g ⟨bar, b⟩ = true) (hw : boundaryMet g ⟨w, b⟩ = true) (hd : ln.disable = some ⟨w, b⟩) :
    takeItem g count (.staged ⟨p, bar, b⟩) ln =
      ⟨laneAfterDisable { ln with settings := x }, some ln.emittedPlaying⟩ := by
  have hends : disableAt g b (applyStaged b ⟨p, bar, b⟩ ln) = true := by
    show disableAt g b ln = true
    simp [disableAt, hd, hw]
  rw [takeItem]
  dsimp only
  rw [if_pos h, if_pos hends, hx]
  rfl

theorem takeItem_disable_waits (d : LaneBoundary) (h : boundaryMet g d = false) :
    takeItem g count (.disable d) ln = ⟨{ ln with disable := some d.later }, none⟩ := by
  simp [takeItem, h]

theorem takeItem_disable_met (d : LaneBoundary) (h : boundaryMet g d = true) :
    takeItem g count (.disable d) ln = ⟨laneAfterDisable ln, some ln.emittedPlaying⟩ := by
  simp only [takeItem, h, if_true]
  rfl

end Boundaries

/-! ### The steps of a walk (R136, R137; O48) -/

section Walk

variable {g : Grid} {count : Frame} {ln : Lane} {i : WalkItem}

theorem walk_rests (h : nextItem (reference g ln.settings.offset) ln = none) (fuel : Nat) :
    walk g count fuel ln = ⟨ln, none⟩ := by
  cases fuel with
  | zero => rfl
  | succ n => rw [walk, h]

theorem walk_goes (h : nextItem (reference g ln.settings.offset) ln = some i) {x : Lane}
    (hx : takeItem g count i ln = ⟨x, none⟩) (fuel : Nat) : walk g count (fuel + 1) ln = walk g count fuel x := by
  rw [walk, h]
  dsimp only
  rw [hx]

theorem walk_ends (h : nextItem (reference g ln.settings.offset) ln = some i) {x : Lane} {e : Bool}
    (hx : takeItem g count i ln = ⟨x, some e⟩) (fuel : Nat) : walk g count (fuel + 1) ln = ⟨x, some e⟩ := by
  rw [walk, h]
  dsimp only
  rw [hx]

end Walk

/-- Settles O48: the item next for the reference, then what taking it leaves. -/
theorem walkServesBoundaries : Obligations.WalkServesBoundaries := by
  intro g count fuel ln b ref met goes activated applied
  refine ⟨fun h => walk_rests h fuel, fun p n hs hr hn href ha => ?_, fun href => ⟨fun hs hr => ⟨fun ha => ?_, fun ha => ?_⟩,
    fun p bar x hs hn hsp hx hr => ⟨fun hm hd => ?_, fun w hm hw hd => ?_, fun hm hd => ?_⟩,
    fun bar hs hn hd hsp => ⟨fun hm => ?_, fun hm => ?_⟩⟩⟩
  · exact walk_goes (nextItem_activation hs ha href) (congrArg (Walked.mk · none) (activateLane_point hr hn)) fuel
  · exact walk_goes (nextItem_activation hs ha href) (congrArg (Walked.mk · none) (activateLane_beatStart hr b)) fuel
  · refine walk_goes (nextItem_activation hs ha href) ?_ fuel
    rw [takeItem_barStart, activateLane_beatStart hr]
    rfl
  · have hnext := nextItem_staged hs hsp href hn fun d hdis => (hd d hdis).imp_right And.left
    obtain ⟨n, hpoint, htake⟩ := takeItem_staged_alone (count := count) hx hr (boundaryMet_iff.2 hm) hd
    exact ⟨n, hpoint, walk_goes hnext htake fuel⟩
  · have hnext := nextItem_staged hs hsp href hn fun d hdis => .inr (by rw [hd] at hdis; cases hdis; rfl)
    exact walk_ends hnext (takeItem_staged_disable hx (boundaryMet_iff.2 hm) (boundaryMet_iff.2 hw) hd) fuel
  · have hwaits : boundaryMet g ⟨bar, b⟩ = false := Bool.eq_false_iff.2 fun h => hm (boundaryMet_iff.1 h)
    exact walk_goes (nextItem_staged hs hsp href hn hd) (takeItem_staged_waits ⟨p, bar, b⟩ hwaits) fuel
  · exact walk_ends (nextItem_disable hs hd href hn hsp) (takeItem_disable_met ⟨bar, b⟩ (boundaryMet_iff.2 hm)) fuel
  · have hwaits : boundaryMet g ⟨bar, b⟩ = false := Bool.eq_false_iff.2 fun h => hm (boundaryMet_iff.1 h)
    exact walk_goes (nextItem_disable hs hd href hn hsp) (takeItem_disable_waits ⟨bar, b⟩ hwaits) fuel

/-! ### The moments as commands (log entry 8; O46) -/

section Moments

variable {s : State} {l : LaneId} (hp : s.phase = .running) (hg : s.grid.state ≠ .unset)
include hp hg

theorem exec_laneActivation_due {a : Activation}
    (h : nextItem (reference s.grid (s.lane l).settings.offset) (s.lane l) = some (.activation a))
    (hm : activationMet s.grid a = true) : exec (.laneActivation l) s =
      .next (putWalked l (takeItem s.grid s.fru.count (.activation a) (s.lane l)) s) := by
  refine congrArg Host.Outcome.next ((whenRunning_running hp).trans ?_)
  simp only [activationMoment, dueItem, hg, h, if_false, hm, if_true]
  rfl

theorem exec_stagedPartApply_due {sp : Staged}
    (h : nextItem (reference s.grid (s.lane l).settings.offset) (s.lane l) = some (.staged sp))
    (hm : boundaryMet s.grid sp.boundary = true) : exec (.stagedPartApply l) s =
      .next (putWalked l (takeItem s.grid s.fru.count (.staged sp) (s.lane l)) s) := by
  refine congrArg Host.Outcome.next ((whenRunning_running hp).trans ?_)
  simp only [stagedMoment, dueItem, hg, h, if_false, hm, if_true]
  rfl

theorem exec_pendingDisableEffect_due {d : LaneBoundary}
    (h : nextItem (reference s.grid (s.lane l).settings.offset) (s.lane l) = some (.disable d))
    (hm : boundaryMet s.grid d = true) : exec (.pendingDisableEffect l) s =
      .next (putWalked l (takeItem s.grid s.fru.count (.disable d) (s.lane l)) s) := by
  refine congrArg Host.Outcome.next ((whenRunning_running hp).trans ?_)
  simp only [disableMoment, dueItem, hg, h, if_false, hm, if_true]
  rfl

theorem exec_laneActivation_rests
    (h : ∀ a, nextItem (reference s.grid (s.lane l).settings.offset) (s.lane l) = some (.activation a) →
      activationMet s.grid a = false) : exec (.laneActivation l) s = .next s := by
  refine congrArg Host.Outcome.next ((whenRunning_running hp).trans ?_)
  rw [activationMoment, dueItem, if_neg hg]
  split
  · next a ha => rw [h a ha, if_neg Bool.false_ne_true]
  · rfl

theorem exec_stagedPartApply_rests
    (h : ∀ sp, nextItem (reference s.grid (s.lane l).settings.offset) (s.lane l) = some (.staged sp) →
      boundaryMet s.grid sp.boundary = false) : exec (.stagedPartApply l) s = .next s := by
  refine congrArg Host.Outcome.next ((whenRunning_running hp).trans ?_)
  rw [stagedMoment, dueItem, if_neg hg]
  split
  · next sp hsp => rw [h sp hsp, if_neg Bool.false_ne_true]
  · rfl

theorem exec_pendingDisableEffect_rests
    (h : ∀ d, nextItem (reference s.grid (s.lane l).settings.offset) (s.lane l) = some (.disable d) →
      boundaryMet s.grid d = false) : exec (.pendingDisableEffect l) s = .next s := by
  refine congrArg Host.Outcome.next ((whenRunning_running hp).trans ?_)
  rw [disableMoment, dueItem, if_neg hg]
  split
  · next d hd => rw [h d hd, if_neg Bool.false_ne_true]
  · rfl

end Moments

section MomentClauses

variable {s : State} {l : LaneId} {b : Beat} (hp : s.phase = .running) (hg : s.grid.state ≠ .unset)
include hp hg

/-- R111: an activation point that is a beat start, or a bar start where the beat is one. -/
theorem exec_laneActivation_beatStart (hs : (s.lane l).state = .arming)
    (hr : RateOk (s.lane l).settings.kind (s.lane l).settings.rate)
    (href : (reference s.grid (s.lane l).settings.offset).atOrBeyond (Pos.beatStart b) = true)
    (ha : (s.lane l).activation = some (.position (Pos.beatStart b)) ∨
      (s.lane l).activation = some (.barStart b) ∧ isBarStart s.grid b = true) :
    exec (.laneActivation l) s = .next (s.setLane l (activatedAt b (s.lane l))) := by
  rcases ha with ha | ⟨ha, hbar⟩
  · rw [exec_laneActivation_due hp hg (nextItem_activation hs ha href) rfl, takeItem_position, activateLane_beatStart hr]
    rfl
  · rw [exec_laneActivation_due hp hg (nextItem_activation hs ha href) hbar, takeItem_barStart, if_pos hbar,
      activateLane_beatStart hr]
    rfl

/-- A boundary of a bar at a beat that is no bar start is not met there (log entry 18). -/
theorem exec_stagedPartApply_noBarStart {p : Patch} (hsp : (s.lane l).staged = some ⟨p, true, b⟩)
    (hbar : isBarStart s.grid b = false) : exec (.stagedPartApply l) s = .next s := by
  refine exec_stagedPartApply_rests hp hg fun sp hnext => ?_
  obtain ⟨-, hheld⟩ := laneItems_holds (nextItem_mem hnext)
  obtain rfl : (⟨p, true, b⟩ : Staged) = sp := Option.some.inj (hsp.symm.trans hheld)
  exact hbar

theorem exec_pendingDisableEffect_noBarStart (hd : (s.lane l).disable = some ⟨true, b⟩)
    (hbar : isBarStart s.grid b = false) : exec (.pendingDisableEffect l) s = .next s := by
  refine exec_pendingDisableEffect_rests hp hg fun d hnext => ?_
  obtain ⟨-, hheld⟩ := laneItems_holds (nextItem_mem hnext)
  obtain rfl : (⟨true, b⟩ : LaneBoundary) = d := Option.some.inj (hd.symm.trans hheld)
  exact hbar

theorem exec_laneActivation_noBarStart (ha : (s.lane l).activation = some (.barStart b))
    (hbar : isBarStart s.grid b = false) : exec (.laneActivation l) s = .next s := by
  refine exec_laneActivation_rests hp hg fun a hnext => ?_
  obtain ⟨-, hheld⟩ := laneItems_holds (nextItem_mem hnext)
  obtain rfl : Activation.barStart b = a := Option.some.inj (ha.symm.trans hheld)
  exact hbar

end MomentClauses

/-- Settles O46: each moment as a command takes the item that is next, where its boundary is met. -/
theorem laneMomentsAtTheirBoundaries : Obligations.LaneMomentsAtTheirBoundaries := by
  intro s l b hp hg ln ref open'
  refine ⟨exec_laneActivation_beatStart hp hg, fun p n hs hr hn href ha => ?_,
    fun p bar x hs hsp href hn hx hr => ⟨fun hm hd => ?_, fun w hm hw hd => ?_, fun hd => ?_⟩,
    fun bar hs hd hsp href hn => ⟨fun hm => ?_, ?_⟩,
    fun _ => exec_laneActivation_noBarStart hp hg, fun _ _ => exec_stagedPartApply_noBarStart hp hg,
    fun _ => exec_pendingDisableEffect_noBarStart hp hg, fun h => ⟨?_, ?_, ?_⟩⟩
  · rw [exec_laneActivation_due hp hg (nextItem_activation hs ha href) rfl, takeItem_position, activateLane_point hr hn]
    rfl
  · obtain ⟨n, hpoint, htake⟩ := takeItem_staged_alone (count := s.fru.count) hx hr (boundaryMet_iff.2 hm) hd
    have hnext := nextItem_staged hs hsp href hn fun d hdis => (hd d hdis).imp_right And.left
    exact ⟨n, hpoint, (exec_stagedPartApply_due hp hg hnext (boundaryMet_iff.2 hm)).trans (by rw [htake]; rfl)⟩
  · have hnext := nextItem_staged hs hsp href hn fun d hdis => .inr (by rw [hd] at hdis; cases hdis; rfl)
    exact (exec_stagedPartApply_due hp hg hnext (boundaryMet_iff.2 hm)).trans
      (by rw [takeItem_staged_disable hx (boundaryMet_iff.2 hm) (boundaryMet_iff.2 hw) hd]; rfl)
  · refine exec_pendingDisableEffect_rests hp hg fun d hnext => ?_
    cases (nextItem_staged hs hsp href hn hd).symm.trans hnext
  · exact (exec_pendingDisableEffect_due hp hg (nextItem_disable hs hd href hn hsp) (boundaryMet_iff.2 hm)).trans
      (by rw [takeItem_disable_met _ (boundaryMet_iff.2 hm)]; rfl)
  · refine exec_stagedPartApply_rests hp hg fun sp hnext => ?_
    cases (nextItem_disable hs hd href hn hsp).symm.trans hnext
  · exact exec_laneActivation_rests hp hg fun a ha => by cases h.symm.trans ha
  · exact exec_stagedPartApply_rests hp hg fun sp hsp => by cases h.symm.trans hsp
  · exact exec_pendingDisableEffect_rests hp hg fun d hd => by cases h.symm.trans hd

end Sys2Proof.Machine
end

section
/-! PROOF. A frame event lane by lane: the order of the lanes, what one lane's part of it leaves of the others, of the pins
and of the ports, and the state that its own part finds (R136, R143, R151, R160, R170; O49). -/

namespace Sys2Proof.Machine

-- Elaborated in turn, as the section on what comes back through a reset says.
set_option deprecated.oldSectionVars true

/-! ### Pins that are no indicators (R161) -/

section PlainPins

variable {s : State} {p : PinId} (hf : (s.pin p).function ≠ .indicator)
include hf

theorem showSource_plainPin (x : Source) : (showSource x s).pin p = s.pin p := by
  rw [showSource_pin]
  split
  · rfl
  · exact if_neg fun e => hf e.1

theorem referenceChange_plainPin (f : Fru) : (referenceChange f s).pin p = s.pin p := by
  rw [referenceChange, raiseHouse_pin]
  exact showSource_plainPin (s := { s with fru := f }) hf _

theorem tcCrossing_plainPin : (tcCrossing s).pin p = s.pin p := by
  have hcount : (countSongBar s).pin p = s.pin p := by simp [State.pin]
  unfold tcCrossing transportReached
  split
  · exact hcount
  · split
    · rw [raiseHouse_pin]
      exact (showSource_plainPin (s := { countSongBar s with tc := _ }) (hcount ▸ hf) _).trans hcount
    · exact hcount

theorem pdCrossing_plainPin : (pdCrossing s).pin p = s.pin p := by
  rw [pdCrossing_pin]
  exact if_neg fun e => hf e.1

theorem beatCrossing_plainPin (b : Bool) : (beatCrossing b s).pin p = s.pin p := by
  have hstages : (crossingStages { s with grid := numberBeat s.grid }).pin p = s.pin p := by simp [State.pin]
  have htc : ∀ {u : State}, u.pin p = s.pin p → (tcCrossing u).pin p = s.pin p := fun hu =>
    (tcCrossing_plainPin (by rwa [hu])).trans hu
  have htold : ∀ {u : State}, u.pin p = s.pin p → (pdCrossing u).pin p = s.pin p := fun hu =>
    (pdCrossing_plainPin (by rwa [hu])).trans hu
  unfold beatCrossing
  dsimp only
  refine htold ?_
  split
  · split
    · exact (raiseHouse_pin _ _ _).trans (htc hstages)
    · exact htc ((raiseHouse_pin _ _ _).trans hstages)
  · exact htc hstages

/-- The Grid Engine's part of a frame event leaves every pin but the indicators. -/
theorem gridFrame_plainPin (b : Bool) : (gridFrame b s).pin p = s.pin p := by
  have hkept : ∀ g, ({ s with grid := g } : State).pin p = s.pin p := fun _ => rfl
  have hcross : ∀ g, (beatCrossing b { s with grid := g }).pin p = s.pin p := fun g =>
    beatCrossing_plainPin (s := { s with grid := g }) hf b
  rcases gridFrame_cases b s with e | ⟨-, e⟩ | ⟨-, e⟩ <;> rw [e]
  · exact hkept _
  · exact hcross _

end PlainPins

/-! ### The order of the lanes (log entry 9) -/

theorem nodup_eraseDups_lanes (named : List LaneId) : named.eraseDups.Nodup := by
  match named with
  | [] => exact List.nodup_nil
  | l :: rest =>
    rw [List.eraseDups_cons]
    refine List.nodup_cons.2 ⟨fun hl => ?_, nodup_eraseDups_lanes _⟩
    simp [List.mem_eraseDups] at hl
termination_by named.length
decreasing_by exact Nat.lt_succ_of_le (List.length_filter_le _ _)

theorem laneOrder_nodup (named : List LaneId) : (laneOrder named).Nodup := by
  refine List.Nodup.append (nodup_eraseDups_lanes named) ((List.nodup_finRange 16).filter _) fun l hl hr => ?_
  simp_all [List.mem_eraseDups]

theorem mem_laneOrder (named : List LaneId) (l : LaneId) : l ∈ laneOrder named := by
  unfold laneOrder
  by_cases h : l ∈ named <;> simp [h, List.mem_eraseDups]

/-- Each lane has one turn, the other lanes before it and behind it. -/
theorem laneOrder_splits (named : List LaneId) (l : LaneId) :
    ∃ before after, laneOrder named = before ++ l :: after ∧ l ∉ before ∧ l ∉ after := by
  obtain ⟨before, after, he⟩ := List.append_of_mem (mem_laneOrder named l)
  have hnodup := List.nodup_middle.1 (he ▸ laneOrder_nodup named)
  obtain ⟨hl, -⟩ := List.nodup_cons.1 hnodup
  exact ⟨before, after, he, fun h => hl (List.mem_append_left _ h), fun h => hl (List.mem_append_right _ h)⟩

/-! ### One lane's part (R136, R143, R144) -/

theorem releaseTarget_lane (x : Settings) (e : Bool) (s : State) (m : LaneId) : (releaseTarget x e s).lane m = s.lane m := by
  rcases releaseTarget_cases x e s with ⟨p, -, -, h⟩ | ⟨p, -, -, -, h⟩ | ⟨-, h⟩ <;> rw [h] <;> rfl

theorem putWalked_lane (l : LaneId) (w : Walked) (s : State) (m : LaneId) :
    (putWalked l w s).lane m = if m = l then w.lane else s.lane m := by
  unfold putWalked
  split
  · exact setLane_lane _ _ _ _
  · exact (releaseTarget_lane _ _ _ _).trans (setLane_lane _ _ _ _)

theorem deliver_lane (l : LaneId) (x : Settings) (e : Emitted) (s : State) (m : LaneId) :
    (deliver l x e s).lane m = s.lane m := by
  unfold deliver
  repeat' split
  all_goals rfl

/-- A lane's emission test: nothing, or its head record's point reaches its target (R143, R144). -/
theorem emitLane_cases (l : LaneId) (s : State) : emitLane l s = s ∨
    ∃ r rest, (s.lane l).queue = r :: rest ∧ emissionReady s (s.lane l) r = true ∧
      emitLane l s = deliver l (s.lane l).settings
        ⟨r.beatFlag, r.barFlag, r.mark, viewAfter (s.lane l).emittedPlaying r.mark⟩
        (s.setLane l (laneEmitted s.fru.count r rest (s.lane l))) := by
  cases hq : (s.lane l).queue with
  | nil => exact .inl (emitLane_empty hq)
  | cons r rest =>
    by_cases hr : emissionReady s (s.lane l) r = true
    · exact .inr ⟨r, rest, rfl, hr, (emitLane_head hq).trans (if_pos hr)⟩
    · exact .inl ((emitLane_head hq).trans (if_neg hr))

theorem emitLane_other {l m : LaneId} (h : m ≠ l) (s : State) : (emitLane l s).lane m = s.lane m := by
  rcases emitLane_cases l s with e | ⟨r, rest, -, -, e⟩ <;> rw [e]
  rw [deliver_lane, setLane_lane_ne _ _ _ _ h]

theorem walkLane_lane (l : LaneId) (s : State) : (walkLane l s).lane l =
    (walk s.grid s.fru.count Config.walkBound (s.lane l)).lane := by
  rw [walkLane, putWalked_lane, if_pos rfl]

theorem laneFrame_on {l : LaneId} {s : State} (hs : s.grid.state ≠ .unset) : laneFrame l s = emitLane l (walkLane l s) :=
  if_neg hs

theorem laneFrame_other {l m : LaneId} (h : m ≠ l) (s : State) : (laneFrame l s).lane m = s.lane m := by
  unfold laneFrame
  split
  · rfl
  · rw [emitLane_other h, walkLane, putWalked_lane, if_neg h]

/-! ### Lanes within their bounds, and the targets they reach -/

/-- A lane that is not OFF, of this kind and with this target. -/
def Reaches (k : LaneKind) (x : Target) (l : LaneId) (s : State) : Prop :=
  (s.lane l).state ≠ .off ∧ (s.lane l).settings.kind = k ∧ (s.lane l).settings.target = x

section OneLane

variable {s : State} {l : LaneId} (h : ∀ m, LaneOk (s.lane m))
include h

theorem walkLane_ok (m : LaneId) : LaneOk ((walkLane l s).lane m) := by
  rw [walkLane, putWalked_lane]
  split
  · exact (walkedOk_walk (h l) s.grid s.fru.count Config.walkBound).ok
  · exact h m

theorem emitLane_ok (m : LaneId) : LaneOk ((emitLane l s).lane m) := by
  rcases emitLane_cases l s with e | ⟨r, rest, hq, -, e⟩ <;> rw [e]
  · exact h m
  · rw [deliver_lane, setLane_lane]
    split
    · exact (h l).emitted hq s.fru.count
    · exact h m

theorem laneFrame_ok (m : LaneId) : LaneOk ((laneFrame l s).lane m) := by
  unfold laneFrame
  split
  · exact h m
  · exact emitLane_ok (walkLane_ok h) m

theorem walkLane_reaches {k : LaneKind} {x : Target} {m : LaneId} (hm : Reaches k x m (walkLane l s)) :
    Reaches k x m s := by
  unfold Reaches at hm ⊢
  rw [walkLane, putWalked_lane] at hm
  split at hm
  · next e =>
    subst e
    obtain ⟨hs, hk, ht⟩ := hm
    have hw := walkedOk_walk (h m) s.grid s.fru.count Config.walkBound
    refine ⟨fun hoff => ?_, hw.kind ▸ hk, hw.target ▸ ht⟩
    cases hwent : (walk s.grid s.fru.count Config.walkBound (s.lane m)).wentOff with
    | none => exact hs ((hw.stays hwent).2 hoff)
    | some e => exact (hw.off (by simp [hwent])).1 hoff
  · exact hm

omit h in
theorem emitLane_reaches {k : LaneKind} {x : Target} {m : LaneId} (hm : Reaches k x m (emitLane l s)) :
    Reaches k x m s := by
  unfold Reaches at hm ⊢
  rcases emitLane_cases l s with e | ⟨r, rest, -, -, e⟩ <;> rw [e] at hm
  · exact hm
  · rw [deliver_lane, setLane_lane] at hm
    split at hm
    · next e => exact e ▸ hm
    · exact hm

/-- No lane's part of a frame event makes a lane reach a target. -/
theorem laneFrame_reaches {k : LaneKind} {x : Target} {m : LaneId} (hm : Reaches k x m (laneFrame l s)) :
    Reaches k x m s := by
  unfold laneFrame at hm
  split at hm
  · exact hm
  · exact walkLane_reaches h (emitLane_reaches hm)

end OneLane

/-! ### What one lane's part touches -/

/-- A lane that holds a record is not OFF. -/
theorem LaneOk.on_of_queue {ln : Lane} (h : LaneOk ln) {r : PointRecord} {rest : List PointRecord}
    (hq : ln.queue = r :: rest) : ln.state ≠ .off := by
  intro hoff
  have hnone := congrArg Lane.queue (h.off hoff)
  rw [hq] at hnone
  cases hnone

/-- No lane but those that reach this target touches this part of the state. -/
def TouchedBy {γ : Type} (k : LaneKind) (x : Target) (part : State → γ) : Prop :=
  ∀ (s : State) (l : LaneId), (∀ m, LaneOk (s.lane m)) → ¬ Reaches k x l s → part (laneFrame l s) = part s

/-- A part that neither a lane's items hold, nor a release or an emission at another target touches. -/
theorem touchedBy_of {γ : Type} {k : LaneKind} {x : Target} {part : State → γ}
    (hset : ∀ l ln s, part (State.setLane s l ln) = part s)
    (hrelease : ∀ y e s, ¬ (Settings.kind y = k ∧ y.target = x) → part (releaseTarget y e s) = part s)
    (hdeliver : ∀ l y e s, ¬ (Settings.kind y = k ∧ y.target = x) → part (deliver l y e s) = part s) :
    TouchedBy k x part := by
  intro s l h hno
  have hwalk : part (walkLane l s) = part s := by
    have hw := walkedOk_walk (h l) s.grid s.fru.count Config.walkBound
    unfold walkLane putWalked
    split
    · exact hset _ _ _
    · next e he =>
      obtain ⟨hon, -⟩ := hw.off (by simp [he])
      refine (hrelease _ _ _ fun hx => hno ⟨hon, ?_⟩).trans (hset _ _ _)
      rwa [hw.kind, hw.target] at hx
  unfold laneFrame
  split
  · rfl
  · refine Eq.trans ?_ hwalk
    rcases emitLane_cases l (walkLane l s) with e | ⟨r, rest, hq, -, e⟩ <;> rw [e]
    exact (hdeliver _ _ _ _ fun hx =>
      hno (walkLane_reaches h ⟨(walkLane_ok h l).on_of_queue hq, hx⟩)).trans (hset _ _ _)

theorem touchedBy_pin (p : PinId) : TouchedBy .pin (.pin p) (State.pin · p) := by
  refine touchedBy_of (fun _ _ _ => rfl) (fun y e s hy => ?_) fun l y e s hy => ?_
  · rcases releaseTarget_cases y e s with ⟨q, hk, ht, he⟩ | ⟨q, -, -, -, he⟩ | ⟨-, he⟩ <;> rw [he]
    · exact setPin_pin_ne _ _ _ _ fun hq => hy ⟨hk, hq ▸ ht⟩
    · rfl
  · unfold deliver
    split
    · next q hk ht => exact setPin_pin_ne _ _ _ _ fun hq => hy ⟨hk, hq ▸ ht⟩
    · rfl
    · split <;> rfl
    · rfl

theorem touchedBy_port (p : PortId) : TouchedBy .stream (.port p) (State.port · p) := by
  refine touchedBy_of (fun _ _ _ => rfl) (fun y e s hy => ?_) fun l y e s hy => ?_
  · rcases releaseTarget_cases y e s with ⟨q, -, -, he⟩ | ⟨q, hk, ht, -, he⟩ | ⟨-, he⟩ <;> rw [he]
    · rfl
    · exact setPort_port_ne _ _ _ _ fun hq => hy ⟨hk, hq ▸ ht⟩
  · unfold deliver
    split
    · rfl
    · next q hk ht => exact setPort_port_ne _ _ _ _ fun hq => hy ⟨hk, hq ▸ ht⟩
    · split <;> rfl
    · rfl

/-! ### The turns of several lanes -/

section Turns

variable {s : State} {order : List LaneId}

theorem turns_lane {l : LaneId} (h : l ∉ order) : (order.foldl (fun s m => laneFrame m s) s).lane l = s.lane l := by
  induction order generalizing s with
  | nil => rfl
  | cons m rest ih =>
    obtain ⟨hm, hrest⟩ := List.ne_and_not_mem_of_not_mem_cons h
    exact (ih hrest).trans (laneFrame_other hm s)

theorem turns_ok (h : ∀ m, LaneOk (s.lane m)) (m : LaneId) :
    LaneOk ((order.foldl (fun s m => laneFrame m s) s).lane m) := by
  induction order generalizing s with
  | nil => exact h m
  | cons l rest ih => exact ih (laneFrame_ok h)

theorem turns_reaches (h : ∀ m, LaneOk (s.lane m)) {k : LaneKind} {x : Target} {l : LaneId}
    (hl : Reaches k x l (order.foldl (fun s m => laneFrame m s) s)) : Reaches k x l s := by
  induction order generalizing s with
  | nil => exact hl
  | cons m rest ih => exact laneFrame_reaches h (ih (laneFrame_ok h) hl)

theorem turns_untouched {γ : Type} {k : LaneKind} {x : Target} {part : State → γ} (hpart : TouchedBy k x part)
    (h : ∀ m, LaneOk (s.lane m)) (hno : ∀ m ∈ order, ¬ Reaches k x m s) :
    part (order.foldl (fun s m => laneFrame m s) s) = part s := by
  induction order generalizing s with
  | nil => rfl
  | cons m rest ih =>
    have hrest := ih (s := laneFrame m s) (laneFrame_ok h) fun l hl hr =>
      hno l (List.mem_cons_of_mem _ hl) (laneFrame_reaches h hr)
    exact hrest.trans (hpart s m h (hno m List.mem_cons_self))

end Turns

/-- The state u that the turn of lane l finds, of a frame event's lanes from s to v. -/
def FindsTurn (l : LaneId) (s u v : State) : Prop :=
  u.lane l = s.lane l ∧ u.grid = s.grid ∧ u.fru = s.fru ∧ v.lane l = (laneFrame l u).lane l ∧
    ∀ {γ : Type} {k : LaneKind} {x : Target} {part : State → γ}, TouchedBy k x part →
      (∀ m, m ≠ l → ¬ Reaches k x m s) →
      part u = part s ∧ (¬ Reaches k x l (laneFrame l u) → part v = part (laneFrame l u))

/-- Each lane's turn finds its lane as the frame event found it, and no lane behind it changes what it left (log entry 9). -/
theorem lanesFrame_turn {s : State} (h : ∀ m, LaneOk (s.lane m)) (named : List LaneId) (l : LaneId) :
    ∃ u, (∀ m, LaneOk (u.lane m)) ∧ FindsTurn l s u (lanesFrame named s) := by
  obtain ⟨before, after, horder, hbefore, hafter⟩ := laneOrder_splits named l
  have hu := turns_ok (order := before) h
  have hturns : lanesFrame named s = after.foldl (fun s m => laneFrame m s)
      (laneFrame l (before.foldl (fun s m => laneFrame m s) s)) := by
    rw [lanesFrame, horder, List.foldl_append, List.foldl_cons]
  rw [hturns]
  have hgrid : (before.foldl (fun s m => laneFrame m s) s).grid = s.grid := foldl_keeps _ State.grid (by simp) _ _
  have hfru : (before.foldl (fun s m => laneFrame m s) s).fru = s.fru := foldl_keeps _ State.fru (by simp) _ _
  refine ⟨_, hu, turns_lane hbefore, hgrid, hfru, turns_lane hafter, fun hpart hno => ⟨?_, fun hl => ?_⟩⟩
  · exact turns_untouched hpart h fun m hm => hno m fun e => hbefore (e ▸ hm)
  · refine turns_untouched hpart (laneFrame_ok hu) fun m hm hr => ?_
    by_cases e : m = l
    · exact hl (e ▸ hr)
    · exact hno m e (turns_reaches h (laneFrame_reaches hu hr))

end Sys2Proof.Machine
end

section
/-! PROOF. The walk and the emission of each lane on a frame event, and the target that a disable releases (R112, R136,
R143 to R146, R151, R160, R170; O49). -/

namespace Sys2Proof.Machine

-- Elaborated in turn, as the section on what comes back through a reset says.
set_option deprecated.oldSectionVars true

/-! ### The emitted view through a walk (R146, R170) -/

theorem takeItem_emitted (g : Grid) (count : Frame) (i : WalkItem) (ln : Lane) :
    ((takeItem g count i ln).wentOff = none → (takeItem g count i ln).lane.emittedPlaying = ln.emittedPlaying) ∧
      ∀ e, (takeItem g count i ln).wentOff = some e → e = ln.emittedPlaying := by
  cases i with
  | activation a =>
    cases a with
    | position p => exact ⟨fun _ => rfl, nofun⟩
    | barStart b =>
      rw [takeItem_barStart]
      exact ⟨fun _ => by dsimp only; split <;> rfl, nofun⟩
  | staged sp =>
    unfold takeItem
    dsimp only
    split
    · split
      · exact ⟨nofun, fun e h => (Option.some.inj h).symm⟩
      · exact ⟨fun _ => rfl, nofun⟩
    · exact ⟨fun _ => rfl, nofun⟩
  | disable d =>
    unfold takeItem
    dsimp only
    split
    · exact ⟨nofun, fun e h => (Option.some.inj h).symm⟩
    · exact ⟨fun _ => rfl, nofun⟩
  | point n =>
    refine ⟨fun _ => ?_, nofun⟩
    show (takePoint g count n ln).emittedPlaying = ln.emittedPlaying
    unfold takePoint
    split <;> rfl

/-- A disable in a walk tells the emitted view that the walk found. -/
theorem walk_emitted (g : Grid) (count : Frame) (fuel : Nat) {ln : Lane} {e : Bool}
    (h : (walk g count fuel ln).wentOff = some e) : e = ln.emittedPlaying := by
  induction fuel generalizing ln with
  | zero => cases h
  | succ n ih =>
    unfold walk at h
    split at h
    · cases h
    · next i _ =>
      obtain ⟨hkeeps, htells⟩ := takeItem_emitted g count i ln
      dsimp only at h
      split at h
      · exact htells e h
      · next hnone => exact (ih h).trans (hkeeps hnone)

/-! ### What a walk and an emission leave of their lane -/

section OneTurn

variable {u : State} {l : LaneId} (h : ∀ m, LaneOk (u.lane m))
include h

/-- A walk that its lane did not end leaves the rest of the state. -/
theorem walkLane_on (hon : ((walkLane l u).lane l).state ≠ .off) :
    walkLane l u = u.setLane l ((walkLane l u).lane l) := by
  have hw := walkedOk_walk (h l) u.grid u.fru.count Config.walkBound
  rw [walkLane_lane] at hon ⊢
  unfold walkLane putWalked
  split
  · rfl
  · next e he => exact absurd (hw.off (by simp [he])).2 hon

/-- A walk that its lane ended releases the lane's target (R112). -/
theorem walkLane_off (hwas : (u.lane l).state ≠ .off) (hoff : ((walkLane l u).lane l).state = .off) :
    walkLane l u = releaseTarget ((walkLane l u).lane l).settings (u.lane l).emittedPlaying
      (u.setLane l ((walkLane l u).lane l)) := by
  have hw := walkedOk_walk (h l) u.grid u.fru.count Config.walkBound
  rw [walkLane_lane] at hoff ⊢
  unfold walkLane putWalked
  split
  · next hnone => exact absurd ((hw.stays hnone).1 hoff) hwas
  · next e he => rw [walk_emitted _ _ _ he]

/-- An OFF lane emits nothing (R151). -/
theorem emitLane_off (hoff : (u.lane l).state = .off) : emitLane l u = u :=
  emitLane_empty (congrArg Lane.queue ((h l).off hoff))

end OneTurn

theorem viewAfter_eq (old : Bool) (mark : Option TransportKind) : viewAfter old mark = viewOf old mark := by
  cases mark with
  | none => rfl
  | some k => cases k <;> rfl

theorem laneEmitted_eq (count : Frame) (r : PointRecord) (rest : List PointRecord) (ln : Lane) :
    laneEmitted count r rest ln = { ln with
      queue := (if 1 < r.count then [⟨r.due, false, false, none, r.count - 1⟩] else []) ++ rest
      lastEmission := some count
      emittedPlaying := viewOf ln.emittedPlaying r.mark } := by
  rw [← viewAfter_eq]
  rfl

theorem emitLane_emits {l : LaneId} {s : State} {r : PointRecord} {rest : List PointRecord}
    (hq : (s.lane l).queue = r :: rest) (hr : emissionReady s (s.lane l) r = true) :
    (emitLane l s).lane l = laneEmitted s.fru.count r rest (s.lane l) := by
  rw [emitLane_head hq, if_pos hr, deliver_lane, setLane_lane_same]

theorem emitLane_waits {l : LaneId} {s : State} {r : PointRecord} {rest : List PointRecord}
    (hq : (s.lane l).queue = r :: rest) (hr : ¬ emissionReady s (s.lane l) r = true) : emitLane l s = s := by
  rw [emitLane_head hq, if_neg hr]

theorem pulseEnded_iff {s : State} {x : Settings} : pulseEnded s x = true ↔
    ∀ p a, x.kind = .pin → x.waveform = .pulse → x.target = .pin p → (s.pin p).activeUntil = some a →
      (s.fru.count - (a + BitVec.ofNat 32 x.spacing)).toNat < 2147483648 := by
  unfold pulseEnded
  split
  · next p hk hw ht =>
    rw [ht]
    cases ha : (s.pin p).activeUntil with
    | none => exact ⟨fun _ q a _ _ he hq => (nomatch (Target.pin.inj he ▸ ha).symm.trans hq), fun _ => rfl⟩
    | some a =>
      refine (dueReached_iff _ _).trans ⟨fun h q b _ _ he hq => ?_, fun h => h p a hk hw rfl ha⟩
      rw [← Target.pin.inj he, ha] at hq
      exact Option.some.inj hq ▸ h
  · next hnot => exact ⟨fun _ p _ hk hw ht => (hnot p hk hw ht).elim, fun _ => rfl⟩

/-- The test of R143 reads the pin's active-until frame as it stood before the frame event's timers (R155). -/
theorem emissionReady_iff {s : State} {ln : Lane} {r : PointRecord} {pins : PinId → Pin}
    (hpin : ∀ p, ln.settings.kind = .pin → ln.settings.target = .pin p →
      (s.pin p).activeUntil = (activeUntilExpire s.fru.count (pins p)).activeUntil) :
    emissionReady s ln r = true ↔ Emits s.fru.count ln r pins := by
  have hspacing : spacingPassed ln s.fru.count = true ↔
      ∀ e, ln.lastEmission = some e → ln.settings.spacing ≤ (s.fru.count - e).toNat := by
    unfold spacingPassed
    cases ln.lastEmission with
    | none => exact ⟨fun _ => nofun, fun _ => rfl⟩
    | some e => exact decide_eq_true_iff.trans ⟨fun h _ he => Option.some.inj he ▸ h, fun h => h e rfl⟩
  have hpulse : pulseEnded s ln.settings = true ↔ ∀ p a, ln.settings.kind = .pin → ln.settings.waveform = .pulse →
      ln.settings.target = .pin p → (activeUntilExpire s.fru.count (pins p)).activeUntil = some a →
      (s.fru.count - (a + BitVec.ofNat 32 ln.settings.spacing)).toNat < 2147483648 := by
    refine pulseEnded_iff.trans (forall₂_congr fun p a => forall_congr' fun hk => forall_congr' fun _ =>
      forall_congr' fun ht => ?_)
    rw [hpin p hk ht]
  rw [emissionReady, Bool.and_eq_true, Bool.and_eq_true, dueReached_iff, hspacing, hpulse, and_assoc]
  rfl

/-! ### The frame event as a command (R29, R31, R34, R36) -/

/-- The command leaves what its frame event left, but for the reference, its indicators and the links: a switch that waited
takes effect behind it. -/
def LeavesFrame (v t : State) : Prop :=
  t.lanes = v.lanes ∧ t.grid = v.grid ∧ t.ports = v.ports ∧ t.fru.count = v.fru.count ∧
    ∀ p, (v.pin p).function ≠ .indicator → t.pin p = v.pin p

theorem LeavesFrame.refl (v : State) : LeavesFrame v v := ⟨rfl, rfl, rfl, rfl, fun _ _ => rfl⟩

theorem leavesFrame_referenceChange {v : State} {f : Fru} (hf : f.count = v.fru.count) :
    LeavesFrame v (referenceChange f v) :=
  ⟨by simp, by simp, by simp [referenceChange], by simpa using hf, fun _ hp => referenceChange_plainPin hp f⟩

theorem leavesFrame_switchExternal (v : State) : LeavesFrame v (switchExternal v) := by
  unfold switchExternal
  refine leavesFrame_referenceChange ?_
  rfl

theorem leavesFrame_switchInternal (v : State) : LeavesFrame v (switchInternal v) := by
  unfold switchInternal
  refine leavesFrame_referenceChange ?_
  rfl

theorem leavesFrame_internalBoundary (o : FrameOrder) (s : State) :
    LeavesFrame (frameEventWhole o s) (internalBoundary o s) := by
  unfold internalBoundary
  dsimp only
  split
  · exact .refl _
  · exact leavesFrame_switchExternal _
  · exact leavesFrame_switchInternal _

theorem leavesFrame_wckFrameEdge (o : FrameOrder) (s : State) : LeavesFrame (frameEventWhole o s) (wckFrameEdge o s) := by
  unfold wckFrameEdge
  dsimp only
  split
  · exact leavesFrame_switchInternal _
  · exact .refl _
  · exact .refl _

/-- FRAME_EVENT is a frame event on the reference items that it finds. -/
theorem frameEvent_leaves {s t : State} {o : FrameOrder} (hp : s.phase = .running)
    (ht : exec (.frameEvent o) s = .next t) :
    ∃ f : Fru, f.count = s.fru.count ∧ LeavesFrame (frameEventWhole o { s with fru := f }) t := by
  have hexec : exec (.frameEvent o) s = .next (frameMoment o s) := congrArg Host.Outcome.next (whenRunning_running hp)
  obtain rfl : frameMoment o s = t := Host.Outcome.next.inj (hexec.symm.trans ht)
  have hinternal : ∃ f : Fru, f.count = s.fru.count ∧
      LeavesFrame (frameEventWhole o { s with fru := f }) (internalBoundary o s) :=
    ⟨s.fru, rfl, leavesFrame_internalBoundary o s⟩
  unfold frameMoment
  split
  · exact hinternal
  · exact hinternal
  · refine ⟨{ s.fru with periodOpen := true, place := placeAfterFrame s.fru.divisor }, rfl, ?_⟩
    exact leavesFrame_wckFrameEdge o _
  · exact hinternal

end Sys2Proof.Machine
end

section
/-! PROOF. What a frame event leaves of one lane, of the pin it held and of the port it has to itself (R136, R143, R145,
R151, R160, R170; O49). -/

namespace Sys2Proof.Machine

-- Elaborated in turn, as the section on what comes back through a reset says.
set_option deprecated.oldSectionVars true

/-! ### What the lanes' part of a frame event finds, and what follows it -/

theorem lastEmissionExpire_keeps (now : Frame) (ln : Lane) : (lastEmissionExpire now ln).state = ln.state ∧
    (lastEmissionExpire now ln).settings = ln.settings ∧
    (lastEmissionExpire now ln).emittedPlaying = ln.emittedPlaying := by
  unfold lastEmissionExpire
  split
  · split <;> exact ⟨rfl, rfl, rfl⟩
  · exact ⟨rfl, rfl, rfl⟩

/-- The state that the lanes' part of a frame event finds: the grid has moved on. -/
def lanesFind (o : FrameOrder) (s : State) : State := gridFrame o.transportFirst (frameBegun o s)

section Find

variable (o : FrameOrder) (s : State)

theorem lanesFind_lane (l : LaneId) : (lanesFind o s).lane l = lastEmissionExpire (s.fru.count + 1) (s.lane l) := by
  simp only [lanesFind, State.lane, gridFrame_keeps]
  exact mapEach_get _ _ _

theorem lanesFind_count : (lanesFind o s).fru.count = s.fru.count + 1 := by simp [lanesFind]

theorem lanesFind_unset : (lanesFind o s).grid.state = s.grid.state := by simp [lanesFind]

theorem lanesFind_port (p : PortId) : (lanesFind o s).port p = s.port p := by simp [lanesFind, State.port]

theorem lanesFind_pin {p : PinId} (hf : (s.pin p).function ≠ .indicator) :
    (lanesFind o s).pin p = pinBegun (o.latePins.contains p) (s.fru.count + 1) (s.pin p) := by
  have hb := frameBegun_pin o s p
  rw [lanesFind, gridFrame_plainPin _ _, hb]
  rwa [hb, (pinBegun_keeps _ _ _).1]

theorem lanesFind_reaches {k : LaneKind} {x : Target} {l : LaneId} : Reaches k x l (lanesFind o s) ↔ Reaches k x l s := by
  obtain ⟨hstate, hsettings, -⟩ := lastEmissionExpire_keeps (s.fru.count + 1) (s.lane l)
  rw [Reaches, lanesFind_lane, hstate, hsettings]
  exact Iff.rfl

/-- The timers and the links behind the lanes' part leave the lanes, the ports and the grid. -/
theorem frameEventWhole_after : (frameEventWhole o s).lanes = (lanesFrame o.lanes (lanesFind o s)).lanes ∧
    (frameEventWhole o s).ports = (lanesFrame o.lanes (lanesFind o s)).ports ∧
    (frameEventWhole o s).grid = (lanesFind o s).grid ∧
    ∀ p, (frameEventWhole o s).pin p = pinEnded (o.latePins.contains p) (s.fru.count + 1)
      ((lanesFrame o.lanes (lanesFind o s)).pin p) := by
  have hwhole : frameEventWhole o s = linksFrame (timersEnd (fun p => o.latePins.contains p)
      (lanesFrame o.lanes (lanesFind o s))) := rfl
  refine ⟨by simp [hwhole], by simp [hwhole], by simp [hwhole], fun p => ?_⟩
  have hlinks : ∀ v, (linksFrame v).pin p = v.pin p := fun v => by simp [State.pin]
  rw [hwhole, hlinks, timersEnd_pin, (lanesFrame_keeps _ _).2.2.1, lanesFind_count]
  rfl

end Find

theorem pinBegun_activeUntil (late : Bool) (now : Frame) (x : Pin) :
    (pinBegun late now x).activeUntil = (activeUntilExpire now x).activeUntil := by
  have hend : ∀ y : Pin, (timerEnd now y).activeUntil = y.activeUntil := by
    intro y
    unfold timerEnd
    split
    · split <;> rfl
    · rfl
  unfold pinBegun
  split
  · rfl
  · exact hend _

/-- No timer of the frame event changes a released pin. -/
theorem pinEnded_released (late : Bool) (now : Frame) (x : Pin) : pinEnded late now (pinReleased x) = pinReleased x := by
  unfold pinEnded
  split <;> rfl

/-! ### One lane, its pin and its port behind the command (R136, R143, R160, R170) -/

/-- The turn of lane l, found at u, in the frame event of a command that leaves t: the lane as its last emission frame
expired, on the count and the grid of t; the pin it held as the frame event's first timers left it; the port it has to
itself untouched; and each of them in t as the turn leaves it. -/
def FrameTurn (o : FrameOrder) (l : LaneId) (s t u : State) : Prop :=
  (∀ m, LaneOk (u.lane m)) ∧ u.lane l = lastEmissionExpire t.fru.count (s.lane l) ∧ u.grid = t.grid ∧
    u.grid.state = s.grid.state ∧ u.fru.count = t.fru.count ∧ t.lane l = (laneFrame l u).lane l ∧
    (∀ p, holdsPin s l p → u.pin p = pinBegun (o.latePins.contains p) t.fru.count (s.pin p) ∧
      (¬ Reaches .pin (.pin p) l (laneFrame l u) → ((laneFrame l u).pin p).function ≠ .indicator →
        t.pin p = pinEnded (o.latePins.contains p) t.fru.count ((laneFrame l u).pin p))) ∧
    ∀ p, (∀ m, m ≠ l → ¬ Reaches .stream (.port p) m s) → u.port p = s.port p ∧
      (¬ Reaches .stream (.port p) l (laneFrame l u) → t.port p = (laneFrame l u).port p)

theorem frameEvent_turn {s t : State} {o : FrameOrder} (hs : Safe s) (hp : s.phase = .running)
    (ht : exec (.frameEvent o) s = .next t) (l : LaneId) : ∃ u, FrameTurn o l s t u := by
  obtain ⟨f, hf, hlanes, hgrid, hports, hcount, hpins⟩ := frameEvent_leaves hp ht
  obtain ⟨hlanes', hports', hgrid', hpins'⟩ := frameEventWhole_after o { s with fru := f }
  have hnow : t.fru.count = f.count + 1 := hcount.trans (by simp)
  have hb : ∀ m, LaneOk ((lanesFind o { s with fru := f }).lane m) := fun m =>
    (lanesFind_lane o { s with fru := f } m).symm ▸ (hs.lanes.lane m).lastEmissionExpire _
  have hreach : ∀ {k x m}, Reaches k x m (lanesFind o { s with fru := f }) → Reaches k x m s :=
    (lanesFind_reaches o { s with fru := f }).1
  obtain ⟨u, hok, hlane, hugrid, hufru, hends, hparts⟩ := lanesFrame_turn hb o.lanes l
  refine ⟨u, hok, ?_, ?_, ?_, ?_, ?_, fun p hheld => ?_, fun p halone => ?_⟩
  · rw [hlane, lanesFind_lane, hnow]
    rfl
  · rw [hugrid, hgrid, hgrid']
  · rw [hugrid, lanesFind_unset]
  · rw [hufru, lanesFind_count, hnow]
  · rw [← hends]
    simp only [State.lane, hlanes, hlanes']
  · have hfun : (s.pin p).function = .lane := (hs.pins.lane p).2 ⟨l, hheld⟩
    have hfind : (lanesFind o { s with fru := f }).pin p = pinBegun (o.latePins.contains p) (f.count + 1) (s.pin p) :=
      lanesFind_pin o { s with fru := f } (fun e => nomatch hfun.symm.trans e)
    obtain ⟨hfound, hleft⟩ := hparts (touchedBy_pin p) fun m hne hm => hne (hs.pins.unique _ _ p (hreach hm) hheld)
    refine ⟨hfound.trans (hnow ▸ hfind), fun hgone hind => ?_⟩
    have hv := hpins' p
    rw [hleft hgone] at hv
    rw [hpins p ?_, hv, hnow]
    rw [hv]
    unfold pinEnded
    split
    · rwa [(timerEnd_keeps _ _).1]
    · exact hind
  · obtain ⟨hfound, hleft⟩ := hparts (touchedBy_port p) fun m hne hm => halone m hne (hreach hm)
    refine ⟨hfound.trans (lanesFind_port o { s with fru := f } p), fun hgone => ?_⟩
    rw [← hleft hgone]
    simp only [State.port, hports, hports']

section Turn

variable {o : FrameOrder} {l : LaneId} {s t u : State} (h : FrameTurn o l s t u)
include h

theorem FrameTurn.reaches {k : LaneKind} {x : Target} (hl : Reaches k x l u) : Reaches k x l s := by
  obtain ⟨-, hlane, -⟩ := h
  obtain ⟨hstate, hsettings, -⟩ := lastEmissionExpire_keeps t.fru.count (s.lane l)
  unfold Reaches at hl ⊢
  rwa [hlane, hstate, hsettings] at hl

theorem FrameTurn.walked : (walkLane l u).lane l = walkedOn t (s.lane l) := by
  obtain ⟨-, hlane, hgrid, -, hcount, -⟩ := h
  rw [walkLane_lane, hlane, hgrid, hcount]
  rfl

/-- The lane behind the command is that of its emission test. -/
theorem FrameTurn.left (hg : s.grid.state ≠ .unset) : t.lane l = (emitLane l (walkLane l u)).lane l := by
  obtain ⟨-, -, -, hstate, -, hleft, -⟩ := h
  rw [hleft, laneFrame_on (hstate ▸ hg)]

/-- The emission test of the turn is that of the statement's words (R143). -/
theorem FrameTurn.ready_iff {r : PointRecord} {rest : List PointRecord} (hq : (walkedOn t (s.lane l)).queue = r :: rest) :
    emissionReady (walkLane l u) ((walkLane l u).lane l) r = true ↔ Emits t.fru.count (walkedOn t (s.lane l)) r s.pin := by
  have hreaches := @h.reaches
  have hwalked := h.walked
  obtain ⟨hok, -, -, -, hcount, -, hpins, -⟩ := h
  have hnow : (walkLane l u).fru.count = t.fru.count := by simp [walkLane, hcount]
  have hon := (walkLane_ok (l := l) hok l).on_of_queue (hwalked ▸ hq)
  rw [← hwalked, ← hnow]
  refine emissionReady_iff fun p hk hx => ?_
  obtain ⟨hfound, -⟩ := hpins p (hreaches (walkLane_reaches hok ⟨hon, hk, hx⟩))
  rw [walkLane_on hok hon, setLane_pin, setLane_fru, hfound, pinBegun_activeUntil, hcount]

/-- Where the walk ended the lane, its turn is the release of its target (R112). -/
theorem FrameTurn.released (hg : s.grid.state ≠ .unset) (hwas : (s.lane l).state ≠ .off)
    (hoff : (walkedOn t (s.lane l)).state = .off) : laneFrame l u =
      releaseTarget (walkedOn t (s.lane l)).settings (s.lane l).emittedPlaying
        (u.setLane l (walkedOn t (s.lane l))) := by
  have hwalked := h.walked
  obtain ⟨hok, hlane, -, hstate, -⟩ := h
  obtain ⟨hkept, -, hemitted⟩ := lastEmissionExpire_keeps t.fru.count (s.lane l)
  have hoff' : ((walkLane l u).lane l).state = .off := hwalked ▸ hoff
  have hwas' : (u.lane l).state ≠ .off := by rwa [hlane, hkept]
  rw [laneFrame_on (hstate ▸ hg), emitLane_off (walkLane_ok hok) hoff', walkLane_off hok hwas' hoff', hwalked, hlane,
    hemitted]

/-- A lane that its walk ended reaches nothing behind its turn, and what it targets now it targeted before. -/
theorem FrameTurn.ended (hg : s.grid.state ≠ .unset) (hwas : (s.lane l).state ≠ .off)
    (hoff : (walkedOn t (s.lane l)).state = .off) (k : LaneKind) (x : Target) :
    ¬ Reaches k x l (laneFrame l u) ∧ ((walkedOn t (s.lane l)).settings.kind = k →
      (walkedOn t (s.lane l)).settings.target = x → Reaches k x l s) := by
  refine ⟨fun hr => hr.1 ?_, fun hk hx => ⟨hwas, ?_⟩⟩
  · rw [h.released hg hwas hoff, releaseTarget_lane, setLane_lane_same, hoff]
  · obtain ⟨hok, hlane, hgrid, -, hcount, -⟩ := h
    have hw := walkedOk_walk (hok l) u.grid u.fru.count Config.walkBound
    rw [hlane, hgrid, hcount] at hw
    obtain ⟨-, hsettings, -⟩ := lastEmissionExpire_keeps t.fru.count (s.lane l)
    rw [← hk, ← hx, ← hsettings]
    exact ⟨hw.kind.symm, hw.target.symm⟩

end Turn

/-- Settles O49: each lane's turn is its walk and its emission test, and what the turn leaves stands in the next state. -/
theorem emissionsArePaced : Obligations.EmissionsArePaced := by
  intro s t o l hs hp ht
  refine ⟨fun hg => ?_, fun hg => ?_⟩
  · obtain ⟨f, -, hlanes, -, -, hcount, -⟩ := frameEvent_leaves hp ht
    have hunset := (frameEventWhole_unset (s := { s with fru := f }) hg o).2 l
    have hnow : t.fru.count = f.count + 1 := hcount.trans (by simp)
    rw [hnow]
    exact (congrArg (·[l]) hlanes).trans hunset
  obtain ⟨u, hturn⟩ := frameEvent_turn hs hp ht l
  have hwalked := hturn.walked
  have hleft := hturn.left hg
  refine ⟨fun hq => ?_, fun r rest hq => ⟨fun hno => ?_, fun hemits => ?_⟩, fun hwas hoff => ⟨fun p hk hx => ?_,
    fun p hk hx halone => ?_⟩⟩
  · rw [hleft, emitLane_empty (hwalked ▸ hq), hwalked]
  · rw [hleft, emitLane_waits (hwalked ▸ hq) (mt (hturn.ready_iff hq).1 hno), hwalked]
  · rw [hleft, emitLane_emits (hwalked ▸ hq) ((hturn.ready_iff hq).2 hemits), hwalked, laneEmitted_eq]
    have hnow : (walkLane l u).fru.count = t.fru.count := by
      obtain ⟨-, -, -, -, hcount, -⟩ := hturn
      simp [walkLane, hcount]
    rw [hnow]
  · obtain ⟨hgone, hheld⟩ := hturn.ended hg hwas hoff .pin (.pin p)
    have hreleased := hturn.released hg hwas hoff
    obtain ⟨-, -, -, -, -, -, hpins, -⟩ := hturn
    have hheld := hheld hk hx
    obtain ⟨hfound, hends⟩ := hpins p hheld
    have hpin : (laneFrame l u).pin p = pinReleased (u.pin p) := by
      rw [hreleased, releaseTarget, hk, hx]
      exact setPin_pin_same _ _ _
    have hfun : (s.pin p).function = .lane := (hs.pins.lane p).2 ⟨l, hheld⟩
    have hsource : (s.pin p).source = none := by
      have hnone := mt (hs.pins.source p).1 (fun e => nomatch hfun.symm.trans e)
      simpa using hnone
    obtain ⟨-, hpol, hsrc⟩ := pinBegun_keeps (o.latePins.contains p) t.fru.count (s.pin p)
    rw [hends hgone (by rw [hpin]; exact nofun), hpin, pinEnded_released, hfound, pinReleased, hpol, hsrc, hsource]
  · obtain ⟨hgone, -⟩ := hturn.ended hg hwas hoff .stream (.port p)
    have hreleased := hturn.released hg hwas hoff
    obtain ⟨-, -, -, -, -, -, -, hports⟩ := hturn
    obtain ⟨hfound, hends⟩ := hports p fun m hne hm => halone m hne hm.1 hm.2.2
    rw [hends hgone, hreleased, releaseTarget, hk, hx, ← hfound]
    cases (s.lane l).emittedPlaying with
    | true => exact setPort_port_same _ _ _
    | false => rfl

end Sys2Proof.Machine
end
